-- ==== Sys2Proof/Word.lean ====
section
/-! DEFINITION. The word types of the module: 32-bit registers (R12), bytes, 64-bit counters (R17). -/

namespace Sys2Proof

/-- A register word (R12: registers are 32-bit). -/
abbrev Word := BitVec 32

/-- One byte of a frame, an image or a buffer. -/
abbrev Byte := BitVec 8

end Sys2Proof
end

