-- ==== Sys2Proof/Syntax.lean ====
section
/-! DEFINITION. The commands of the block: one constructor of `Instr` for each row of spec/opcode_table.json.
Operands carry what the command brings from outside (a written value, a measured quantity, a received frame);
the table gives its rows no operands, so their choice is the model's (log entry 2). An operand with a default value says
what a plain run of the command finds: no memory error, a whole word. -/

namespace Sys2Proof

/-- Who makes a register access: the requester codes 0 to 6 of R455. -/
inductive Requester where
  | hostPcie | spi | safetyPair | hart0 | hart1 | hart2 | hart3
  deriving DecidableEq, Repr

/-- What one finished measurement of the wiring survey brings (R43): the target's own units. -/
inductive SurveyItem where
  /-- VBAT_A (0) or VBAT_B (1), mV. -/
  | vbat (feed mv : Nat)
  /-- Internal rail k, mV. -/
  | rail (k mv : Nat)
  /-- Temperature k in SVY_TEMP order, 0.1 °C. -/
  | temp (k : Nat) (deciC : Int)
  /-- CAN channel: measured parallel termination in 0.1 Ω (`none` open), recessive levels, dominant differential, STATE. -/
  | can (n : Nat) (ohmX10 : Option Nat) (recH recL domDiff : Int) (st : Nat)
  /-- A CAN channel that offered no 32 idle intervals within 100 ms (R44). -/
  | canNoIdle (n : Nat)
  /-- BASE-T1 port: STATE and distance in dm (R238). -/
  | eth (p st distDm : Nat)
  /-- LIN channel: STATE, recessive and dominant level in 100 mV. -/
  | lin (m st recv dom : Nat)
  /-- Switch input k, mV. -/
  | sw (k mv : Nat)
  /-- Safe output k: STATE and load current, mA. -/
  | so (k st ma : Nat)
  deriving DecidableEq, Repr

/-- What a memory's ECC found (R66, R156): nothing, a corrected single-bit error, or a multi-bit error. -/
inductive Ecc where
  | ok | corrected | multi
  deriving DecidableEq, Repr

/-- What a read of the pool found (R105, R133): a corrected error, a multi-bit error in a cell, one in a descriptor or
link, or a stored FCS that fails over the stored bytes. -/
inductive PoolEcc where
  | ok | corrected | cell | desc | fcs
  deriving DecidableEq, Repr

/-- The kinds of CAN error of ISO 11898-1 as LAST_ERR codes them. -/
inductive CanErr where
  | bit | stuff | form | crc | ack
  deriving DecidableEq, Repr

/-- Where a CAN error falls: at a stuff bit of the arbitration field that was sent recessive and read dominant (ISO
11898-1's exception), in the data phase of an XL frame, or elsewhere (R194, R204). -/
inductive CanWhere where
  | arbitrationStuff | xlData | elsewhere
  /-- as an active error flag or an overload flag is sent, or in the dominant bits after one -/
  | flag
  deriving DecidableEq, Repr

/-- A tamper source: the record bits of R298. -/
inductive TamperSource where
  | mesh | supply | clock | temperature | debugOpen | testLand
  deriving DecidableEq, Repr

/-- What the TAP's instruction register takes: IDCODE, BYPASS, OPEN_REQUEST, a boundary-scan instruction, or a debug access
(R302). -/
inductive TapInstr where
  | idcode | bypass | openRequest | boundaryScan | debug
  deriving DecidableEq, Repr

/-- A rail of the main die (R363): only the core rail's second failure holds the module in reset (R365). -/
inductive MainRail where
  | core | sram | io
  deriving DecidableEq, Repr

/-- What a listener or pin showed to the always-on domain (R343, R345); a WUF listener's frame with its header (R197). -/
inductive WakeSource where
  | canWup (n : Nat) | canWuf (n : Nat) (frame : List Byte) | tc10 (p : Nat) | lin (m us : Nat) | switch (k : Nat) | wakeReq | alarm
  deriving DecidableEq, Repr

/-- A command of the block: a register access, an event of a bus or a pin, or a step of one of its engines. -/
inductive Instr where
  -- register accesses and pops
  /-- A write of `val` with byte enables `be` to `addr` (R12, R13). -/
  | registerWrite (req : Requester) (addr : Nat) (be : BitVec 4) (val : Word)
  /-- A host read of a firmware-reserved register, with the byte enables of its word (R12, R456). -/
  | hostReservedRead (req : Requester) (addr : Nat) (be : BitVec 4 := 0xF) (dwords : Nat := 1)
  /-- A read of CPL_POP[k] of `dwords` DWords, with the byte enables of its word (R12, R103, R459). -/
  | cplPopRead (req : Requester) (k dwords : Nat) (be : BitVec 4 := 0xF) (ecc : PoolEcc := .ok)
  /-- The oldest stalled RS read of `req` reaches its stall limit (R15). -/
  | popStallExpire (req : Requester)
  | stallLimitWrite (req : Requester) (val : Word)
  | cplFree (req : Requester) (val : Word)
  -- power, start and survey
  /-- The higher feed has held 6.5 V (R364); what first start and the reservoir check find (R287, R301). -/
  | powerOn (mv : Nat) (tstDriven meshBroken reservoirLow : Bool) (entropyFails : Nat) (kt : List (Nat × Ecc) := [])
  /-- The higher feed at `mv`, below 6.0 V for `lowMs` (R29, R30). -/
  | powerFail (mv lowMs : Nat)
  /-- The higher feed has stayed above 6.5 V for `heldMs` (R30). -/
  | powerRestart (mv heldMs : Nat)
  | feedLost (mvA mvB : Int)
  | supplyRange (mv : Nat)
  | tempMeasure (mainDie phyDie lineDie lid : Int)
  /-- Gaffer step for a unit bit of GAF_UNITS; it regulated or not; it had to wait for an earlier current (R363, R365). -/
  | unitPowerStep (unit : Nat) (regulated waited : Bool) (microOk : Bool := true) (rail : MainRail := .core)
  | coreRailRetry (regulated : Bool)
  /-- The reservoir reaches its firing level; what a first start then finds (R287, R301). -/
  | reservoirCharged (tstDriven : Bool) (entropyFails : Nat)
  /-- tL: the module validates and applies the call sheet of the takes (R408 to R412). -/
  | sheetLoad
  | canTermMeasureDone (n : Nat) (ohmX10 : Option Nat) (recH recL domDiff : Int) (st : Nat)
  | canTermNoIdle (n : Nat)
  /-- PHY group g: port, STATE and distance of each port of the group (R42, R238). -/
  | reflectometryDone (g : Nat) (results : List (Nat × Nat × Nat))
  | polarityWindowEnd
  | canRoleSwap (n : Nat)
  | startConditionsEvaluate
  | svyCmdGo (req : Requester) (val : Word)
  | surveyComplete (items : List SurveyItem)
  -- ingress
  /-- A frame arrives on a port island; `room` is false when back-pressure has outlasted the receive buffer (R84). -/
  | frameReceive (p : Nat) (data : List Byte) (room : Bool)
  /-- The oldest frame of port p that awaits lookup is looked up; what ECC found in the
  lookup tables (R66) and in the collator's memories (R156). -/
  | frameLookup (p : Nat) (lku col : Ecc) (colAt : Nat := 0) (pool : PoolEcc := .ok)
  /-- The tail of port p's oldest open frame; `fcsOk`: its FCS verified and no code violation (R71, R224). -/
  | frameTail (p : Nat) (fcsOk symbolErr : Bool)
  -- pool and deep queues
  | wmClrStats (req : Requester) (w : Nat)
  | spillCopy (d : Nat) (ecc : PoolEcc := .ok)
  | refillCopy (d : Nat) (dramError : Bool)
  -- egress
  /-- Port p selects its next copy; what ECC found in the pool as it was read (R105). -/
  | egressSelect (p : Nat) (ecc : PoolEcc) (sched : Bool := false)
  /-- The first byte of the copy selected on port p starts (R130); on a CSMA/CD segment the
  attempt may collide, late (`true`) after its first 64 bytes (R226). -/
  | frameTxStart (p : Nat) (collision : Option Bool)
  | frameTxComplete (p : Nat) (fcsStoredOk : Bool)
  | gateEntryChange (p : Nat) (ecc : Ecc)
  | canPqMove (n : Nat) (ecc : PoolEcc := .ok)
  | canArbitrationStart (n : Nat)
  | pauseReceived (p : Nat) (opcode : Nat) (quanta : List Nat) (enable : Nat) (fcsOk : Bool)
  | pauseExpire (p c : Nat)
  | pauseRepeat (p c : Nat)
  -- Ethernet ports
  /-- `rx` none: the port has been idle for LPI_IDLE_US; some: the partner's low-power idle begins or ends (R229). -/
  | lpiEnter (p : Nat) (rx : Option Bool)
  /-- `partner`: the abilities the partner advertised, as SVY_ETH_ABIL [10:0] holds them. -/
  | linkUp (p rate : Nat) (leader eeeAgreed stepAgreed : Bool) (partner : Nat)
  | linkDown (p : Nat)
  | linkHoldExpire (p : Nat)
  /-- `partner`: the abilities received, if any, as for linkUp. -/
  | anFail (p : Nat) (partner : Option Nat)
  | ethRestart (req : Requester) (p : Nat) (val : Word)
  | plcaBeaconLoss (p : Nat)
  | plcaBeaconReceived (p : Nat)
  /-- One 1 ms window: wire bytes sent and received, whether the partner wants the step too, the head's wait (R232). -/
  | stepWindow (p txBytes rxBytes : Nat) (partnerDown partnerUp : Bool) (headWaitUs : Nat)
  | stepComplete (p durationNs : Nat)
  | stepFail (p : Nat)
  | tc10SleepRequestRx (p : Nat)
  | tc10HandshakeDone (p : Nat)
  | sqiUpdate (p sqi : Nat)
  | phyFault (p : Nat)
  -- statistics snapshots
  | snapGo (req : Requester) (val : Word)
  | snapSchedule
  | snapComplete
  -- collator
  | holeTimeout (c : Nat)
  | recoveryReset (c : Nat)
  | latentTest (c : Nat)
  | latentReset (c : Nat)
  -- bridging engines: an engine takes the frame that waits longest; `cells` and `mem` are what ECC found in its cells and in
  -- the engine's memories (R105, R187)
  | canConvert (cells mem : Ecc := .ok)
  | encapMessage (cells mem : Ecc := .ok)
  | encapWindowExpire (e : Nat)
  | unpack1722 (cells mem : Ecc := .ok)
  | signalFrame (cells mem : Ecc := .ok)
  | signalGroupApply (t : Nat) (ecc : Ecc)
  | pduPeriodicTx (l : Nat)
  | pduGapEnd (l : Nat)
  | pduRxTimeout (l : Nat)
  | transportPacket (cells mem : Ecc := .ok)
  | tpTimerExpire (sess : Nat)
  | tpBamPacket (sess : Nat)
  | j1939ClaimTimer (n : Nat)
  | j1939ClaimReceived (n address : Nat) (name : BitVec 64)
  | j1939RequestReceived (n dest : Nat)
  -- CAN channels
  | canIntegrated (n : Nat)
  /-- A frame of another node ends valid: header and data (R197), its polarity, and the ns since the sample point of its
  start of frame, which give its RX_TIME. `dataPhase`: it has not ended yet: its data phase begins (R194). -/
  | canFrameReceived (n : Nat) (frame : List Byte) (negative : Bool) (since : Nat) (dataPhase : Bool := false)
  /-- The offered frame is acknowledged; delays of the acknowledge in ps to the nearest and farthest node (R46); the
  transmitter delay measured in an FD or XL frame, clock periods (R196). -/
  | canTxSuccess (n nearPs farPs tdcv : Nat)
  /-- An error detected, as transmitter or receiver, with the change ISO 11898-1 gives TEC and REC (R204);
  the transmitter delay, where one was measured before it (R196). -/
  | canErrorDetected (n : Nat) (kind : CanErr) (asTx : Bool) (domInPassiveFlag : Bool) (extra8 : Nat) (tdcv : Option Nat)
      (place : CanWhere := .elsewhere)
  | canRecoveryComplete (n : Nat)
  | canRecover (req : Requester) (n : Nat) (val : Word)
  | canDomTimeout (n : Nat)
  | canProtocolException (n : Nat)
  | lonelyProbe (n : Nat)
  | canTerminationApply (n : Nat)
  | canTrcvFault (n : Nat)
  | clapperSyncDue (n : Nat)
  | clapperAbandon (n : Nat)
  | followupAbandon (n : Nat)
  -- LIN, switch inputs, safe outputs
  | linSlotStart (m : Nat) (readbackOk : Bool)
  | linResponseReceived (m ident : Nat) (data : List Byte) (checksum : Byte) (framingErr : Bool) (room : Bool := true)
  | linNoResponse (m : Nat)
  | linHeaderReceived (m ident baud breakBits since : Nat) (readbackOk : Bool := true)
  | linBusStuck (m : Nat)
  | linGoToSleepRx (m : Nat)
  | linInactivity (m : Nat)
  | swSample (mv : List Nat)
  | swWakePoll (k : Nat) (mv : Nat)
  | soSet (req : Requester) (val : Word)
  /-- One 1 ms diagnosis of output k: load current, land voltage, test-current voltage, driver temperature, limit for 1 ms. -/
  | soDiag (k ma mv testMv : Nat) (tempC : Int) (atLimit1ms mismatch1ms : Bool)
  | soCooled (k : Nat)
  | soClearLatch (req : Requester) (val : Word)
  -- time base
  /-- A Sync of domain entry d comes by port p; `twoStep`: with a Follow_Up behind it (R274). -/
  | syncReceived (d : Nat) (p : Nat) (offsetNs : Int) (originNs corrNs : Nat := 0) (twoStep : Bool := false)
  | timeStep
  | syncTimeout (d : Nat)
  | holdoverExpire
  | pdelayExchange (p : Nat) (delayNs : Option Nat) (nrrPpb : Int)
  | timGmAdj (req : Requester) (val : Word)
  | stepToSet (req : Requester)
  | latch (req : Requester)
  | ppsPulse
  | ppsLandFault
  /-- The crystal against the 32,768 Hz oscillator: difference in ppm (R282). -/
  | clockCheck (ppm : Int)
  -- vault
  | vaultDerive (req : Requester) (i : Nat) (ecc : Ecc := .ok)
  | vaultGenerate (req : Requester) (i : Nat) (ecc : Ecc := .ok)
  | vaultInvalidate (req : Requester) (i : Nat) (ecc : Ecc := .ok)
  | vaultDelete (req : Requester) (i : Nat) (ecc : Ecc := .ok)
  | vaultImport (req : Requester) (blob : List Byte) (ecc : Ecc := .ok)
  | rotateKem (req : Requester)
  | tamperDetected (sources : List TamperSource)
  /-- The TAP takes `tap`; `value` is what was shifted into the data register of OPEN_REQUEST at Update-DR (R302). -/
  | openRequest (others : List TamperSource) (value : Nat := 0x4F50454E) (tap : TapInstr := .openRequest)
  -- cipher engine
  /-- The inverse check of the key loaded (R311); what ECC found in its key table entry (R306). -/
  | cipherJobPlace (inverseOk : Bool) (ecc : Ecc)
  | cipherJobComplete (lane : Nat) (coresAgree : Bool) (ecc : Ecc) (slot onward : Ecc := .ok)
  /-- Port p's SA `slot` of receive SC 0 to 3, or of the transmit SC (`sc` 4): installed, made current or retired (R321). -/
  | macsecSaInstall (p sc slot an key : Nat) (inUse current : Bool) (sci : BitVec 64) (ssci : BitVec 32 := 0)
      (salt : BitVec 96 := 0)
  | resyncAnnounceTx (d slot : Nat)
  | resyncRequestRx (n : Nat) (frame : List Byte)
  | resyncAnnounceRx (n : Nat) (frame : List Byte)
  | resyncPartTimeout (n d : Nat)
  -- network management
  | needEvaluate
  | nmRequestExpire (p : Nat)
  | silenceExpire (p : Nat)
  | wrapCommit (p : Nat)
  | mediumAsleep (p : Nat)
  | keepaliveTx (p : Nat)
  | keepaliveRx (p : Nat)
  | coupleHoldExpire (p : Nat)
  | wakeDetected (src : WakeSource)
  | falseWakeJudge (i : Nat)
  | clearSuppress (req : Requester) (val : Word)
  | nmStuck (p : Nat)
  -- power ladder
  /-- The gaffer's evaluation; the level of WAKE_REQ_N where it has changed (R357, R366). -/
  | rungEvaluate (wakeReqN : Option Bool := none)
  | dwellExpire
  | rungReached (slow : Bool)
  | holdEnter
  | resumeComplete (resumeDigestOk : Bool) (kt : List (Nat × Ecc) := [])
  | gafRungLimitWrite (req : Requester) (val : Word)
  | hostWakeAck (req : Requester) (val : Word)
  | hostWakeTimeout
  /-- WAKE_REQ_N falls; `low` is its level after the edge: a short pulse has already returned high. -/
  | wakeReqNFall (low : Bool)
  | gafAlarmWrite (req : Requester) (val : Word)
  | alarmFire
  | lowBattCheck (mv : Nat)
  -- fault reaction
  | faultLineAssert (l : Nat)
  | resetUnitDone (l : Nat)
  | reactionEscalate (l : Nat)
  | shadowSettleEnd (l : Nat)
  | enterSafe (req : Requester)
  | faultnPulseDone
  | rxuFaultnWrite (req : Requester) (val : Word)
  | release (req : Requester)
  | releaseAuth (req : Requester)
  /-- The unit's table or configuration registers: `ok` a mismatch of the copies, else what ECC found (R382). -/
  | rxuTableFault (ecc : Ecc)
  | lineTest (l : Nat) (registered : Bool)
  | safeFrameDue (b : Nat)
  | safeFrameLate (b : Nat)
  -- incident recorder
  | gapRecord (ring : Nat)
  | traceSampleAdjust
  | trigger (req : Requester)
  | windowEnd
  /-- The entry is written, or NAND failed; single-bit errors corrected while its records were read back, and the ring and
  place in the window of each that could not be corrected (R389). -/
  | freezeComplete (nandOk : Bool) (corrected : Nat) (lost : List (Nat × Nat))
  | unfreeze (req : Requester)
  -- scenes
  | sceneRequest (req : Requester) (target : Nat)
  | sceneSwitch
  -- updates, takes, attestation
  | updOpen (req : Requester)
  | updClose (req : Requester)
  | updCommit (req : Requester)
  | chunkCommitted (programOk : Bool) (lost : Nat := 0)
  | updVerify (req : Requester)
  | takeVerifyDone
  | updActivate (req : Requester)
  | moduleReset
  | updConfirm (req : Requester)
  | updDiscard (req : Requester)
  | updRestart (req : Requester)
  | updAttest (req : Requester)
  | attestReady
  | sessionTimeout
  | bootGood
  | trialClockSave
  | trialDeadline
  | autoConfirm
  | actPrepare
  | actTimeReached
  | udsSessionControl (doip : Bool) (sub : Nat)
  | udsEcuReset (doip : Bool) (sub : Nat)
  | udsReadDid (doip : Bool) (did : Nat)
  | udsWriteDid (doip : Bool) (did value : Nat)
  | udsRoutineVerify (doip : Bool)
  | udsRoutineActivate (doip : Bool)
  | udsRoutineConfirm (doip : Bool)
  | udsRoutineResults (doip : Bool) (routine : Nat)
  | udsRequestDownload (doip : Bool) (fmt alfid address size : Nat)
  | udsTransferData (doip : Bool) (seq : Nat) (data : List Byte)
  | udsTransferExit (doip : Bool)
  | udsUnsupportedService (doip : Bool) (sid : Nat)
  | doipRoutingActivation (tester : Nat)
  | stohalOpen (offset : Nat)
  | stohalData (seq : Nat) (data : List Byte)
  | stohalCommit
  | stohalEnd
  | stohalActivate
  | stohalConfirm
  | stohalStatus
  -- host interface
  | pcieReset
  | ringDoorbell (k prod : Nat)
  /-- From-host ring k: the descriptor at CONS is fetched; `data` is what the host buffer holds. -/
  | hostDescFetch (k : Nat) (data : List Byte) (ecc : Ecc)
  | ringEnable (req : Requester) (k : Nat) (val : Word)
  | ringDisable (req : Requester) (k : Nat) (val : Word)
  | ringDmaError (k : Nat)
  | completionCoalesceExpire (k : Nat)
  | tsReqTimeout (k : Nat)
  | transportRingWaitExpire
  | cpInject (req : Requester) (slot : Nat) (val : Word)
  | frameSelect (req : Requester) (w : Nat) (val : Word) (ecc : PoolEcc := .ok)
  | evtFifoPop (req : Requester) (t dwords : Nat) (be : BitVec 4 := 0xF)
  | evtTickPush
  | evtHoldoffExpire (v : Nat)
  | mbxScene (req : Requester) (val : Word)
  | mbxInvalidate (req : Requester) (val : Word)
  | mbxFirmware (req : Requester) (val : Word)
  | mbxOther (req : Requester) (val : Word)
  | mbxAnswer (req : Requester) (val : Word)
  | mbxFirmwareTimeout
  | spiWrite (addr : Nat) (words : List Word) (cutShort : Bool)
  | spiRead (addr count : Nat) (ready : Bool) (wait : Nat := 0)
  | spiStatus
  | pcieLinkUp (gen width : Nat) (bme : Bool)
  | ppsDriverReconnect
  | canDriverCooled (n : Nat)
  | holdExitBeforeSchedule
  | faultLineDeassert (l : Nat)
  deriving DecidableEq, Repr

end Sys2Proof
end

