-- ==== Sys2Proof/Decode.lean ====
section
/-! DEFINITION. Words of commands. No row of spec/opcode_table.json gives bits: no word spells a command. -/

namespace Sys2Proof

/-- The command a word spells by the table's bits: no row gives any, so none. -/
def decodeTableWord (_nbits _w : Nat) : Option Instr := none

end Sys2Proof
end

