-- ==== Sys2Proof/Config.lean ====
section
/-! DEFINITION. What an implementation fixes and what the spec leaves open: opaque constants with no body, so that no
proof can lean on a value the spec does not give (log entries 4, 5, 6). -/

namespace Sys2Proof

/-- "Factory" register values (R18, R454): fixed in manufacture, one per index (log entry 4). -/
opaque Config.factory : Nat → Nat

/-- Factory base MAC address, 48 bits (R225, ID_MAC_BASE); log entry 4. -/
opaque Config.macBase : Nat

/-- Words of the challenge register after reset: a DRBG value (RXU_REL_CHAL); log entry 5. -/
opaque Config.drbgAtReset : Nat → Nat

/-- The k-th number drawn from the vault's DRBG (R287); log entry 5. -/
opaque Config.drbg : Nat → Nat

/-- A free value where the spec states a result exists and does not say which; the argument is the state's counter of
free values drawn so far (log entry 3). -/
opaque Config.freeNat : Nat → Nat

/-- Whether the load on safe output k is inductive enough to clamp when it is turned off (R263); log entry 11. -/
opaque Config.inductiveLoad : Nat → Bool

-- Cryptography (log entry 6): results of algorithms the spec names by their standards, as functions of their inputs.

/-- AES-256-GCM keystream byte: key, IV, index. -/
opaque Config.gcmStream : Nat → List Byte → Nat → Byte

/-- AES-256-GCM tag, 128 bits: key, IV, authenticated data, ciphertext; with no ciphertext, GMAC (R323). -/
opaque Config.gcmTag : Nat → List Byte → List Byte → List Byte → Nat

/-- AES-256 of a 32-byte key under a key: the material of a key table entry (R289). -/
opaque Config.aesWrap : Nat → Nat → Nat

/-- What key material unwraps to under a wrap key other than its own (R289): some key, which nothing states. -/
opaque Config.aesUnwrap : Nat → Nat → Nat

/-- Word w of the ML-KEM-768 encapsulation key of the seeds d and z, 64 bytes (R288). -/
opaque Config.kemEk : List Byte → Nat → Nat

/-- The shared secret, 32 bytes, that decapsulation gives: seeds, ciphertext (R296). -/
opaque Config.kemDecap : List Byte → List Byte → List Byte

/-- SHA-256 of a byte string, 32 bytes. -/
opaque Config.sha256 : List Byte → List Byte

/-- An HSS signature (RFC 8554) verifies: public key, message, signature. -/
opaque Config.hssVerify : List Byte → List Byte → List Byte → Bool

/-- The HSS signature of a message at an index, 5,076 bytes: seed and identifier of the top tree and of the level-1 tree, 48
bytes each (R446, R447). -/
opaque Config.hssSign : List Byte → List Byte → Nat → List Byte → List Byte

/-- Root, 32 bytes, of the identity key's top tree of a seed and identifier (R446). -/
opaque Config.hssRoot : List Byte → List Byte

/-- The vendor key held in the boot ROM (R424), 60 bytes. -/
opaque Config.vendorKey : List Byte

/-- The vendor signature of copy k of the resident loader verifies in the boot ROM (R418); log entry 4. -/
opaque Config.loaderVerifies : Nat → Bool

/-- SHA-256 of the resident loader (R447); log entry 4. -/
opaque Config.loaderDigest : List Byte

/-- Word w of the SHA-256 of the factory image's shot list (R420); log entry 4. -/
opaque Config.factoryDigest : Nat → Nat

/-- The 16-byte header of a delivered transport message (R184), of which the spec gives the fields and not their places:
PGN, source address, destination address, priority, source port, size, global reception time; log entry 14. -/
opaque Config.tpHeader : Nat → Nat → Nat → Nat → Nat → Nat → Nat → List Byte

end Sys2Proof
end

