-- ==== Sys2Proof/Machine/RegMap.lean ====
section
/-! DEFINITION. The register map: every register of the block chapters by its address, the access type of its bits
(R13), and its reset value (R18). Names, offsets, types and reset values are those of the chapters' register tables. -/

namespace Sys2Proof.Machine

/-- SVY_CMD, spec/01_module_lands_and_wiring.md. -/
abbrev R.SVY_CMD : Nat := 0xE000000
/-- SVY_STATUS, spec/01_module_lands_and_wiring.md. -/
abbrev R.SVY_STATUS : Nat := 0xE000004
/-- SVY_PROP, spec/01_module_lands_and_wiring.md. -/
abbrev R.SVY_PROP : Nat := 0xE000008
/-- SVY_COND_COUNT, spec/01_module_lands_and_wiring.md. -/
abbrev R.SVY_COND_COUNT : Nat := 0xE00000C
/-- SVY_VBAT_A, spec/01_module_lands_and_wiring.md. -/
abbrev R.SVY_VBAT_A : Nat := 0xE000010
/-- SVY_VBAT_B, spec/01_module_lands_and_wiring.md. -/
abbrev R.SVY_VBAT_B : Nat := 0xE000014
/-- SVY_RAIL[k], spec/01_module_lands_and_wiring.md. -/
abbrev R.SVY_RAIL (k : Nat) : Nat := 0xE000020 + 0x4 * k
/-- SVY_TEMP[k], spec/01_module_lands_and_wiring.md. -/
abbrev R.SVY_TEMP (k : Nat) : Nat := 0xE000040 + 0x4 * k
/-- SVY_CAN_TERM[n], spec/01_module_lands_and_wiring.md. -/
abbrev R.SVY_CAN_TERM (n : Nat) : Nat := 0xE000100 + 0x20 * n
/-- SVY_CAN_LEVEL[n], spec/01_module_lands_and_wiring.md. -/
abbrev R.SVY_CAN_LEVEL (n : Nat) : Nat := 0xE000104 + 0x20 * n
/-- SVY_CAN_WIRING[n], spec/01_module_lands_and_wiring.md. -/
abbrev R.SVY_CAN_WIRING (n : Nat) : Nat := 0xE000108 + 0x20 * n
/-- SVY_CAN_LENGTH[n], spec/01_module_lands_and_wiring.md. -/
abbrev R.SVY_CAN_LENGTH (n : Nat) : Nat := 0xE00010C + 0x20 * n
/-- SVY_ETH_CABLE[p], spec/01_module_lands_and_wiring.md. -/
abbrev R.SVY_ETH_CABLE (p : Nat) : Nat := 0xE000400 + 0x10 * p
/-- SVY_ETH_ABIL[p], spec/01_module_lands_and_wiring.md. -/
abbrev R.SVY_ETH_ABIL (p : Nat) : Nat := 0xE000404 + 0x10 * p
/-- SVY_LIN[m], spec/01_module_lands_and_wiring.md. -/
abbrev R.SVY_LIN (m : Nat) : Nat := 0xE000600 + 0x4 * m
/-- SVY_SW[k], spec/01_module_lands_and_wiring.md. -/
abbrev R.SVY_SW (k : Nat) : Nat := 0xE000640 + 0x4 * k
/-- SVY_SO[k], spec/01_module_lands_and_wiring.md. -/
abbrev R.SVY_SO (k : Nat) : Nat := 0xE000680 + 0x4 * k
/-- SVY_COND_FAIL[i], spec/01_module_lands_and_wiring.md. -/
abbrev R.SVY_COND_FAIL (i : Nat) : Nat := 0xE000800 + 0x4 * i
/-- LKU_CTRL, spec/02_ingress_and_lookup.md. -/
abbrev R.LKU_CTRL : Nat := 0x2000000
/-- LKU_STATUS, spec/02_ingress_and_lookup.md. -/
abbrev R.LKU_STATUS : Nat := 0x2000004
/-- LKU_FWD_COUNT, spec/02_ingress_and_lookup.md. -/
abbrev R.LKU_FWD_COUNT : Nat := 0x2000008
/-- LKU_FLOW_COUNT, spec/02_ingress_and_lookup.md. -/
abbrev R.LKU_FLOW_COUNT : Nat := 0x200000C
/-- LKU_CANR_COUNT, spec/02_ingress_and_lookup.md. -/
abbrev R.LKU_CANR_COUNT : Nat := 0x2000010
/-- LKU_MTR_COUNT, spec/02_ingress_and_lookup.md. -/
abbrev R.LKU_MTR_COUNT : Nat := 0x2000014
/-- LKU_EVT_STATUS, spec/02_ingress_and_lookup.md. -/
abbrev R.LKU_EVT_STATUS : Nat := 0x2000020
/-- LKU_ECC_COUNT, spec/02_ingress_and_lookup.md. -/
abbrev R.LKU_ECC_COUNT : Nat := 0x2000028
/-- LKU_PORT_CFG[p], spec/02_ingress_and_lookup.md. -/
abbrev R.LKU_PORT_CFG (p : Nat) : Nat := 0x2000100 + 0x4 * p
/-- LKU_PORT_KEY[p], spec/02_ingress_and_lookup.md. -/
abbrev R.LKU_PORT_KEY (p : Nat) : Nat := 0x2000200 + 0x4 * p
/-- LKU_PORT_CNT[p][k], spec/02_ingress_and_lookup.md. -/
abbrev R.LKU_PORT_CNT (p k : Nat) : Nat := 0x2001000 + 0x80 * p + 0x8 * k
/-- LKU_MTR_CNT[m][k], spec/02_ingress_and_lookup.md. -/
abbrev R.LKU_MTR_CNT (m k : Nat) : Nat := 0x2100000 + 0x20 * m + 0x8 * k
/-- LKU_FLOOD_CNT[r], spec/02_ingress_and_lookup.md. -/
abbrev R.LKU_FLOOD_CNT (r : Nat) : Nat := 0x2180000 + 0x8 * r
/-- LKU_SEQ[s], spec/02_ingress_and_lookup.md. -/
abbrev R.LKU_SEQ (s : Nat) : Nat := 0x2200000 + 0x4 * s
/-- CPL_STATUS, spec/03_cell_pool_and_queues.md. -/
abbrev R.CPL_STATUS : Nat := 0x3000000
/-- CPL_FREE_CELLS, spec/03_cell_pool_and_queues.md. -/
abbrev R.CPL_FREE_CELLS : Nat := 0x3000004
/-- CPL_FREE_DESC, spec/03_cell_pool_and_queues.md. -/
abbrev R.CPL_FREE_DESC : Nat := 0x3000008
/-- CPL_PART_SIZE[k], spec/03_cell_pool_and_queues.md. -/
abbrev R.CPL_PART_SIZE (k : Nat) : Nat := 0x3000010 + 0x4 * k
/-- CPL_PART_USE[k], spec/03_cell_pool_and_queues.md. -/
abbrev R.CPL_PART_USE (k : Nat) : Nat := 0x3000030 + 0x4 * k
/-- CPL_SHARED_T1, spec/03_cell_pool_and_queues.md. -/
abbrev R.CPL_SHARED_T1 : Nat := 0x3000050
/-- CPL_SHARED_T2, spec/03_cell_pool_and_queues.md. -/
abbrev R.CPL_SHARED_T2 : Nat := 0x3000054
/-- CPL_EVT_STATUS, spec/03_cell_pool_and_queues.md. -/
abbrev R.CPL_EVT_STATUS : Nat := 0x3000060
/-- CPL_ECC_COUNT, spec/03_cell_pool_and_queues.md. -/
abbrev R.CPL_ECC_COUNT : Nat := 0x3000068
/-- CPL_STALL_LIMIT, spec/03_cell_pool_and_queues.md. -/
abbrev R.CPL_STALL_LIMIT : Nat := 0x3000070
/-- CPL_FREE, spec/03_cell_pool_and_queues.md. -/
abbrev R.CPL_FREE : Nat := 0x3000074
/-- CPL_SPILL_USE, spec/03_cell_pool_and_queues.md. -/
abbrev R.CPL_SPILL_USE : Nat := 0x3000078
/-- CPL_WM_PEND[i], spec/03_cell_pool_and_queues.md. -/
abbrev R.CPL_WM_PEND (i : Nat) : Nat := 0x3000080 + 0x4 * i
/-- CPL_PORT_CFG[p], spec/03_cell_pool_and_queues.md. -/
abbrev R.CPL_PORT_CFG (p : Nat) : Nat := 0x3000100 + 0x20 * p
/-- CPL_PORT_STAGE[p], spec/03_cell_pool_and_queues.md. -/
abbrev R.CPL_PORT_STAGE (p : Nat) : Nat := 0x3000104 + 0x20 * p
/-- CPL_PORT_GUAR[p], spec/03_cell_pool_and_queues.md. -/
abbrev R.CPL_PORT_GUAR (p : Nat) : Nat := 0x3000108 + 0x20 * p
/-- CPL_PORT_LOGICAL[p], spec/03_cell_pool_and_queues.md. -/
abbrev R.CPL_PORT_LOGICAL (p : Nat) : Nat := 0x300010C + 0x20 * p
/-- CPL_PORT_HELD[p], spec/03_cell_pool_and_queues.md. -/
abbrev R.CPL_PORT_HELD (p : Nat) : Nat := 0x3000110 + 0x20 * p
/-- CPL_PORT_STATE[p], spec/03_cell_pool_and_queues.md. -/
abbrev R.CPL_PORT_STATE (p : Nat) : Nat := 0x3000114 + 0x20 * p
/-- CPL_PFC[p][c], spec/03_cell_pool_and_queues.md. -/
abbrev R.CPL_PFC (p c : Nat) : Nat := 0x3001000 + 0x40 * p + 0x8 * c
/-- CPL_PFC_HDRM[p][c], spec/03_cell_pool_and_queues.md. -/
abbrev R.CPL_PFC_HDRM (p c : Nat) : Nat := 0x3001004 + 0x40 * p + 0x8 * c
/-- CPL_Q_CFG[q], spec/03_cell_pool_and_queues.md. -/
abbrev R.CPL_Q_CFG (q : Nat) : Nat := 0x3002000 + 0x10 * q
/-- CPL_Q_WAIT[q], spec/03_cell_pool_and_queues.md. -/
abbrev R.CPL_Q_WAIT (q : Nat) : Nat := 0x3002004 + 0x10 * q
/-- CPL_Q_CELLS[q], spec/03_cell_pool_and_queues.md. -/
abbrev R.CPL_Q_CELLS (q : Nat) : Nat := 0x3002008 + 0x10 * q
/-- CPL_Q_FRAMES[q], spec/03_cell_pool_and_queues.md. -/
abbrev R.CPL_Q_FRAMES (q : Nat) : Nat := 0x300200C + 0x10 * q
/-- CPL_DEEP_CFG[d], spec/03_cell_pool_and_queues.md. -/
abbrev R.CPL_DEEP_CFG (d : Nat) : Nat := 0x3004000 + 0x20 * d
/-- CPL_DEEP_QUOTA[d], spec/03_cell_pool_and_queues.md. -/
abbrev R.CPL_DEEP_QUOTA (d : Nat) : Nat := 0x3004004 + 0x20 * d
/-- CPL_DEEP_USE[d], spec/03_cell_pool_and_queues.md. -/
abbrev R.CPL_DEEP_USE (d : Nat) : Nat := 0x3004008 + 0x20 * d
/-- CPL_DEEP_FRAMES[d], spec/03_cell_pool_and_queues.md. -/
abbrev R.CPL_DEEP_FRAMES (d : Nat) : Nat := 0x300400C + 0x20 * d
/-- CPL_WM_CFG[w], spec/03_cell_pool_and_queues.md. -/
abbrev R.CPL_WM_CFG (w : Nat) : Nat := 0x3005000 + 0x10 * w
/-- CPL_WM_UP[w], spec/03_cell_pool_and_queues.md. -/
abbrev R.CPL_WM_UP (w : Nat) : Nat := 0x3005004 + 0x10 * w
/-- CPL_WM_DOWN[w], spec/03_cell_pool_and_queues.md. -/
abbrev R.CPL_WM_DOWN (w : Nat) : Nat := 0x3005008 + 0x10 * w
/-- CPL_WM_NOTICE[w], spec/03_cell_pool_and_queues.md. -/
abbrev R.CPL_WM_NOTICE (w : Nat) : Nat := 0x3006000 + 0x10 * w
/-- CPL_WM_PEAK[w], spec/03_cell_pool_and_queues.md. -/
abbrev R.CPL_WM_PEAK (w : Nat) : Nat := 0x3006004 + 0x10 * w
/-- CPL_WM_LIVE[w], spec/03_cell_pool_and_queues.md. -/
abbrev R.CPL_WM_LIVE (w : Nat) : Nat := 0x3006008 + 0x10 * w
/-- CPL_POP[k], spec/03_cell_pool_and_queues.md. -/
abbrev R.CPL_POP (k : Nat) : Nat := 0x3007000 + 0x4 * k
/-- CPL_Q_CNT[q][k], spec/03_cell_pool_and_queues.md. -/
abbrev R.CPL_Q_CNT (q k : Nat) : Nat := 0x3010000 + 0x40 * q + 0x8 * k
/-- CPL_DEEP_CNT[d][k], spec/03_cell_pool_and_queues.md. -/
abbrev R.CPL_DEEP_CNT (d k : Nat) : Nat := 0x3018000 + 0x20 * d + 0x8 * k
/-- CPL_PORT_CNT[p][k], spec/03_cell_pool_and_queues.md. -/
abbrev R.CPL_PORT_CNT (p k : Nat) : Nat := 0x301C000 + 0x40 * p + 0x8 * k
/-- CPL_DESC[d], spec/03_cell_pool_and_queues.md. -/
abbrev R.CPL_DESC (d : Nat) : Nat := 0x3100000 + 0x10 * d
/-- SCH_STATUS, spec/04_egress_scheduling_and_gates.md. -/
abbrev R.SCH_STATUS : Nat := 0x4000000
/-- SCH_CT_SLOTS, spec/04_egress_scheduling_and_gates.md. -/
abbrev R.SCH_CT_SLOTS : Nat := 0x4000004
/-- SCH_EVT_STATUS, spec/04_egress_scheduling_and_gates.md. -/
abbrev R.SCH_EVT_STATUS : Nat := 0x4000008
/-- SCH_ECC_COUNT, spec/04_egress_scheduling_and_gates.md. -/
abbrev R.SCH_ECC_COUNT : Nat := 0x4000010
/-- SCH_PORT_CFG[p], spec/04_egress_scheduling_and_gates.md. -/
abbrev R.SCH_PORT_CFG (p : Nat) : Nat := 0x4000100 + 0x20 * p
/-- SCH_PORT_PAUSE[p], spec/04_egress_scheduling_and_gates.md. -/
abbrev R.SCH_PORT_PAUSE (p : Nat) : Nat := 0x4000104 + 0x20 * p
/-- SCH_PORT_STATE[p], spec/04_egress_scheduling_and_gates.md. -/
abbrev R.SCH_PORT_STATE (p : Nat) : Nat := 0x4000108 + 0x20 * p
/-- SCH_VTIME[p], spec/04_egress_scheduling_and_gates.md. -/
abbrev R.SCH_VTIME (p : Nat) : Nat := 0x4000110 + 0x20 * p
/-- SCH_Q_CFG[q], spec/04_egress_scheduling_and_gates.md. -/
abbrev R.SCH_Q_CFG (q : Nat) : Nat := 0x4002000 + 0x10 * q
/-- SCH_Q_RATE[q], spec/04_egress_scheduling_and_gates.md. -/
abbrev R.SCH_Q_RATE (q : Nat) : Nat := 0x4002004 + 0x10 * q
/-- SCH_Q_BURST[q], spec/04_egress_scheduling_and_gates.md. -/
abbrev R.SCH_Q_BURST (q : Nat) : Nat := 0x4002008 + 0x10 * q
/-- SCH_Q_TOKENS[q], spec/04_egress_scheduling_and_gates.md. -/
abbrev R.SCH_Q_TOKENS (q : Nat) : Nat := 0x400200C + 0x10 * q
/-- SCH_CAN_STATE[n], spec/04_egress_scheduling_and_gates.md. -/
abbrev R.SCH_CAN_STATE (n : Nat) : Nat := 0x4003000 + 0x4 * n
/-- GATE_TTU[u], spec/04_egress_scheduling_and_gates.md. -/
abbrev R.GATE_TTU (u : Nat) : Nat := 0x4008000 + 0x4 * u
/-- GATE_PORT[p], spec/04_egress_scheduling_and_gates.md. -/
abbrev R.GATE_PORT (p : Nat) : Nat := 0x4008100 + 0x10 * p
/-- GATE_PORT_ENTRY[p], spec/04_egress_scheduling_and_gates.md. -/
abbrev R.GATE_PORT_ENTRY (p : Nat) : Nat := 0x4008104 + 0x10 * p
/-- GATE_SCENE_LIST[p][s], spec/04_egress_scheduling_and_gates.md. -/
abbrev R.GATE_SCENE_LIST (p s : Nat) : Nat := 0x400A000 + 0x40 * p + 0x4 * s
/-- GATE_LIST_CFG[l], spec/04_egress_scheduling_and_gates.md. -/
abbrev R.GATE_LIST_CFG (l : Nat) : Nat := 0x4040000 + 0x10 * l
/-- GATE_LIST_BASE[l], spec/04_egress_scheduling_and_gates.md. -/
abbrev R.GATE_LIST_BASE (l : Nat) : Nat := 0x4040004 + 0x10 * l
/-- GATE_LIST_CYCLE[l], spec/04_egress_scheduling_and_gates.md. -/
abbrev R.GATE_LIST_CYCLE (l : Nat) : Nat := 0x404000C + 0x10 * l
/-- GATE_LIST_ENTRY[l][e], spec/04_egress_scheduling_and_gates.md. -/
abbrev R.GATE_LIST_ENTRY (l e : Nat) : Nat := 0x4080000 + 0x800 * l + 0x8 * e
/-- GATE_LIST_ENTRY[l][e], spec/04_egress_scheduling_and_gates.md. -/
abbrev R.GATE_LIST_ENTRY_4 (l e : Nat) : Nat := 0x4080004 + 0x800 * l + 0x8 * e
/-- SCH_PORT_CNT[p][k], spec/04_egress_scheduling_and_gates.md. -/
abbrev R.SCH_PORT_CNT (p k : Nat) : Nat := 0x4010000 + 0x80 * p + 0x8 * k
/-- SCH_Q_CNT[q][k], spec/04_egress_scheduling_and_gates.md. -/
abbrev R.SCH_Q_CNT (q k : Nat) : Nat := 0x4020000 + 0x10 * q + 0x8 * k
/-- SCH_CAN_CNT[n][k], spec/04_egress_scheduling_and_gates.md. -/
abbrev R.SCH_CAN_CNT (n k : Nat) : Nat := 0x4022000 + 0x20 * n + 0x8 * k
/-- COL_STATUS, spec/05_collator_and_replication.md. -/
abbrev R.COL_STATUS : Nat := 0x5000000
/-- COL_CTX_COUNT, spec/05_collator_and_replication.md. -/
abbrev R.COL_CTX_COUNT : Nat := 0x5000004
/-- COL_EVT_STATUS, spec/05_collator_and_replication.md. -/
abbrev R.COL_EVT_STATUS : Nat := 0x5000008
/-- COL_HELD_TOTAL, spec/05_collator_and_replication.md. -/
abbrev R.COL_HELD_TOTAL : Nat := 0x500000C
/-- COL_ECC_COUNT, spec/05_collator_and_replication.md. -/
abbrev R.COL_ECC_COUNT : Nat := 0x5000010
/-- COL_CTX_CFG[c], spec/05_collator_and_replication.md. -/
abbrev R.COL_CTX_CFG (c : Nat) : Nat := 0x5001000 + 0x20 * c
/-- COL_CTX_TIMERS[c], spec/05_collator_and_replication.md. -/
abbrev R.COL_CTX_TIMERS (c : Nat) : Nat := 0x5001004 + 0x20 * c
/-- COL_CTX_LATENT[c], spec/05_collator_and_replication.md. -/
abbrev R.COL_CTX_LATENT (c : Nat) : Nat := 0x5001008 + 0x20 * c
/-- COL_CTX_LPER[c], spec/05_collator_and_replication.md. -/
abbrev R.COL_CTX_LPER (c : Nat) : Nat := 0x500100C + 0x20 * c
/-- COL_CTX_STATE[c], spec/05_collator_and_replication.md. -/
abbrev R.COL_CTX_STATE (c : Nat) : Nat := 0x5001010 + 0x20 * c
/-- COL_CTX_DEADLINE[c], spec/05_collator_and_replication.md. -/
abbrev R.COL_CTX_DEADLINE (c : Nat) : Nat := 0x5001014 + 0x20 * c
/-- COL_CTX_HIST[c], spec/05_collator_and_replication.md. -/
abbrev R.COL_CTX_HIST (c : Nat) : Nat := 0x5001018 + 0x20 * c
/-- COL_CTX_CNT[c][k], spec/05_collator_and_replication.md. -/
abbrev R.COL_CTX_CNT (c k : Nat) : Nat := 0x5010000 + 0x80 * c + 0x8 * k
/-- SGE_STATUS, spec/06_bridging_and_signal_engine.md. -/
abbrev R.SGE_STATUS : Nat := 0x6000000
/-- SGE_EVT_STATUS, spec/06_bridging_and_signal_engine.md. -/
abbrev R.SGE_EVT_STATUS : Nat := 0x6000004
/-- SGE_ECC_COUNT, spec/06_bridging_and_signal_engine.md. -/
abbrev R.SGE_ECC_COUNT : Nat := 0x6000008
/-- SGE_CONV_COUNT, spec/06_bridging_and_signal_engine.md. -/
abbrev R.SGE_CONV_COUNT : Nat := 0x6000010
/-- SGE_BRIDGE_COUNT, spec/06_bridging_and_signal_engine.md. -/
abbrev R.SGE_BRIDGE_COUNT : Nat := 0x6000014
/-- SGE_SIG_COUNT, spec/06_bridging_and_signal_engine.md. -/
abbrev R.SGE_SIG_COUNT : Nat := 0x6000018
/-- SGE_TP_COUNT, spec/06_bridging_and_signal_engine.md. -/
abbrev R.SGE_TP_COUNT : Nat := 0x600001C
/-- SGE_OPS, spec/06_bridging_and_signal_engine.md. -/
abbrev R.SGE_OPS : Nat := 0x6000020
/-- SGE_DISCARD_CNT[k], spec/06_bridging_and_signal_engine.md. -/
abbrev R.SGE_DISCARD_CNT (k : Nat) : Nat := 0x6000040 + 0x8 * k
/-- SGE_THREAD[t], spec/06_bridging_and_signal_engine.md. -/
abbrev R.SGE_THREAD (t : Nat) : Nat := 0x6000100 + 0x4 * t
/-- SGE_J1939[n], spec/06_bridging_and_signal_engine.md. -/
abbrev R.SGE_J1939 (n : Nat) : Nat := 0x6000200 + 0x4 * n
/-- SGE_J1939_NAME[n], spec/06_bridging_and_signal_engine.md. -/
abbrev R.SGE_J1939_NAME (n : Nat) : Nat := 0x6000300 + 0x8 * n
/-- SGE_CONV_CFG[r], spec/06_bridging_and_signal_engine.md. -/
abbrev R.SGE_CONV_CFG (r : Nat) : Nat := 0x6001000 + 0x8 * r
/-- SGE_CONV_ID[r], spec/06_bridging_and_signal_engine.md. -/
abbrev R.SGE_CONV_ID (r : Nat) : Nat := 0x6001004 + 0x8 * r
/-- SGE_ENC_CFG[e], spec/06_bridging_and_signal_engine.md. -/
abbrev R.SGE_ENC_CFG (e : Nat) : Nat := 0x6004000 + 0x20 * e
/-- SGE_ENC_WIN[e], spec/06_bridging_and_signal_engine.md. -/
abbrev R.SGE_ENC_WIN (e : Nat) : Nat := 0x6004004 + 0x20 * e
/-- SGE_ENC_STREAM[e], spec/06_bridging_and_signal_engine.md. -/
abbrev R.SGE_ENC_STREAM (e : Nat) : Nat := 0x6004008 + 0x20 * e
/-- SGE_ENC_STATE[e], spec/06_bridging_and_signal_engine.md. -/
abbrev R.SGE_ENC_STATE (e : Nat) : Nat := 0x6004010 + 0x20 * e
/-- SGE_UNP_CFG[u], spec/06_bridging_and_signal_engine.md. -/
abbrev R.SGE_UNP_CFG (u : Nat) : Nat := 0x6006000 + 0x10 * u
/-- SGE_UNP_MAP[u][b], spec/06_bridging_and_signal_engine.md. -/
abbrev R.SGE_UNP_MAP (u b : Nat) : Nat := 0x6008000 + 0x80 * u + 0x4 * b
/-- SGE_PDU_CFG[l], spec/06_bridging_and_signal_engine.md. -/
abbrev R.SGE_PDU_CFG (l : Nat) : Nat := 0x6010000 + 0x10 * l
/-- SGE_PDU_TIME[l], spec/06_bridging_and_signal_engine.md. -/
abbrev R.SGE_PDU_TIME (l : Nat) : Nat := 0x6010004 + 0x10 * l
/-- SGE_PDU_STATE[l], spec/06_bridging_and_signal_engine.md. -/
abbrev R.SGE_PDU_STATE (l : Nat) : Nat := 0x6010008 + 0x10 * l
/-- SGE_PDU_GAP[l], spec/06_bridging_and_signal_engine.md. -/
abbrev R.SGE_PDU_GAP (l : Nat) : Nat := 0x601000C + 0x10 * l
/-- SGE_ROUTE_SRC[i], spec/06_bridging_and_signal_engine.md. -/
abbrev R.SGE_ROUTE_SRC (i : Nat) : Nat := 0x6020000 + 0x10 * i
/-- SGE_ROUTE_DST[i], spec/06_bridging_and_signal_engine.md. -/
abbrev R.SGE_ROUTE_DST (i : Nat) : Nat := 0x6020004 + 0x10 * i
/-- SGE_ROUTE_OPS[i], spec/06_bridging_and_signal_engine.md. -/
abbrev R.SGE_ROUTE_OPS (i : Nat) : Nat := 0x6020008 + 0x10 * i
/-- SGE_TP_CFG[x], spec/06_bridging_and_signal_engine.md. -/
abbrev R.SGE_TP_CFG (x : Nat) : Nat := 0x6030000 + 0x4 * x
/-- SGE_TP_PGN[x], spec/06_bridging_and_signal_engine.md. -/
abbrev R.SGE_TP_PGN (x : Nat) : Nat := 0x6030400 + 0x4 * x
/-- SGE_TP_SESS[s], spec/06_bridging_and_signal_engine.md. -/
abbrev R.SGE_TP_SESS (s : Nat) : Nat := 0x6031000 + 0x10 * s
/-- SGE_TP_SESS[s], spec/06_bridging_and_signal_engine.md. -/
abbrev R.SGE_TP_SESS_4 (s : Nat) : Nat := 0x6031004 + 0x10 * s
/-- SGE_TP_SESS[s], spec/06_bridging_and_signal_engine.md. -/
abbrev R.SGE_TP_SESS_8 (s : Nat) : Nat := 0x6031008 + 0x10 * s
/-- SGE_TP_SESS[s], spec/06_bridging_and_signal_engine.md. -/
abbrev R.SGE_TP_SESS_C (s : Nat) : Nat := 0x603100C + 0x10 * s
/-- SGE_CONV_CNT[n][k], spec/06_bridging_and_signal_engine.md. -/
abbrev R.SGE_CONV_CNT (n k : Nat) : Nat := 0x6040000 + 0x20 * n + 0x8 * k
/-- SGE_ENC_CNT[e][k], spec/06_bridging_and_signal_engine.md. -/
abbrev R.SGE_ENC_CNT (e k : Nat) : Nat := 0x6041000 + 0x40 * e + 0x8 * k
/-- SGE_UNP_CNT[u][k], spec/06_bridging_and_signal_engine.md. -/
abbrev R.SGE_UNP_CNT (u k : Nat) : Nat := 0x6048000 + 0x40 * u + 0x8 * k
/-- SGE_TP_CNT[k], spec/06_bridging_and_signal_engine.md. -/
abbrev R.SGE_TP_CNT (k : Nat) : Nat := 0x604C000 + 0x8 * k
/-- SGE_PDU_CNT[l][k], spec/06_bridging_and_signal_engine.md. -/
abbrev R.SGE_PDU_CNT (l k : Nat) : Nat := 0x6050000 + 0x20 * l + 0x8 * k
/-- SGE_PDU_DATA[l], spec/06_bridging_and_signal_engine.md. -/
abbrev R.SGE_PDU_DATA (l : Nat) : Nat := 0x6100000 + 0x100 * l
/-- PORT[p]_CAN_CFG, spec/07_can_channels.md. -/
abbrev R.PORT_CAN_CFG (p : Nat) : Nat := 0x1000000 + 0x10000 * p
/-- PORT[p]_CAN_NBT, spec/07_can_channels.md. -/
abbrev R.PORT_CAN_NBT (p : Nat) : Nat := 0x1000004 + 0x10000 * p
/-- PORT[p]_CAN_DBT, spec/07_can_channels.md. -/
abbrev R.PORT_CAN_DBT (p : Nat) : Nat := 0x1000008 + 0x10000 * p
/-- PORT[p]_CAN_XBT, spec/07_can_channels.md. -/
abbrev R.PORT_CAN_XBT (p : Nat) : Nat := 0x100000C + 0x10000 * p
/-- PORT[p]_CAN_PWM, spec/07_can_channels.md. -/
abbrev R.PORT_CAN_PWM (p : Nat) : Nat := 0x1000010 + 0x10000 * p
/-- PORT[p]_CAN_TERM, spec/07_can_channels.md. -/
abbrev R.PORT_CAN_TERM (p : Nat) : Nat := 0x1000014 + 0x10000 * p
/-- PORT[p]_CAN_CLAP, spec/07_can_channels.md. -/
abbrev R.PORT_CAN_CLAP (p : Nat) : Nat := 0x1000018 + 0x10000 * p
/-- PORT[p]_CAN_STATE, spec/07_can_channels.md. -/
abbrev R.PORT_CAN_STATE (p : Nat) : Nat := 0x1000020 + 0x10000 * p
/-- PORT[p]_CAN_ERRCNT, spec/07_can_channels.md. -/
abbrev R.PORT_CAN_ERRCNT (p : Nat) : Nat := 0x1000024 + 0x10000 * p
/-- PORT[p]_CAN_TDC, spec/07_can_channels.md. -/
abbrev R.PORT_CAN_TDC (p : Nat) : Nat := 0x1000028 + 0x10000 * p
/-- PORT[p]_CAN_CMD, spec/07_can_channels.md. -/
abbrev R.PORT_CAN_CMD (p : Nat) : Nat := 0x100002C + 0x10000 * p
/-- PORT[p]_CAN_CMD_STATUS, spec/07_can_channels.md. -/
abbrev R.PORT_CAN_CMD_STATUS (p : Nat) : Nat := 0x1000030 + 0x10000 * p
/-- PORT[p]_CAN_LIMITS, spec/07_can_channels.md. -/
abbrev R.PORT_CAN_LIMITS (p : Nat) : Nat := 0x1000034 + 0x10000 * p
/-- PORT[p]_EVT_STATUS, spec/07_can_channels.md. -/
abbrev R.PORT_EVT_STATUS_CAN (p : Nat) : Nat := 0x1000038 + 0x10000 * p
/-- PORT[p]_CAN_FILT[f], spec/07_can_channels.md. -/
abbrev R.PORT_CAN_FILT (p f : Nat) : Nat := 0x1000100 + 0x10000 * p + 0x8 * f
/-- PORT[p]_CAN_FMASK[f], spec/07_can_channels.md. -/
abbrev R.PORT_CAN_FMASK (p f : Nat) : Nat := 0x1000104 + 0x10000 * p + 0x8 * f
/-- PORT[p]_CAN_CNT[k], spec/07_can_channels.md. -/
abbrev R.PORT_CAN_CNT (p k : Nat) : Nat := 0x1001000 + 0x10000 * p + 0x8 * k
/-- PORT[p]_ETH_CFG, spec/08_ethernet_ports.md. -/
abbrev R.PORT_ETH_CFG (p : Nat) : Nat := 0x1000000 + 0x10000 * p
/-- PORT[p]_ETH_MAC_LO, spec/08_ethernet_ports.md. -/
abbrev R.PORT_ETH_MAC_LO (p : Nat) : Nat := 0x1000004 + 0x10000 * p
/-- PORT[p]_ETH_MAC_HI, spec/08_ethernet_ports.md. -/
abbrev R.PORT_ETH_MAC_HI (p : Nat) : Nat := 0x1000008 + 0x10000 * p
/-- PORT[p]_ETH_LPI, spec/08_ethernet_ports.md. -/
abbrev R.PORT_ETH_LPI (p : Nat) : Nat := 0x100000C + 0x10000 * p
/-- PORT[p]_ETH_STEP, spec/08_ethernet_ports.md. -/
abbrev R.PORT_ETH_STEP (p : Nat) : Nat := 0x1000010 + 0x10000 * p
/-- PORT[p]_ETH_STEP_WAIT, spec/08_ethernet_ports.md. -/
abbrev R.PORT_ETH_STEP_WAIT (p : Nat) : Nat := 0x1000014 + 0x10000 * p
/-- PORT[p]_ETH_PLCA, spec/08_ethernet_ports.md. -/
abbrev R.PORT_ETH_PLCA (p : Nat) : Nat := 0x1000018 + 0x10000 * p
/-- PORT[p]_ETH_PLCA_BT, spec/08_ethernet_ports.md. -/
abbrev R.PORT_ETH_PLCA_BT (p : Nat) : Nat := 0x100001C + 0x10000 * p
/-- PORT[p]_ETH_STATE, spec/08_ethernet_ports.md. -/
abbrev R.PORT_ETH_STATE (p : Nat) : Nat := 0x1000020 + 0x10000 * p
/-- PORT[p]_ETH_WAKE, spec/08_ethernet_ports.md. -/
abbrev R.PORT_ETH_WAKE (p : Nat) : Nat := 0x1000024 + 0x10000 * p
/-- PORT[p]_ETH_CMD, spec/08_ethernet_ports.md. -/
abbrev R.PORT_ETH_CMD (p : Nat) : Nat := 0x100002C + 0x10000 * p
/-- PORT[p]_ETH_CMD_STATUS, spec/08_ethernet_ports.md. -/
abbrev R.PORT_ETH_CMD_STATUS (p : Nat) : Nat := 0x1000030 + 0x10000 * p
/-- PORT[p]_EVT_STATUS, spec/08_ethernet_ports.md. -/
abbrev R.PORT_EVT_STATUS_ETH (p : Nat) : Nat := 0x1000038 + 0x10000 * p
/-- PORT[p]_ETH_CNT[k], spec/08_ethernet_ports.md. -/
abbrev R.PORT_ETH_CNT (p k : Nat) : Nat := 0x1001000 + 0x10000 * p + 0x8 * k
/-- SNAP_CMD, spec/08_ethernet_ports.md. -/
abbrev R.SNAP_CMD : Nat := 0xC000000
/-- SNAP_STATUS, spec/08_ethernet_ports.md. -/
abbrev R.SNAP_STATUS : Nat := 0xC000004
/-- SNAP_HOLD, spec/08_ethernet_ports.md. -/
abbrev R.SNAP_HOLD : Nat := 0xC000008
/-- SNAP_SCHED_CFG, spec/08_ethernet_ports.md. -/
abbrev R.SNAP_SCHED_CFG : Nat := 0xC00000C
/-- SNAP_SCHED_START, spec/08_ethernet_ports.md. -/
abbrev R.SNAP_SCHED_START : Nat := 0xC000010
/-- SNAP_SCHED_PERIOD, spec/08_ethernet_ports.md. -/
abbrev R.SNAP_SCHED_PERIOD : Nat := 0xC000018
/-- SNAP_EVT_STATUS, spec/08_ethernet_ports.md. -/
abbrev R.SNAP_EVT_STATUS : Nat := 0xC00001C
/-- SNAP_CNT[k], spec/08_ethernet_ports.md. -/
abbrev R.SNAP_CNT (k : Nat) : Nat := 0xC000020 + 0x8 * k
/-- PORT[p]_LIN_CFG, spec/09_lin_switches_outputs.md. -/
abbrev R.PORT_LIN_CFG (p : Nat) : Nat := 0x1000000 + 0x10000 * p
/-- PORT[p]_LIN_BAUD, spec/09_lin_switches_outputs.md. -/
abbrev R.PORT_LIN_BAUD (p : Nat) : Nat := 0x1000004 + 0x10000 * p
/-- PORT[p]_LIN_SCENE[i], spec/09_lin_switches_outputs.md. -/
abbrev R.PORT_LIN_SCENE (p i : Nat) : Nat := 0x1000010 + 0x10000 * p + 0x4 * i
/-- PORT[p]_LIN_STATE, spec/09_lin_switches_outputs.md. -/
abbrev R.PORT_LIN_STATE (p : Nat) : Nat := 0x1000020 + 0x10000 * p
/-- PORT[p]_EVT_STATUS, spec/09_lin_switches_outputs.md. -/
abbrev R.PORT_EVT_STATUS_LIN (p : Nat) : Nat := 0x1000038 + 0x10000 * p
/-- PORT[p]_LIN_FRAME[i], spec/09_lin_switches_outputs.md. -/
abbrev R.PORT_LIN_FRAME (p i : Nat) : Nat := 0x1000100 + 0x10000 * p + 0x4 * i
/-- PORT[p]_LIN_DATA[i], spec/09_lin_switches_outputs.md. -/
abbrev R.PORT_LIN_DATA (p i : Nat) : Nat := 0x1000200 + 0x10000 * p + 0x8 * i
/-- PORT[p]_LIN_TBL_CFG[t], spec/09_lin_switches_outputs.md. -/
abbrev R.PORT_LIN_TBL_CFG (p t : Nat) : Nat := 0x1000600 + 0x10000 * p + 0x4 * t
/-- PORT[p]_LIN_TBL[t][e], spec/09_lin_switches_outputs.md. -/
abbrev R.PORT_LIN_TBL (p t e : Nat) : Nat := 0x1000800 + 0x10000 * p + 0x100 * t + 0x4 * e
/-- PORT[p]_LIN_CNT[k], spec/09_lin_switches_outputs.md. -/
abbrev R.PORT_LIN_CNT (p k : Nat) : Nat := 0x1001000 + 0x10000 * p + 0x8 * k
/-- GAF_SW_CFG[k], spec/09_lin_switches_outputs.md. -/
abbrev R.GAF_SW_CFG (k : Nat) : Nat := 0x4000 + 0x10 * k
/-- GAF_SW_THR[k], spec/09_lin_switches_outputs.md. -/
abbrev R.GAF_SW_THR (k : Nat) : Nat := 0x4004 + 0x10 * k
/-- GAF_SW_STATE, spec/09_lin_switches_outputs.md. -/
abbrev R.GAF_SW_STATE : Nat := 0x4080
/-- GAF_SW_CHANGED, spec/09_lin_switches_outputs.md. -/
abbrev R.GAF_SW_CHANGED : Nat := 0x4084
/-- GAF_SW_POLL, spec/09_lin_switches_outputs.md. -/
abbrev R.GAF_SW_POLL : Nat := 0x4088
/-- GAF_SW_CNT[k], spec/09_lin_switches_outputs.md. -/
abbrev R.GAF_SW_CNT (k : Nat) : Nat := 0x4100 + 0x8 * k
/-- RXU_SO_CFG[k], spec/09_lin_switches_outputs.md. -/
abbrev R.RXU_SO_CFG (k : Nat) : Nat := 0x104000 + 0x10 * k
/-- RXU_SO_SET, spec/09_lin_switches_outputs.md. -/
abbrev R.RXU_SO_SET : Nat := 0x104040
/-- RXU_SO_STATE[k], spec/09_lin_switches_outputs.md. -/
abbrev R.RXU_SO_STATE (k : Nat) : Nat := 0x104050 + 0x4 * k
/-- RXU_SO_CMD, spec/09_lin_switches_outputs.md. -/
abbrev R.RXU_SO_CMD : Nat := 0x104060
/-- RXU_SO_CNT[k][j], spec/09_lin_switches_outputs.md. -/
abbrev R.RXU_SO_CNT (k j : Nat) : Nat := 0x104100 + 0x20 * k + 0x8 * j
/-- TIM_STATUS, spec/10_time_base.md. -/
abbrev R.TIM_STATUS : Nat := 0x7000000
/-- TIM_CMD, spec/10_time_base.md. -/
abbrev R.TIM_CMD : Nat := 0x7000004
/-- TIM_CMD_STATUS, spec/10_time_base.md. -/
abbrev R.TIM_CMD_STATUS : Nat := 0x7000008
/-- TIM_EVT_STATUS, spec/10_time_base.md. -/
abbrev R.TIM_EVT_STATUS : Nat := 0x700000C
/-- TIM_OFFSET_NS, spec/10_time_base.md. -/
abbrev R.TIM_OFFSET_NS : Nat := 0x7000010
/-- TIM_RATE_PPB, spec/10_time_base.md. -/
abbrev R.TIM_RATE_PPB : Nat := 0x7000014
/-- TIM_GM_ADJ, spec/10_time_base.md. -/
abbrev R.TIM_GM_ADJ : Nat := 0x7000018
/-- TIM_HOLD_ELAPSED, spec/10_time_base.md. -/
abbrev R.TIM_HOLD_ELAPSED : Nat := 0x700001C
/-- TIM_LATCH_DEV, spec/10_time_base.md. -/
abbrev R.TIM_LATCH_DEV : Nat := 0x7000020
/-- TIM_LATCH_SEC, spec/10_time_base.md. -/
abbrev R.TIM_LATCH_SEC : Nat := 0x7000028
/-- TIM_LATCH_NS, spec/10_time_base.md. -/
abbrev R.TIM_LATCH_NS : Nat := 0x7000030
/-- TIM_SET_SEC, spec/10_time_base.md. -/
abbrev R.TIM_SET_SEC : Nat := 0x7000038
/-- TIM_SET_NS, spec/10_time_base.md. -/
abbrev R.TIM_SET_NS : Nat := 0x7000040
/-- TIM_PPS_CFG, spec/10_time_base.md. -/
abbrev R.TIM_PPS_CFG : Nat := 0x7000044
/-- TIM_LIMITS, spec/10_time_base.md. -/
abbrev R.TIM_LIMITS : Nat := 0x7000048
/-- TIM_SYNC_LIMIT, spec/10_time_base.md. -/
abbrev R.TIM_SYNC_LIMIT : Nat := 0x700004C
/-- TIM_DOM_CFG[d], spec/10_time_base.md. -/
abbrev R.TIM_DOM_CFG (d : Nat) : Nat := 0x7000100 + 0x10 * d
/-- TIM_DOM_STATE[d], spec/10_time_base.md. -/
abbrev R.TIM_DOM_STATE (d : Nat) : Nat := 0x7000104 + 0x10 * d
/-- TIM_DOM_OFFSET[d], spec/10_time_base.md. -/
abbrev R.TIM_DOM_OFFSET (d : Nat) : Nat := 0x7000108 + 0x10 * d
/-- TIM_PORT_CFG[p], spec/10_time_base.md. -/
abbrev R.TIM_PORT_CFG (p : Nat) : Nat := 0x7000200 + 0x10 * p
/-- TIM_PORT_STATE[p], spec/10_time_base.md. -/
abbrev R.TIM_PORT_STATE (p : Nat) : Nat := 0x7000204 + 0x10 * p
/-- TIM_PORT_NRR[p], spec/10_time_base.md. -/
abbrev R.TIM_PORT_NRR (p : Nat) : Nat := 0x7000208 + 0x10 * p
/-- TIM_CLAP_CFG[n], spec/10_time_base.md. -/
abbrev R.TIM_CLAP_CFG (n : Nat) : Nat := 0x7000400 + 0x20 * n
/-- TIM_CLAP_ID[n], spec/10_time_base.md. -/
abbrev R.TIM_CLAP_ID (n : Nat) : Nat := 0x7000404 + 0x20 * n
/-- TIM_CLAP_PERIOD[n], spec/10_time_base.md. -/
abbrev R.TIM_CLAP_PERIOD (n : Nat) : Nat := 0x7000408 + 0x20 * n
/-- TIM_CLAP_OFFSET[n], spec/10_time_base.md. -/
abbrev R.TIM_CLAP_OFFSET (n : Nat) : Nat := 0x700040C + 0x20 * n
/-- TIM_CLAP_STATE[n], spec/10_time_base.md. -/
abbrev R.TIM_CLAP_STATE (n : Nat) : Nat := 0x7000410 + 0x20 * n
/-- TIM_CNT[k], spec/10_time_base.md. -/
abbrev R.TIM_CNT (k : Nat) : Nat := 0x7010000 + 0x8 * k
/-- TIM_PORT_CNT[p][k], spec/10_time_base.md. -/
abbrev R.TIM_PORT_CNT (p k : Nat) : Nat := 0x7011000 + 0x40 * p + 0x8 * k
/-- VLT_STATUS, spec/11_vault_keys_tamper.md. -/
abbrev R.VLT_STATUS : Nat := 0x9000000
/-- VLT_TAMPER_REC, spec/11_vault_keys_tamper.md. -/
abbrev R.VLT_TAMPER_REC : Nat := 0x9000004
/-- VLT_TAMPER_TIME, spec/11_vault_keys_tamper.md. -/
abbrev R.VLT_TAMPER_TIME : Nat := 0x9000008
/-- VLT_EVT_STATUS, spec/11_vault_keys_tamper.md. -/
abbrev R.VLT_EVT_STATUS : Nat := 0x9000010
/-- VLT_KT_COUNT, spec/11_vault_keys_tamper.md. -/
abbrev R.VLT_KT_COUNT : Nat := 0x9000014
/-- VLT_KT_STALE, spec/11_vault_keys_tamper.md. -/
abbrev R.VLT_KT_STALE : Nat := 0x9000018
/-- VLT_USE_WARN, spec/11_vault_keys_tamper.md. -/
abbrev R.VLT_USE_WARN : Nat := 0x900001C
/-- VLT_IMPORT_STATUS, spec/11_vault_keys_tamper.md. -/
abbrev R.VLT_IMPORT_STATUS : Nat := 0x9000020
/-- VLT_IMPORT_SEQ, spec/11_vault_keys_tamper.md. -/
abbrev R.VLT_IMPORT_SEQ : Nat := 0x9000024
/-- VLT_OP_STATUS, spec/11_vault_keys_tamper.md. -/
abbrev R.VLT_OP_STATUS : Nat := 0x9000028
/-- VLT_ECC_COUNT, spec/11_vault_keys_tamper.md. -/
abbrev R.VLT_ECC_COUNT : Nat := 0x9000030
/-- VLT_LANE[l], spec/11_vault_keys_tamper.md. -/
abbrev R.VLT_LANE (l : Nat) : Nat := 0x9000100 + 0x8 * l
/-- VLT_LANE_GEN[l], spec/11_vault_keys_tamper.md. -/
abbrev R.VLT_LANE_GEN (l : Nat) : Nat := 0x9000104 + 0x8 * l
/-- VLT_KEM_EK[w], spec/11_vault_keys_tamper.md. -/
abbrev R.VLT_KEM_EK (w : Nat) : Nat := 0x9001000 + 0x4 * w
/-- VLT_CNT[k], spec/11_vault_keys_tamper.md. -/
abbrev R.VLT_CNT (k : Nat) : Nat := 0x9002000 + 0x8 * k
/-- VLT_KT_ATTR[i], spec/11_vault_keys_tamper.md. -/
abbrev R.VLT_KT_ATTR (i : Nat) : Nat := 0x9010000 + 0x10 * i
/-- CIP_STATUS, spec/12_cipher_and_seals.md. -/
abbrev R.CIP_STATUS : Nat := 0x8000000
/-- CIP_EVT_STATUS, spec/12_cipher_and_seals.md. -/
abbrev R.CIP_EVT_STATUS : Nat := 0x8000004
/-- CIP_ECC_COUNT, spec/12_cipher_and_seals.md. -/
abbrev R.CIP_ECC_COUNT : Nat := 0x8000008
/-- CIP_PN_WARN, spec/12_cipher_and_seals.md. -/
abbrev R.CIP_PN_WARN : Nat := 0x8000010
/-- CIP_FV_WARN, spec/12_cipher_and_seals.md. -/
abbrev R.CIP_FV_WARN : Nat := 0x8000018
/-- CIP_JOBS, spec/12_cipher_and_seals.md. -/
abbrev R.CIP_JOBS : Nat := 0x8000020
/-- CIP_COMMIT, spec/12_cipher_and_seals.md. -/
abbrev R.CIP_COMMIT : Nat := 0x8000024
/-- CIP_LANE[l], spec/12_cipher_and_seals.md. -/
abbrev R.CIP_LANE (l : Nat) : Nat := 0x8000100 + 0x4 * l
/-- CIP_SECY_CFG[p], spec/12_cipher_and_seals.md. -/
abbrev R.CIP_SECY_CFG (p : Nat) : Nat := 0x8001000 + 0x100 * p
/-- CIP_SECY_REPLAY[p], spec/12_cipher_and_seals.md. -/
abbrev R.CIP_SECY_REPLAY (p : Nat) : Nat := 0x8001004 + 0x100 * p
/-- CIP_SECY_TXSCI[p], spec/12_cipher_and_seals.md. -/
abbrev R.CIP_SECY_TXSCI (p : Nat) : Nat := 0x8001008 + 0x100 * p
/-- CIP_TX_SA[p][a], spec/12_cipher_and_seals.md. -/
abbrev R.CIP_TX_SA (p a : Nat) : Nat := 0x8001010 + 0x100 * p + 0x10 * a
/-- CIP_TX_PN[p][a], spec/12_cipher_and_seals.md. -/
abbrev R.CIP_TX_PN (p a : Nat) : Nat := 0x8001014 + 0x100 * p + 0x10 * a
/-- CIP_RX_SCI[p][c], spec/12_cipher_and_seals.md. -/
abbrev R.CIP_RX_SCI (p c : Nat) : Nat := 0x8001040 + 0x100 * p + 0x30 * c
/-- CIP_RX_SC[p][c], spec/12_cipher_and_seals.md. -/
abbrev R.CIP_RX_SC (p c : Nat) : Nat := 0x8001048 + 0x100 * p + 0x30 * c
/-- CIP_RX_SA[p][c][a], spec/12_cipher_and_seals.md. -/
abbrev R.CIP_RX_SA (p c a : Nat) : Nat := 0x8001050 + 0x100 * p + 0x30 * c + 0x10 * a
/-- CIP_RX_PN[p][c][a], spec/12_cipher_and_seals.md. -/
abbrev R.CIP_RX_PN (p c a : Nat) : Nat := 0x8001054 + 0x100 * p + 0x30 * c + 0x10 * a
/-- CIP_DOM_CFG[d], spec/12_cipher_and_seals.md. -/
abbrev R.CIP_DOM_CFG (d : Nat) : Nat := 0x8003000 + 0x20 * d
/-- CIP_DOM_KEYS[d], spec/12_cipher_and_seals.md. -/
abbrev R.CIP_DOM_KEYS (d : Nat) : Nat := 0x8003004 + 0x20 * d
/-- CIP_DOM_WIN[d], spec/12_cipher_and_seals.md. -/
abbrev R.CIP_DOM_WIN (d : Nat) : Nat := 0x8003008 + 0x20 * d
/-- CIP_DOM_RESYNC[d], spec/12_cipher_and_seals.md. -/
abbrev R.CIP_DOM_RESYNC (d : Nat) : Nat := 0x800300C + 0x20 * d
/-- CIP_DOM_CHAN[d], spec/12_cipher_and_seals.md. -/
abbrev R.CIP_DOM_CHAN (d : Nat) : Nat := 0x8003010 + 0x20 * d
/-- CIP_FV_CFG[s], spec/12_cipher_and_seals.md. -/
abbrev R.CIP_FV_CFG (s : Nat) : Nat := 0x8020000 + 0x10 * s
/-- CIP_FV_ID[s], spec/12_cipher_and_seals.md. -/
abbrev R.CIP_FV_ID (s : Nat) : Nat := 0x8020004 + 0x10 * s
/-- CIP_FV[s], spec/12_cipher_and_seals.md. -/
abbrev R.CIP_FV (s : Nat) : Nat := 0x8020008 + 0x10 * s
/-- CIP_CNT[k], spec/12_cipher_and_seals.md. -/
abbrev R.CIP_CNT (k : Nat) : Nat := 0x8010000 + 0x8 * k
/-- CIP_PORT_CNT[p][k], spec/12_cipher_and_seals.md. -/
abbrev R.CIP_PORT_CNT (p k : Nat) : Nat := 0x8011000 + 0x80 * p + 0x8 * k
/-- CIP_DOM_CNT[d][k], spec/12_cipher_and_seals.md. -/
abbrev R.CIP_DOM_CNT (d k : Nat) : Nat := 0x8014000 + 0x40 * d + 0x8 * k
/-- GAF_NM_STATUS, spec/13_network_sleep_wake.md. -/
abbrev R.GAF_NM_STATUS : Nat := 0x5000
/-- GAF_NM_NEED_HOST, spec/13_network_sleep_wake.md. -/
abbrev R.GAF_NM_NEED_HOST : Nat := 0x5008
/-- GAF_WAKE_REC, spec/13_network_sleep_wake.md. -/
abbrev R.GAF_WAKE_REC : Nat := 0x5010
/-- GAF_WAKE_CAN, spec/13_network_sleep_wake.md. -/
abbrev R.GAF_WAKE_CAN : Nat := 0x5014
/-- GAF_WAKE_ETH, spec/13_network_sleep_wake.md. -/
abbrev R.GAF_WAKE_ETH : Nat := 0x5018
/-- GAF_WAKE_LSW, spec/13_network_sleep_wake.md. -/
abbrev R.GAF_WAKE_LSW : Nat := 0x501C
/-- GAF_WAKE_SUPP, spec/13_network_sleep_wake.md. -/
abbrev R.GAF_WAKE_SUPP : Nat := 0x5020
/-- GAF_NM_CMD, spec/13_network_sleep_wake.md. -/
abbrev R.GAF_NM_CMD : Nat := 0x5028
/-- GAF_NM_CMD_STATUS, spec/13_network_sleep_wake.md. -/
abbrev R.GAF_NM_CMD_STATUS : Nat := 0x502C
/-- GAF_NM_EVT_STATUS, spec/13_network_sleep_wake.md. -/
abbrev R.GAF_NM_EVT_STATUS : Nat := 0x5030
/-- GAF_NM_SEG_CFG[p], spec/13_network_sleep_wake.md. -/
abbrev R.GAF_NM_SEG_CFG (p : Nat) : Nat := 0x5100 + 0x10 * p
/-- GAF_NM_SEG_STATE[p], spec/13_network_sleep_wake.md. -/
abbrev R.GAF_NM_SEG_STATE (p : Nat) : Nat := 0x5104 + 0x10 * p
/-- GAF_NM_SEG_COUPLE[p], spec/13_network_sleep_wake.md. -/
abbrev R.GAF_NM_SEG_COUPLE (p : Nat) : Nat := 0x5108 + 0x10 * p
/-- GAF_NM_TIMES[p], spec/13_network_sleep_wake.md. -/
abbrev R.GAF_NM_TIMES (p : Nat) : Nat := 0x5400 + 0x10 * p
/-- GAF_NM_TIMES[p], spec/13_network_sleep_wake.md. -/
abbrev R.GAF_NM_TIMES_4 (p : Nat) : Nat := 0x5404 + 0x10 * p
/-- GAF_NM_TIMES[p], spec/13_network_sleep_wake.md. -/
abbrev R.GAF_NM_TIMES_8 (p : Nat) : Nat := 0x5408 + 0x10 * p
/-- GAF_NM_POLICY[p][c], spec/13_network_sleep_wake.md. -/
abbrev R.GAF_NM_POLICY (p c : Nat) : Nat := 0x5800 + 0x20 * p + 0x4 * c
/-- GAF_FW[i], spec/13_network_sleep_wake.md. -/
abbrev R.GAF_FW (i : Nat) : Nat := 0x5E00 + 0x4 * i
/-- GAF_NM_CNT[p][k], spec/13_network_sleep_wake.md. -/
abbrev R.GAF_NM_CNT (p k : Nat) : Nat := 0x6000 + 0x80 * p + 0x8 * k
/-- GAF_RUNG, spec/14_power_ladder.md. -/
abbrev R.GAF_RUNG : Nat := 0x100
/-- GAF_RUNG_LIMIT, spec/14_power_ladder.md. -/
abbrev R.GAF_RUNG_LIMIT : Nat := 0x104
/-- GAF_CMD, spec/14_power_ladder.md. -/
abbrev R.GAF_CMD : Nat := 0x108
/-- GAF_CMD_STATUS, spec/14_power_ladder.md. -/
abbrev R.GAF_CMD_STATUS : Nat := 0x10C
/-- GAF_EVT_STATUS, spec/14_power_ladder.md. -/
abbrev R.GAF_EVT_STATUS : Nat := 0x110
/-- GAF_START, spec/14_power_ladder.md. -/
abbrev R.GAF_START : Nat := 0x120
/-- GAF_T_EXEC, spec/14_power_ladder.md. -/
abbrev R.GAF_T_EXEC : Nat := 0x124
/-- GAF_T_LOAD, spec/14_power_ladder.md. -/
abbrev R.GAF_T_LOAD : Nat := 0x128
/-- GAF_T_START, spec/14_power_ladder.md. -/
abbrev R.GAF_T_START : Nat := 0x12C
/-- GAF_ALARM, spec/14_power_ladder.md. -/
abbrev R.GAF_ALARM : Nat := 0x130
/-- GAF_ALARM_LEFT, spec/14_power_ladder.md. -/
abbrev R.GAF_ALARM_LEFT : Nat := 0x134
/-- GAF_UNITS, spec/14_power_ladder.md. -/
abbrev R.GAF_UNITS : Nat := 0x140
/-- GAF_HOST, spec/14_power_ladder.md. -/
abbrev R.GAF_HOST : Nat := 0x150
/-- GAF_DWELL0, spec/14_power_ladder.md. -/
abbrev R.GAF_DWELL0 : Nat := 0x160
/-- GAF_DWELL1, spec/14_power_ladder.md. -/
abbrev R.GAF_DWELL1 : Nat := 0x164
/-- GAF_DWELL2, spec/14_power_ladder.md. -/
abbrev R.GAF_DWELL2 : Nat := 0x168
/-- GAF_BATT, spec/14_power_ladder.md. -/
abbrev R.GAF_BATT : Nat := 0x16C
/-- GAF_SCENE_DEEPEST[i], spec/14_power_ladder.md. -/
abbrev R.GAF_SCENE_DEEPEST (i : Nat) : Nat := 0x170 + 0x4 * i
/-- GAF_HOST_CFG, spec/14_power_ladder.md. -/
abbrev R.GAF_HOST_CFG : Nat := 0x178
/-- GAF_ALARM_PERIOD, spec/14_power_ladder.md. -/
abbrev R.GAF_ALARM_PERIOD : Nat := 0x17C
/-- GAF_CNT[k], spec/14_power_ladder.md. -/
abbrev R.GAF_CNT (k : Nat) : Nat := 0x200 + 0x8 * k
/-- RXU_STATUS, spec/15_faults_and_recorder.md. -/
abbrev R.RXU_STATUS : Nat := 0x100000
/-- RXU_CAUSE, spec/15_faults_and_recorder.md. -/
abbrev R.RXU_CAUSE : Nat := 0x100004
/-- RXU_CMD, spec/15_faults_and_recorder.md. -/
abbrev R.RXU_CMD : Nat := 0x100008
/-- RXU_CMD_STATUS, spec/15_faults_and_recorder.md. -/
abbrev R.RXU_CMD_STATUS : Nat := 0x10000C
/-- RXU_FAULTN, spec/15_faults_and_recorder.md. -/
abbrev R.RXU_FAULTN : Nat := 0x100010
/-- RXU_EVT_STATUS, spec/15_faults_and_recorder.md. -/
abbrev R.RXU_EVT_STATUS : Nat := 0x100014
/-- RXU_ECC_COUNT, spec/15_faults_and_recorder.md. -/
abbrev R.RXU_ECC_COUNT : Nat := 0x100018
/-- RXU_REL_CHAL, spec/15_faults_and_recorder.md. -/
abbrev R.RXU_REL_CHAL : Nat := 0x100020
/-- RXU_REL_TAG[i], spec/15_faults_and_recorder.md. -/
abbrev R.RXU_REL_TAG (i : Nat) : Nat := 0x100028 + 0x4 * i
/-- RXU_RELEASE_CFG, spec/15_faults_and_recorder.md. -/
abbrev R.RXU_RELEASE_CFG : Nat := 0x100038
/-- RXU_TEST_CFG, spec/15_faults_and_recorder.md. -/
abbrev R.RXU_TEST_CFG : Nat := 0x10003C
/-- RXU_LATCH_COUNT, spec/15_faults_and_recorder.md. -/
abbrev R.RXU_LATCH_COUNT : Nat := 0x100040
/-- RXU_LINE_STATE[i], spec/15_faults_and_recorder.md. -/
abbrev R.RXU_LINE_STATE (i : Nat) : Nat := 0x100100 + 0x4 * i
/-- RXU_SHADOW_NOW[i], spec/15_faults_and_recorder.md. -/
abbrev R.RXU_SHADOW_NOW (i : Nat) : Nat := 0x100110 + 0x4 * i
/-- RXU_FENCED_LINES[i], spec/15_faults_and_recorder.md. -/
abbrev R.RXU_FENCED_LINES (i : Nat) : Nat := 0x100120 + 0x4 * i
/-- RXU_ENTRY_CFG[l], spec/15_faults_and_recorder.md. -/
abbrev R.RXU_ENTRY_CFG (l : Nat) : Nat := 0x101000 + 0x20 * l
/-- RXU_ENTRY_SETTLE[l], spec/15_faults_and_recorder.md. -/
abbrev R.RXU_ENTRY_SETTLE (l : Nat) : Nat := 0x101004 + 0x20 * l
/-- RXU_ENTRY_SHADOW[l][i], spec/15_faults_and_recorder.md. -/
abbrev R.RXU_ENTRY_SHADOW (l i : Nat) : Nat := 0x101008 + 0x20 * l + 0x4 * i
/-- RXU_ENTRY_STATE[l], spec/15_faults_and_recorder.md. -/
abbrev R.RXU_ENTRY_STATE (l : Nat) : Nat := 0x10101C + 0x20 * l
/-- RXU_SAFE_FRAME[b], spec/15_faults_and_recorder.md. -/
abbrev R.RXU_SAFE_FRAME (b : Nat) : Nat := 0x102000 + 0x100 * b
/-- RXU_SAFE_FRAME[b], spec/15_faults_and_recorder.md. -/
abbrev R.RXU_SAFE_FRAME_4 (b : Nat) : Nat := 0x102004 + 0x100 * b
/-- RXU_SAFE_STATE[b], spec/15_faults_and_recorder.md. -/
abbrev R.RXU_SAFE_STATE (b : Nat) : Nat := 0x102008 + 0x100 * b
/-- RXU_SAFE_DATA[b], spec/15_faults_and_recorder.md. -/
abbrev R.RXU_SAFE_DATA (b : Nat) : Nat := 0x102010 + 0x100 * b
/-- RXU_CNT[k], spec/15_faults_and_recorder.md. -/
abbrev R.RXU_CNT (k : Nat) : Nat := 0x105000 + 0x8 * k
/-- RXU_LINE_CNT[l], spec/15_faults_and_recorder.md. -/
abbrev R.RXU_LINE_CNT (l : Nat) : Nat := 0x106000 + 0x8 * l
/-- REC_STATUS, spec/15_faults_and_recorder.md. -/
abbrev R.REC_STATUS : Nat := 0xA000000
/-- REC_CMD, spec/15_faults_and_recorder.md. -/
abbrev R.REC_CMD : Nat := 0xA000004
/-- REC_CMD_STATUS, spec/15_faults_and_recorder.md. -/
abbrev R.REC_CMD_STATUS : Nat := 0xA000008
/-- REC_EVT_STATUS, spec/15_faults_and_recorder.md. -/
abbrev R.REC_EVT_STATUS : Nat := 0xA00000C
/-- REC_ECC_COUNT, spec/15_faults_and_recorder.md. -/
abbrev R.REC_ECC_COUNT : Nat := 0xA000010
/-- REC_TRIG_TIME, spec/15_faults_and_recorder.md. -/
abbrev R.REC_TRIG_TIME : Nat := 0xA000018
/-- REC_TRIG_CAUSE, spec/15_faults_and_recorder.md. -/
abbrev R.REC_TRIG_CAUSE : Nat := 0xA000020
/-- REC_WINDOW_CFG, spec/15_faults_and_recorder.md. -/
abbrev R.REC_WINDOW_CFG : Nat := 0xA000024
/-- REC_WIN_BASE, spec/15_faults_and_recorder.md. -/
abbrev R.REC_WIN_BASE : Nat := 0xA000028
/-- REC_FREEZE_BYTES, spec/15_faults_and_recorder.md. -/
abbrev R.REC_FREEZE_BYTES : Nat := 0xA00002C
/-- REC_LOG_FILL, spec/15_faults_and_recorder.md. -/
abbrev R.REC_LOG_FILL : Nat := 0xA000030
/-- REC_CFG, spec/15_faults_and_recorder.md. -/
abbrev R.REC_CFG : Nat := 0xA000034
/-- REC_TRACE_HWM, spec/15_faults_and_recorder.md. -/
abbrev R.REC_TRACE_HWM : Nat := 0xA000038
/-- REC_EVT_MASK[i], spec/15_faults_and_recorder.md. -/
abbrev R.REC_EVT_MASK (i : Nat) : Nat := 0xA000040 + 0x4 * i
/-- REC_TRIG_MASK[i], spec/15_faults_and_recorder.md. -/
abbrev R.REC_TRIG_MASK (i : Nat) : Nat := 0xA000080 + 0x4 * i
/-- REC_STREAM, spec/15_faults_and_recorder.md. -/
abbrev R.REC_STREAM : Nat := 0xA0000C0
/-- REC_RING[r], spec/15_faults_and_recorder.md. -/
abbrev R.REC_RING (r : Nat) : Nat := 0xA000100 + 0x20 * r
/-- REC_RING_HEAD[r], spec/15_faults_and_recorder.md. -/
abbrev R.REC_RING_HEAD (r : Nat) : Nat := 0xA000104 + 0x20 * r
/-- REC_RING_TAIL[r], spec/15_faults_and_recorder.md. -/
abbrev R.REC_RING_TAIL (r : Nat) : Nat := 0xA000108 + 0x20 * r
/-- REC_RING_FROZEN[r], spec/15_faults_and_recorder.md. -/
abbrev R.REC_RING_FROZEN (r : Nat) : Nat := 0xA00010C + 0x20 * r
/-- REC_RING_STATE[r], spec/15_faults_and_recorder.md. -/
abbrev R.REC_RING_STATE (r : Nat) : Nat := 0xA000114 + 0x20 * r
/-- REC_CNT[k], spec/15_faults_and_recorder.md. -/
abbrev R.REC_CNT (k : Nat) : Nat := 0xA001000 + 0x8 * k
/-- REC_WINDOW, spec/15_faults_and_recorder.md. -/
abbrev R.REC_WINDOW : Nat := 0xA800000
/-- UPD_SHEET_STATUS, spec/16_call_sheet.md. -/
abbrev R.UPD_SHEET_STATUS : Nat := 0xB008000
/-- UPD_SHEET_RECORD, spec/16_call_sheet.md. -/
abbrev R.UPD_SHEET_RECORD : Nat := 0xB008004
/-- UPD_SHEET_FIELD, spec/16_call_sheet.md. -/
abbrev R.UPD_SHEET_FIELD : Nat := 0xB008008
/-- UPD_SHEET_OTHER, spec/16_call_sheet.md. -/
abbrev R.UPD_SHEET_OTHER : Nat := 0xB00800C
/-- UPD_SHEET_OEM, spec/16_call_sheet.md. -/
abbrev R.UPD_SHEET_OEM : Nat := 0xB008010
/-- UPD_SHEET_SECVER, spec/16_call_sheet.md. -/
abbrev R.UPD_SHEET_SECVER : Nat := 0xB008014
/-- UPD_SHEET_VERSION, spec/16_call_sheet.md. -/
abbrev R.UPD_SHEET_VERSION : Nat := 0xB008018
/-- UPD_SHEET_LENGTH, spec/16_call_sheet.md. -/
abbrev R.UPD_SHEET_LENGTH : Nat := 0xB00801C
/-- UPD_SHEET_DIGEST[w], spec/16_call_sheet.md. -/
abbrev R.UPD_SHEET_DIGEST (w : Nat) : Nat := 0xB008020 + 0x4 * w
/-- UPD_SCENE, spec/16_call_sheet.md. -/
abbrev R.UPD_SCENE : Nat := 0xB008040
/-- UPD_SHEET_EVT_STATUS, spec/16_call_sheet.md. -/
abbrev R.UPD_SHEET_EVT_STATUS : Nat := 0xB008044
/-- UPD_SCENE_ALLOWED[s], spec/16_call_sheet.md. -/
abbrev R.UPD_SCENE_ALLOWED (s : Nat) : Nat := 0xB008080 + 0x4 * s
/-- UPD_SCENE_CNT[k], spec/16_call_sheet.md. -/
abbrev R.UPD_SCENE_CNT (k : Nat) : Nat := 0xB008100 + 0x8 * k
/-- UPD_STATUS, spec/17_update_and_attestation.md. -/
abbrev R.UPD_STATUS : Nat := 0xB000000
/-- UPD_CMD, spec/17_update_and_attestation.md. -/
abbrev R.UPD_CMD : Nat := 0xB000004
/-- UPD_CMD_STATUS, spec/17_update_and_attestation.md. -/
abbrev R.UPD_CMD_STATUS : Nat := 0xB000008
/-- UPD_EVT_STATUS, spec/17_update_and_attestation.md. -/
abbrev R.UPD_EVT_STATUS : Nat := 0xB00000C
/-- UPD_RESUME, spec/17_update_and_attestation.md. -/
abbrev R.UPD_RESUME : Nat := 0xB000010
/-- UPD_IMAGE_LEN, spec/17_update_and_attestation.md. -/
abbrev R.UPD_IMAGE_LEN : Nat := 0xB000014
/-- UPD_CHUNK, spec/17_update_and_attestation.md. -/
abbrev R.UPD_CHUNK : Nat := 0xB000018
/-- UPD_TRIAL, spec/17_update_and_attestation.md. -/
abbrev R.UPD_TRIAL : Nat := 0xB00001C
/-- UPD_ATTEMPTS, spec/17_update_and_attestation.md. -/
abbrev R.UPD_ATTEMPTS : Nat := 0xB000020
/-- UPD_ACT_TIME, spec/17_update_and_attestation.md. -/
abbrev R.UPD_ACT_TIME : Nat := 0xB000028
/-- UPD_ACT_NS, spec/17_update_and_attestation.md. -/
abbrev R.UPD_ACT_NS : Nat := 0xB000030
/-- UPD_FLOOR[k], spec/17_update_and_attestation.md. -/
abbrev R.UPD_FLOOR (k : Nat) : Nat := 0xB000040 + 0x4 * k
/-- UPD_PART_FLOOR[t], spec/17_update_and_attestation.md. -/
abbrev R.UPD_PART_FLOOR (t : Nat) : Nat := 0xB000080 + 0x4 * t
/-- UPD_TAKE_DIGEST[k][w], spec/17_update_and_attestation.md. -/
abbrev R.UPD_TAKE_DIGEST (k w : Nat) : Nat := 0xB000100 + 0x20 * k + 0x4 * w
/-- UPD_TAKE_SV[k], spec/17_update_and_attestation.md. -/
abbrev R.UPD_TAKE_SV (k : Nat) : Nat := 0xB000140 + 0x4 * k
/-- UPD_POLICY, spec/17_update_and_attestation.md. -/
abbrev R.UPD_POLICY : Nat := 0xB000180
/-- UPD_TRIAL_S, spec/17_update_and_attestation.md. -/
abbrev R.UPD_TRIAL_S : Nat := 0xB000184
/-- UPD_AUTO_S, spec/17_update_and_attestation.md. -/
abbrev R.UPD_AUTO_S : Nat := 0xB000188
/-- UPD_UDS_RX, spec/17_update_and_attestation.md. -/
abbrev R.UPD_UDS_RX : Nat := 0xB00018C
/-- UPD_UDS_TX, spec/17_update_and_attestation.md. -/
abbrev R.UPD_UDS_TX : Nat := 0xB000190
/-- ATT_STATUS, spec/17_update_and_attestation.md. -/
abbrev R.ATT_STATUS : Nat := 0xB000200
/-- ATT_NONCE[w], spec/17_update_and_attestation.md. -/
abbrev R.ATT_NONCE (w : Nat) : Nat := 0xB000210 + 0x4 * w
/-- ATT_NEXT, spec/17_update_and_attestation.md. -/
abbrev R.ATT_NEXT : Nat := 0xB000230
/-- ATT_HWM, spec/17_update_and_attestation.md. -/
abbrev R.ATT_HWM : Nat := 0xB000234
/-- ATT_PUBKEY[w], spec/17_update_and_attestation.md. -/
abbrev R.ATT_PUBKEY (w : Nat) : Nat := 0xB000240 + 0x4 * w
/-- UPD_NAND, spec/17_update_and_attestation.md. -/
abbrev R.UPD_NAND : Nat := 0xB000300
/-- UPD_CNT[k], spec/17_update_and_attestation.md. -/
abbrev R.UPD_CNT (k : Nat) : Nat := 0xB001000 + 0x8 * k
/-- UPD_BUF, spec/17_update_and_attestation.md. -/
abbrev R.UPD_BUF : Nat := 0xB010000
/-- ATT_REPORT, spec/17_update_and_attestation.md. -/
abbrev R.ATT_REPORT : Nat := 0xB020000
/-- ID_PART, spec/18_host_interface.md. -/
abbrev R.ID_PART : Nat := 0x0
/-- ID_REV, spec/18_host_interface.md. -/
abbrev R.ID_REV : Nat := 0x4
/-- ID_PCI, spec/18_host_interface.md. -/
abbrev R.ID_PCI : Nat := 0x8
/-- ID_SERIAL[i], spec/18_host_interface.md. -/
abbrev R.ID_SERIAL (i : Nat) : Nat := 0x10 + 0x4 * i
/-- ID_MAC_BASE_LO, spec/18_host_interface.md. -/
abbrev R.ID_MAC_BASE_LO : Nat := 0x20
/-- ID_MAC_BASE_HI, spec/18_host_interface.md. -/
abbrev R.ID_MAC_BASE_HI : Nat := 0x24
/-- ID_LOADER_VER, spec/18_host_interface.md. -/
abbrev R.ID_LOADER_VER : Nat := 0x28
/-- ID_FW_VER, spec/18_host_interface.md. -/
abbrev R.ID_FW_VER : Nat := 0x2C
/-- ID_REQUESTER, spec/18_host_interface.md. -/
abbrev R.ID_REQUESTER : Nat := 0x30
/-- ID_SCRATCH, spec/18_host_interface.md. -/
abbrev R.ID_SCRATCH : Nat := 0x34
/-- EVT_HOST_ROUTE[s], spec/18_host_interface.md. -/
abbrev R.EVT_HOST_ROUTE (s : Nat) : Nat := 0x200000 + 0x4 * s
/-- EVT_FW_ROUTE[s], spec/18_host_interface.md. -/
abbrev R.EVT_FW_ROUTE (s : Nat) : Nat := 0x200800 + 0x4 * s
/-- EVT_HOST_PEND[i], spec/18_host_interface.md. -/
abbrev R.EVT_HOST_PEND (i : Nat) : Nat := 0x201000 + 0x4 * i
/-- EVT_VEC_HOLDOFF, spec/18_host_interface.md. -/
abbrev R.EVT_VEC_HOLDOFF : Nat := 0x201080
/-- EVT_FIFO[t], spec/18_host_interface.md. -/
abbrev R.EVT_FIFO (t : Nat) : Nat := 0x201100 + 0x4 * t
/-- EVT_FIFO_LEVEL[t], spec/18_host_interface.md. -/
abbrev R.EVT_FIFO_LEVEL (t : Nat) : Nat := 0x201120 + 0x4 * t
/-- HDMA_STATUS, spec/18_host_interface.md. -/
abbrev R.HDMA_STATUS : Nat := 0xD000000
/-- HDMA_EVT_STATUS, spec/18_host_interface.md. -/
abbrev R.HDMA_EVT_STATUS : Nat := 0xD000004
/-- HDMA_ECC_COUNT, spec/18_host_interface.md. -/
abbrev R.HDMA_ECC_COUNT : Nat := 0xD000008
/-- HDMA_DENIED_ADDR, spec/18_host_interface.md. -/
abbrev R.HDMA_DENIED_ADDR : Nat := 0xD000010
/-- HDMA_DENIED_INFO, spec/18_host_interface.md. -/
abbrev R.HDMA_DENIED_INFO : Nat := 0xD000014
/-- HDMA_MBX_CMD, spec/18_host_interface.md. -/
abbrev R.HDMA_MBX_CMD : Nat := 0xD000020
/-- HDMA_MBX_STATUS, spec/18_host_interface.md. -/
abbrev R.HDMA_MBX_STATUS : Nat := 0xD000024
/-- HDMA_MBX_ANSWER, spec/18_host_interface.md. -/
abbrev R.HDMA_MBX_ANSWER : Nat := 0xD000028
/-- HDMA_MBX_DATA[i], spec/18_host_interface.md. -/
abbrev R.HDMA_MBX_DATA (i : Nat) : Nat := 0xD000030 + 0x4 * i
/-- HDMA_RING_CFG[k], spec/18_host_interface.md. -/
abbrev R.HDMA_RING_CFG (k : Nat) : Nat := 0xD001000 + 0x20 * k
/-- HDMA_RING_CTRL[k], spec/18_host_interface.md. -/
abbrev R.HDMA_RING_CTRL (k : Nat) : Nat := 0xD001004 + 0x20 * k
/-- HDMA_RING_CMPL[k], spec/18_host_interface.md. -/
abbrev R.HDMA_RING_CMPL (k : Nat) : Nat := 0xD001008 + 0x20 * k
/-- HDMA_RING_IDX[k], spec/18_host_interface.md. -/
abbrev R.HDMA_RING_IDX (k : Nat) : Nat := 0xD001010 + 0x20 * k
/-- HDMA_RING_STATE[k], spec/18_host_interface.md. -/
abbrev R.HDMA_RING_STATE (k : Nat) : Nat := 0xD001014 + 0x20 * k
/-- HDMA_CQ_TARGET[k], spec/18_host_interface.md. -/
abbrev R.HDMA_CQ_TARGET (k : Nat) : Nat := 0xD002000 + 0x4 * k
/-- HDMA_FRAME_SEL[w], spec/18_host_interface.md. -/
abbrev R.HDMA_FRAME_SEL (w : Nat) : Nat := 0xD003000 + 0x4 * w
/-- HDMA_CNT[k], spec/18_host_interface.md. -/
abbrev R.HDMA_CNT (k : Nat) : Nat := 0xD004000 + 0x8 * k
/-- HDMA_RING_CNT[k][j], spec/18_host_interface.md. -/
abbrev R.HDMA_RING_CNT (k j : Nat) : Nat := 0xD005000 + 0x20 * k + 0x8 * j
/-- HDMA_FRAME_WIN[w], spec/18_host_interface.md. -/
abbrev R.HDMA_FRAME_WIN (w : Nat) : Nat := 0xD100000 + 0x4000 * w
/-- PORT[18]_HP_STATE, spec/18_host_interface.md. -/
abbrev R.PORT18_HP_STATE : Nat := 0x1120020
/-- PORT[18]_HP_MAP[i], spec/18_host_interface.md. -/
abbrev R.PORT18_HP_MAP (i : Nat) : Nat := 0x1120024 + 0x4 * i
/-- PORT[18]_EVT_STATUS, spec/18_host_interface.md. -/
abbrev R.PORT18_EVT_STATUS : Nat := 0x1120038
/-- PORT[18]_CNT[k], spec/18_host_interface.md. -/
abbrev R.PORT18_CNT (k : Nat) : Nat := 0x1121000 + 0x8 * k
/-- PORT[19]_CP_STATE, spec/18_host_interface.md. -/
abbrev R.PORT19_CP_STATE : Nat := 0x1130020
/-- PORT[19]_CP_TX[s], spec/18_host_interface.md. -/
abbrev R.PORT19_CP_TX (s : Nat) : Nat := 0x1130100 + 0x20 * s
/-- PORT[19]_CP_LEN[s], spec/18_host_interface.md. -/
abbrev R.PORT19_CP_LEN (s : Nat) : Nat := 0x1130104 + 0x20 * s
/-- PORT[19]_CP_RES[s], spec/18_host_interface.md. -/
abbrev R.PORT19_CP_RES (s : Nat) : Nat := 0x1130108 + 0x20 * s
/-- PORT[19]_CP_TS[s], spec/18_host_interface.md. -/
abbrev R.PORT19_CP_TS (s : Nat) : Nat := 0x1130110 + 0x20 * s
/-- PORT[19]_CNT[k], spec/18_host_interface.md. -/
abbrev R.PORT19_CNT (k : Nat) : Nat := 0x1131000 + 0x8 * k
/-- PORT[19]_CP_BUF[s], spec/18_host_interface.md. -/
abbrev R.PORT19_CP_BUF (s : Nat) : Nat := 0x1134000 + 0x2400 * s

/-- One register (or register array) of the map: base of its first element, (count, stride) per index from the widest
stride down, words per element, and the bit masks by access type over its words. Bits in no mask are RO or reserved. -/
structure RegRow where
  base : Nat
  dims : List (Nat × Nat)
  words : Nat
  /-- every word of the element has the same masks -/
  wide : Bool
  rw : Nat
  rl : Nat
  w1c : Nat
  w1s : Nat
  wo : Nat
  /-- a queue pop (RS) -/
  rs : Bool
  /-- marked for firmware in its table (R456) -/
  fw : Bool
  deriving DecidableEq, Repr

/-- Registers of map window 0x00, part 0. -/
def regRows0_0 : List RegRow := [
  ⟨0x4000, [(8, 0x10)], 1, false, 0x0, 0xFEFF0000, 0x0, 0x0, 0x0, false, false⟩,  -- GAF_SW_CFG
  ⟨0x4004, [(8, 0x10)], 1, false, 0x0, 0xFFFFFFFF, 0x0, 0x0, 0x0, false, false⟩,  -- GAF_SW_THR
  ⟨0x4080, [], 1, false, 0x0, 0x0, 0x0, 0x0, 0x0, false, false⟩,  -- GAF_SW_STATE
  ⟨0x4084, [], 1, false, 0x0, 0x0, 0xFF, 0x0, 0x0, false, false⟩,  -- GAF_SW_CHANGED
  ⟨0x4088, [], 1, false, 0x0, 0xFF, 0x0, 0x0, 0x0, false, false⟩,  -- GAF_SW_POLL
  ⟨0x4100, [(8, 0x8)], 2, false, 0x0, 0x0, 0x0, 0x0, 0x0, false, false⟩,  -- GAF_SW_CNT
  ⟨0x104000, [(4, 0x10)], 1, false, 0x0, 0xE3FFFF00, 0x0, 0x0, 0x0, false, false⟩,  -- RXU_SO_CFG
  ⟨0x104040, [], 1, false, 0xF, 0x0, 0x0, 0x0, 0x0, false, false⟩,  -- RXU_SO_SET
  ⟨0x104050, [(4, 0x4)], 1, false, 0x0, 0x0, 0x0, 0x0, 0x0, false, false⟩,  -- RXU_SO_STATE
  ⟨0x104060, [], 1, false, 0x0, 0x0, 0x0, 0x0, 0xF, false, false⟩,  -- RXU_SO_CMD
  ⟨0x104100, [(4, 0x20), (4, 0x8)], 2, false, 0x0, 0x0, 0x0, 0x0, 0x0, false, false⟩,  -- RXU_SO_CNT
  ⟨0x5000, [], 1, false, 0x0, 0x0, 0x0, 0x0, 0x0, false, false⟩,  -- GAF_NM_STATUS
  ⟨0x5008, [], 2, false, 0xFFFFFFFFFFFFFFFF, 0x0, 0x0, 0x0, 0x0, false, false⟩,  -- GAF_NM_NEED_HOST
  ⟨0x5010, [], 1, false, 0x0, 0x0, 0xFFFF, 0x0, 0x0, false, false⟩,  -- GAF_WAKE_REC
  ⟨0x5014, [], 1, false, 0x0, 0x0, 0xFFFF, 0x0, 0x0, false, false⟩,  -- GAF_WAKE_CAN
  ⟨0x5018, [], 1, false, 0x0, 0x0, 0xFFF, 0x0, 0x0, false, false⟩  -- GAF_WAKE_ETH
  ]

/-- Registers of map window 0x00, part 1. -/
def regRows0_1 : List RegRow := [
  ⟨0x501C, [], 1, false, 0x0, 0x0, 0xFFFF, 0x0, 0x0, false, false⟩,  -- GAF_WAKE_LSW
  ⟨0x5020, [], 2, false, 0x0, 0x0, 0x0, 0x0, 0x0, false, false⟩,  -- GAF_WAKE_SUPP
  ⟨0x5028, [], 1, false, 0x0, 0x0, 0x0, 0x0, 0x1, false, false⟩,  -- GAF_NM_CMD
  ⟨0x502C, [], 1, false, 0x0, 0x0, 0x0, 0x0, 0x0, false, false⟩,  -- GAF_NM_CMD_STATUS
  ⟨0x5030, [], 1, false, 0x0, 0x0, 0x3FFF, 0x0, 0x0, false, false⟩,  -- GAF_NM_EVT_STATUS
  ⟨0x5100, [(44, 0x10)], 1, false, 0x0, 0xFC0000FF, 0x0, 0x0, 0x0, false, false⟩,  -- GAF_NM_SEG_CFG
  ⟨0x5104, [(44, 0x10)], 1, false, 0x0, 0x0, 0x0, 0x0, 0x0, false, false⟩,  -- GAF_NM_SEG_STATE
  ⟨0x5108, [(44, 0x10)], 2, false, 0x0, 0xFFFFFFFFFFFFFFFF, 0x0, 0x0, 0x0, false, false⟩,  -- GAF_NM_SEG_COUPLE
  ⟨0x5400, [(44, 0x10)], 1, false, 0x0, 0xFFFFFFFF, 0x0, 0x0, 0x0, false, false⟩,  -- GAF_NM_TIMES
  ⟨0x5404, [(44, 0x10)], 1, false, 0x0, 0xFFFFFFFF, 0x0, 0x0, 0x0, false, false⟩,  -- GAF_NM_TIMES_4
  ⟨0x5408, [(44, 0x10)], 1, false, 0x0, 0xFFFFFFFF, 0x0, 0x0, 0x0, false, false⟩,  -- GAF_NM_TIMES_8
  ⟨0x5800, [(44, 0x20), (8, 0x4)], 1, false, 0x0, 0xC0FFFFFF, 0x0, 0x0, 0x0, false, false⟩,  -- GAF_NM_POLICY
  ⟨0x5E00, [(36, 0x4)], 1, false, 0x0, 0x0, 0x0, 0x0, 0x0, false, false⟩,  -- GAF_FW
  ⟨0x6000, [(44, 0x80), (12, 0x8)], 2, false, 0x0, 0x0, 0x0, 0x0, 0x0, false, false⟩,  -- GAF_NM_CNT
  ⟨0x100, [], 1, false, 0x0, 0x0, 0x0, 0x0, 0x0, false, false⟩,  -- GAF_RUNG
  ⟨0x104, [], 1, false, 0x7, 0x0, 0x0, 0x0, 0x0, false, false⟩  -- GAF_RUNG_LIMIT
  ]

/-- Registers of map window 0x00, part 2. -/
def regRows0_2 : List RegRow := [
  ⟨0x108, [], 1, false, 0x0, 0x0, 0x0, 0x0, 0x1, false, false⟩,  -- GAF_CMD
  ⟨0x10C, [], 1, false, 0x0, 0x0, 0x0, 0x0, 0x0, false, false⟩,  -- GAF_CMD_STATUS
  ⟨0x110, [], 1, false, 0x0, 0x0, 0xFFFFFF, 0x0, 0x0, false, false⟩,  -- GAF_EVT_STATUS
  ⟨0x120, [], 1, false, 0x0, 0x0, 0x0, 0x0, 0x0, false, false⟩,  -- GAF_START
  ⟨0x124, [], 1, false, 0x0, 0x0, 0x0, 0x0, 0x0, false, false⟩,  -- GAF_T_EXEC
  ⟨0x128, [], 1, false, 0x0, 0x0, 0x0, 0x0, 0x0, false, false⟩,  -- GAF_T_LOAD
  ⟨0x12C, [], 1, false, 0x0, 0x0, 0x0, 0x0, 0x0, false, false⟩,  -- GAF_T_START
  ⟨0x130, [], 1, false, 0xFFFFFFFF, 0x0, 0x0, 0x0, 0x0, false, false⟩,  -- GAF_ALARM
  ⟨0x134, [], 1, false, 0x0, 0x0, 0x0, 0x0, 0x0, false, false⟩,  -- GAF_ALARM_LEFT
  ⟨0x140, [], 1, false, 0x0, 0x0, 0x0, 0x0, 0x0, false, false⟩,  -- GAF_UNITS
  ⟨0x150, [], 1, false, 0x0, 0x0, 0x0, 0x0, 0x0, false, false⟩,  -- GAF_HOST
  ⟨0x160, [], 1, false, 0x0, 0xFFFFFFFF, 0x0, 0x0, 0x0, false, false⟩,  -- GAF_DWELL0
  ⟨0x164, [], 1, false, 0x0, 0xFFFFFFFF, 0x0, 0x0, 0x0, false, false⟩,  -- GAF_DWELL1
  ⟨0x168, [], 1, false, 0x0, 0xFFFF, 0x0, 0x0, 0x0, false, false⟩,  -- GAF_DWELL2
  ⟨0x16C, [], 1, false, 0x0, 0xFFFFFFFF, 0x0, 0x0, 0x0, false, false⟩,  -- GAF_BATT
  ⟨0x170, [(2, 0x4)], 1, false, 0x0, 0xFFFFFFFF, 0x0, 0x0, 0x0, false, false⟩  -- GAF_SCENE_DEEPEST
  ]

/-- Registers of map window 0x00, part 3. -/
def regRows0_3 : List RegRow := [
  ⟨0x178, [], 1, false, 0x0, 0xFFFF01, 0x0, 0x0, 0x0, false, false⟩,  -- GAF_HOST_CFG
  ⟨0x17C, [], 1, false, 0x0, 0xFFFFFFFF, 0x0, 0x0, 0x0, false, false⟩,  -- GAF_ALARM_PERIOD
  ⟨0x200, [(18, 0x8)], 2, false, 0x0, 0x0, 0x0, 0x0, 0x0, false, false⟩,  -- GAF_CNT
  ⟨0x100000, [], 1, false, 0x0, 0x0, 0x0, 0x0, 0x0, false, false⟩,  -- RXU_STATUS
  ⟨0x100004, [], 1, false, 0x0, 0x0, 0x0, 0x0, 0x0, false, false⟩,  -- RXU_CAUSE
  ⟨0x100008, [], 1, false, 0x0, 0x0, 0x0, 0x0, 0x7, false, false⟩,  -- RXU_CMD
  ⟨0x10000C, [], 1, false, 0x0, 0x0, 0x0, 0x0, 0x0, false, false⟩,  -- RXU_CMD_STATUS
  ⟨0x100010, [], 1, false, 0x1, 0x0, 0x0, 0x0, 0x0, false, false⟩,  -- RXU_FAULTN
  ⟨0x100014, [], 1, false, 0x0, 0x0, 0xFFFFFFFF, 0x0, 0x0, false, false⟩,  -- RXU_EVT_STATUS
  ⟨0x100018, [], 2, false, 0x0, 0x0, 0x0, 0x0, 0x0, false, false⟩,  -- RXU_ECC_COUNT
  ⟨0x100020, [], 2, false, 0x0, 0x0, 0x0, 0x0, 0x0, false, false⟩,  -- RXU_REL_CHAL
  ⟨0x100028, [(4, 0x4)], 1, false, 0x0, 0x0, 0x0, 0x0, 0xFFFFFFFF, false, false⟩,  -- RXU_REL_TAG
  ⟨0x100038, [], 1, false, 0x0, 0xFFF, 0x0, 0x0, 0x0, false, false⟩,  -- RXU_RELEASE_CFG
  ⟨0x10003C, [], 1, false, 0x0, 0x1FFFF, 0x0, 0x0, 0x0, false, false⟩,  -- RXU_TEST_CFG
  ⟨0x100040, [], 1, false, 0x0, 0x0, 0x0, 0x0, 0x0, false, false⟩,  -- RXU_LATCH_COUNT
  ⟨0x100100, [(4, 0x4)], 1, false, 0x0, 0x0, 0x0, 0x0, 0x0, false, false⟩  -- RXU_LINE_STATE
  ]

/-- Registers of map window 0x00, part 4. -/
def regRows0_4 : List RegRow := [
  ⟨0x100110, [(4, 0x4)], 1, false, 0x0, 0x0, 0x0, 0x0, 0x0, false, false⟩,  -- RXU_SHADOW_NOW
  ⟨0x100120, [(4, 0x4)], 1, false, 0x0, 0x0, 0x0, 0x0, 0x0, false, false⟩,  -- RXU_FENCED_LINES
  ⟨0x101000, [(128, 0x20)], 1, false, 0x0, 0xF000FFFF, 0x0, 0x0, 0x0, false, false⟩,  -- RXU_ENTRY_CFG
  ⟨0x101004, [(128, 0x20)], 1, false, 0x0, 0xFFFF, 0x0, 0x0, 0x0, false, false⟩,  -- RXU_ENTRY_SETTLE
  ⟨0x101008, [(128, 0x20), (4, 0x4)], 1, false, 0x0, 0xFFFFFFFF, 0x0, 0x0, 0x0, false, false⟩,  -- RXU_ENTRY_SHADOW
  ⟨0x10101C, [(128, 0x20)], 1, false, 0x0, 0x0, 0x0, 0x0, 0x0, false, false⟩,  -- RXU_ENTRY_STATE
  ⟨0x102000, [(32, 0x100)], 1, false, 0x0, 0xFE00FFFF, 0x0, 0x0, 0x0, false, false⟩,  -- RXU_SAFE_FRAME
  ⟨0x102004, [(32, 0x100)], 1, false, 0x0, 0xFF00FFFF, 0x0, 0x0, 0x0, false, false⟩,  -- RXU_SAFE_FRAME_4
  ⟨0x102008, [(32, 0x100)], 1, false, 0x0, 0x0, 0x0, 0x0, 0x0, false, false⟩,  -- RXU_SAFE_STATE
  ⟨0x102010, [(32, 0x100)], 60, true, 0x0, 0xFFFFFFFF, 0x0, 0x0, 0x0, false, false⟩,  -- RXU_SAFE_DATA
  ⟨0x105000, [(14, 0x8)], 2, false, 0x0, 0x0, 0x0, 0x0, 0x0, false, false⟩,  -- RXU_CNT
  ⟨0x106000, [(128, 0x8)], 2, false, 0x0, 0x0, 0x0, 0x0, 0x0, false, false⟩,  -- RXU_LINE_CNT
  ⟨0x0, [], 1, false, 0x0, 0x0, 0x0, 0x0, 0x0, false, false⟩,  -- ID_PART
  ⟨0x4, [], 1, false, 0x0, 0x0, 0x0, 0x0, 0x0, false, false⟩,  -- ID_REV
  ⟨0x8, [], 1, false, 0x0, 0x0, 0x0, 0x0, 0x0, false, false⟩,  -- ID_PCI
  ⟨0x10, [(4, 0x4)], 1, false, 0x0, 0x0, 0x0, 0x0, 0x0, false, false⟩  -- ID_SERIAL
  ]

/-- Registers of map window 0x00, part 5. -/
def regRows0_5 : List RegRow := [
  ⟨0x20, [], 1, false, 0x0, 0x0, 0x0, 0x0, 0x0, false, false⟩,  -- ID_MAC_BASE_LO
  ⟨0x24, [], 1, false, 0x0, 0x0, 0x0, 0x0, 0x0, false, false⟩,  -- ID_MAC_BASE_HI
  ⟨0x28, [], 1, false, 0x0, 0x0, 0x0, 0x0, 0x0, false, false⟩,  -- ID_LOADER_VER
  ⟨0x2C, [], 1, false, 0x0, 0x0, 0x0, 0x0, 0x0, false, false⟩,  -- ID_FW_VER
  ⟨0x30, [], 1, false, 0x0, 0x0, 0x0, 0x0, 0x0, false, false⟩,  -- ID_REQUESTER
  ⟨0x34, [], 1, false, 0xFFFFFFFF, 0x0, 0x0, 0x0, 0x0, false, false⟩,  -- ID_SCRATCH
  ⟨0x200000, [(512, 0x4)], 1, false, 0x8000003F, 0x0, 0x0, 0x0, 0x0, false, false⟩,  -- EVT_HOST_ROUTE
  ⟨0x200800, [(512, 0x4)], 1, false, 0x8000000F, 0x0, 0x0, 0x0, 0x0, false, true⟩,  -- EVT_FW_ROUTE
  ⟨0x201000, [(16, 0x4)], 1, false, 0x0, 0x0, 0xFFFFFFFF, 0x0, 0x0, false, false⟩,  -- EVT_HOST_PEND
  ⟨0x201080, [], 1, false, 0xFFFF, 0x0, 0x0, 0x0, 0x0, false, false⟩,  -- EVT_VEC_HOLDOFF
  ⟨0x201100, [(6, 0x4)], 1, false, 0x0, 0x0, 0x0, 0x0, 0x0, true, false⟩,  -- EVT_FIFO
  ⟨0x201120, [(6, 0x4)], 1, false, 0x0, 0x0, 0x0, 0x0, 0x0, false, false⟩  -- EVT_FIFO_LEVEL
  ]

/-- Registers of map window 0x01, part 0. -/
def regRows1_0 : List RegRow := [
  ⟨0x1140000, [(16, 0x10000)], 1, false, 0x0, 0xFFFF06F7, 0x0, 0x0, 0x0, false, false⟩,  -- PORT_CAN_CFG
  ⟨0x1140004, [(16, 0x10000)], 1, false, 0x0, 0x7FFFFFFF, 0x0, 0x0, 0x0, false, false⟩,  -- PORT_CAN_NBT
  ⟨0x1140008, [(16, 0x10000)], 1, false, 0x0, 0xFFFFFFF0, 0x0, 0x0, 0x0, false, false⟩,  -- PORT_CAN_DBT
  ⟨0x114000C, [(16, 0x10000)], 1, false, 0x0, 0xFFFFFFF0, 0x0, 0x0, 0x0, false, false⟩,  -- PORT_CAN_XBT
  ⟨0x1140010, [(16, 0x10000)], 1, false, 0x0, 0x3F3F3F, 0x0, 0x0, 0x0, false, false⟩,  -- PORT_CAN_PWM
  ⟨0x1140014, [(16, 0x10000)], 1, false, 0x0, 0x8000FFFF, 0x0, 0x0, 0x0, false, false⟩,  -- PORT_CAN_TERM
  ⟨0x1140018, [(16, 0x10000)], 1, false, 0x0, 0x8000001F, 0x0, 0x0, 0x0, false, false⟩,  -- PORT_CAN_CLAP
  ⟨0x1140020, [(16, 0x10000)], 1, false, 0x0, 0x0, 0x0, 0x0, 0x0, false, false⟩,  -- PORT_CAN_STATE
  ⟨0x1140024, [(16, 0x10000)], 1, false, 0x0, 0x0, 0x0, 0x0, 0x0, false, false⟩,  -- PORT_CAN_ERRCNT
  ⟨0x1140028, [(16, 0x10000)], 1, false, 0x0, 0x0, 0x0, 0x0, 0x0, false, false⟩,  -- PORT_CAN_TDC
  ⟨0x114002C, [(16, 0x10000)], 1, false, 0x0, 0x0, 0x0, 0x0, 0x1, false, false⟩,  -- PORT_CAN_CMD
  ⟨0x1140030, [(16, 0x10000)], 1, false, 0x0, 0x0, 0x0, 0x0, 0x0, false, false⟩,  -- PORT_CAN_CMD_STATUS
  ⟨0x1140034, [(16, 0x10000)], 1, false, 0x0, 0xF, 0x0, 0x0, 0x0, false, false⟩,  -- PORT_CAN_LIMITS
  ⟨0x1140038, [(16, 0x10000)], 1, false, 0x0, 0x0, 0x1FFF, 0x0, 0x0, false, false⟩,  -- PORT_EVT_STATUS_CAN
  ⟨0x1140100, [(16, 0x10000), (64, 0x8)], 1, false, 0x0, 0xFFFFFFFF, 0x0, 0x0, 0x0, false, false⟩,  -- PORT_CAN_FILT
  ⟨0x1140104, [(16, 0x10000), (64, 0x8)], 1, false, 0x0, 0x1FFFFFFF, 0x0, 0x0, 0x0, false, false⟩  -- PORT_CAN_FMASK
  ]

/-- Registers of map window 0x01, part 1. -/
def regRows1_1 : List RegRow := [
  ⟨0x1141000, [(16, 0x10000), (18, 0x8)], 2, false, 0x0, 0x0, 0x0, 0x0, 0x0, false, false⟩,  -- PORT_CAN_CNT
  ⟨0x1000000, [(18, 0x10000)], 1, false, 0x0, 0xFFFFFFFF, 0x0, 0x0, 0x0, false, false⟩,  -- PORT_ETH_CFG
  ⟨0x1000004, [(18, 0x10000)], 1, false, 0x0, 0xFFFFFFFF, 0x0, 0x0, 0x0, false, false⟩,  -- PORT_ETH_MAC_LO
  ⟨0x1000008, [(18, 0x10000)], 1, false, 0x0, 0xFFFF, 0x0, 0x0, 0x0, false, false⟩,  -- PORT_ETH_MAC_HI
  ⟨0x100000C, [(18, 0x10000)], 1, false, 0x0, 0xFFFF0007, 0x0, 0x0, 0x0, false, false⟩,  -- PORT_ETH_LPI
  ⟨0x1000010, [(18, 0x10000)], 1, false, 0x0, 0xFFFFFFFF, 0x0, 0x0, 0x0, false, false⟩,  -- PORT_ETH_STEP
  ⟨0x1000014, [(18, 0x10000)], 1, false, 0x0, 0x3FFF, 0x0, 0x0, 0x0, false, false⟩,  -- PORT_ETH_STEP_WAIT
  ⟨0x1000018, [(18, 0x10000)], 1, false, 0x0, 0xFFFFFFFF, 0x0, 0x0, 0x0, false, false⟩,  -- PORT_ETH_PLCA
  ⟨0x100001C, [(18, 0x10000)], 1, false, 0x0, 0xFF, 0x0, 0x0, 0x0, false, false⟩,  -- PORT_ETH_PLCA_BT
  ⟨0x1000020, [(18, 0x10000)], 1, false, 0x0, 0x0, 0x0, 0x0, 0x0, false, false⟩,  -- PORT_ETH_STATE
  ⟨0x1000024, [(18, 0x10000)], 1, false, 0x0, 0x0, 0x0, 0x0, 0x0, false, false⟩,  -- PORT_ETH_WAKE
  ⟨0x100002C, [(18, 0x10000)], 1, false, 0x0, 0x0, 0x0, 0x0, 0x1, false, false⟩,  -- PORT_ETH_CMD
  ⟨0x1000030, [(18, 0x10000)], 1, false, 0x0, 0x0, 0x0, 0x0, 0x0, false, false⟩,  -- PORT_ETH_CMD_STATUS
  ⟨0x1000038, [(18, 0x10000)], 1, false, 0x0, 0x0, 0x3FFF, 0x0, 0x0, false, false⟩,  -- PORT_EVT_STATUS_ETH
  ⟨0x1001000, [(18, 0x10000), (24, 0x8)], 2, false, 0x0, 0x0, 0x0, 0x0, 0x0, false, false⟩,  -- PORT_ETH_CNT
  ⟨0x1240000, [(8, 0x10000)], 1, false, 0x0, 0xFFFFC000, 0x0, 0x0, 0x0, false, false⟩  -- PORT_LIN_CFG
  ]

/-- Registers of map window 0x01, part 2. -/
def regRows1_2 : List RegRow := [
  ⟨0x1240004, [(8, 0x10000)], 1, false, 0x0, 0x7FFF, 0x0, 0x0, 0x0, false, false⟩,  -- PORT_LIN_BAUD
  ⟨0x1240010, [(8, 0x10000), (2, 0x4)], 1, false, 0x0, 0xFFFFFFFF, 0x0, 0x0, 0x0, false, false⟩,  -- PORT_LIN_SCENE
  ⟨0x1240020, [(8, 0x10000)], 1, false, 0x0, 0x0, 0x0, 0x0, 0x0, false, false⟩,  -- PORT_LIN_STATE
  ⟨0x1240038, [(8, 0x10000)], 1, false, 0x0, 0x0, 0x3FF, 0x0, 0x0, false, false⟩,  -- PORT_EVT_STATUS_LIN
  ⟨0x1240100, [(8, 0x10000), (64, 0x4)], 1, false, 0x0, 0xE000007F, 0x0, 0x0, 0x0, false, false⟩,  -- PORT_LIN_FRAME
  ⟨0x1240200, [(8, 0x10000), (64, 0x8)], 2, false, 0x0, 0x0, 0x0, 0x0, 0x0, false, false⟩,  -- PORT_LIN_DATA
  ⟨0x1240600, [(8, 0x10000), (8, 0x4)], 1, false, 0x0, 0x8000007F, 0x0, 0x0, 0x0, false, false⟩,  -- PORT_LIN_TBL_CFG
  ⟨0x1240800, [(8, 0x10000), (8, 0x100), (64, 0x4)], 1, false, 0x0, 0xE73FFFFF, 0x0, 0x0, 0x0, false, false⟩,  -- PORT_LIN_TBL
  ⟨0x1241000, [(8, 0x10000), (14, 0x8)], 2, false, 0x0, 0x0, 0x0, 0x0, 0x0, false, false⟩,  -- PORT_LIN_CNT
  ⟨0x1120020, [], 1, false, 0x0, 0x0, 0x0, 0x0, 0x0, false, false⟩,  -- PORT18_HP_STATE
  ⟨0x1120024, [(2, 0x4)], 1, false, 0x0, 0x0, 0x0, 0x0, 0x0, false, false⟩,  -- PORT18_HP_MAP
  ⟨0x1120038, [], 1, false, 0x0, 0x0, 0x7, 0x0, 0x0, false, false⟩,  -- PORT18_EVT_STATUS
  ⟨0x1121000, [(8, 0x8)], 2, false, 0x0, 0x0, 0x0, 0x0, 0x0, false, false⟩,  -- PORT18_CNT
  ⟨0x1130020, [], 1, false, 0x0, 0x0, 0x0, 0x0, 0x0, false, false⟩,  -- PORT19_CP_STATE
  ⟨0x1130100, [(4, 0x20)], 1, false, 0x7FFFE000, 0x0, 0x0, 0x80000000, 0x0, false, false⟩,  -- PORT19_CP_TX
  ⟨0x1130104, [(4, 0x20)], 1, false, 0x3FFF, 0x0, 0x0, 0x0, 0x0, false, false⟩  -- PORT19_CP_LEN
  ]

/-- Registers of map window 0x01, part 3. -/
def regRows1_3 : List RegRow := [
  ⟨0x1130108, [(4, 0x20)], 1, false, 0x0, 0x0, 0x0, 0x0, 0x0, false, false⟩,  -- PORT19_CP_RES
  ⟨0x1130110, [(4, 0x20)], 2, false, 0x0, 0x0, 0x0, 0x0, 0x0, false, false⟩,  -- PORT19_CP_TS
  ⟨0x1131000, [(4, 0x8)], 2, false, 0x0, 0x0, 0x0, 0x0, 0x0, false, false⟩,  -- PORT19_CNT
  ⟨0x1134000, [(4, 0x2400)], 2304, true, 0xFFFFFFFF, 0x0, 0x0, 0x0, 0x0, false, false⟩  -- PORT19_CP_BUF
  ]

/-- Registers of map window 0x02, part 0. -/
def regRows2_0 : List RegRow := [
  ⟨0x2000000, [], 1, false, 0x0, 0x0, 0x0, 0x0, 0x0, false, false⟩,  -- LKU_CTRL
  ⟨0x2000004, [], 1, false, 0x0, 0x0, 0x0, 0x0, 0x0, false, false⟩,  -- LKU_STATUS
  ⟨0x2000008, [], 1, false, 0x0, 0x1FFFF, 0x0, 0x0, 0x0, false, false⟩,  -- LKU_FWD_COUNT
  ⟨0x200000C, [], 1, false, 0x0, 0xFFFF, 0x0, 0x0, 0x0, false, false⟩,  -- LKU_FLOW_COUNT
  ⟨0x2000010, [], 1, false, 0x0, 0xFFFFFFFF, 0x0, 0x0, 0x0, false, false⟩,  -- LKU_CANR_COUNT
  ⟨0x2000014, [], 1, false, 0x0, 0x3FFF, 0x0, 0x0, 0x0, false, false⟩,  -- LKU_MTR_COUNT
  ⟨0x2000020, [], 1, false, 0x0, 0x0, 0xFFFFFFFF, 0x0, 0x0, false, false⟩,  -- LKU_EVT_STATUS
  ⟨0x2000028, [], 2, false, 0x0, 0x0, 0x0, 0x0, 0x0, false, false⟩,  -- LKU_ECC_COUNT
  ⟨0x2000100, [(45, 0x4)], 1, false, 0x0, 0xFF3FFF, 0x0, 0x0, 0x0, false, false⟩,  -- LKU_PORT_CFG
  ⟨0x2000200, [(45, 0x4)], 1, false, 0x0, 0xFFF0F0F, 0x0, 0x0, 0x0, false, false⟩,  -- LKU_PORT_KEY
  ⟨0x2001000, [(45, 0x80), (12, 0x8)], 2, false, 0x0, 0x0, 0x0, 0x0, 0x0, false, false⟩,  -- LKU_PORT_CNT
  ⟨0x2100000, [(8192, 0x20), (4, 0x8)], 2, false, 0x0, 0x0, 0x0, 0x0, 0x0, false, false⟩,  -- LKU_MTR_CNT
  ⟨0x2180000, [(18432, 0x8)], 2, false, 0x0, 0x0, 0x0, 0x0, 0x0, false, false⟩,  -- LKU_FLOOD_CNT
  ⟨0x2200000, [(4096, 0x4)], 1, false, 0x0, 0xC0000000, 0x0, 0x0, 0x0, false, false⟩  -- LKU_SEQ
  ]

/-- Registers of map window 0x03, part 0. -/
def regRows3_0 : List RegRow := [
  ⟨0x3000000, [], 1, false, 0x0, 0x0, 0x0, 0x0, 0x0, false, false⟩,  -- CPL_STATUS
  ⟨0x3000004, [], 1, false, 0x0, 0x0, 0x0, 0x0, 0x0, false, false⟩,  -- CPL_FREE_CELLS
  ⟨0x3000008, [], 1, false, 0x0, 0x0, 0x0, 0x0, 0x0, false, false⟩,  -- CPL_FREE_DESC
  ⟨0x3000010, [(5, 0x4)], 1, false, 0x0, 0x3FFFF, 0x0, 0x0, 0x0, false, false⟩,  -- CPL_PART_SIZE
  ⟨0x3000030, [(5, 0x4)], 1, false, 0x0, 0x0, 0x0, 0x0, 0x0, false, false⟩,  -- CPL_PART_USE
  ⟨0x3000050, [], 1, false, 0x0, 0x3FFFF, 0x0, 0x0, 0x0, false, false⟩,  -- CPL_SHARED_T1
  ⟨0x3000054, [], 1, false, 0x0, 0x3FFFF, 0x0, 0x0, 0x0, false, false⟩,  -- CPL_SHARED_T2
  ⟨0x3000060, [], 1, false, 0x0, 0x0, 0xFFFFFFFF, 0x0, 0x0, false, false⟩,  -- CPL_EVT_STATUS
  ⟨0x3000068, [], 2, false, 0x0, 0x0, 0x0, 0x0, 0x0, false, false⟩,  -- CPL_ECC_COUNT
  ⟨0x3000070, [], 1, false, 0x3FF, 0x0, 0x0, 0x0, 0x0, false, false⟩,  -- CPL_STALL_LIMIT
  ⟨0x3000074, [], 1, false, 0x0, 0x0, 0x0, 0x0, 0xFFFF, false, false⟩,  -- CPL_FREE
  ⟨0x3000078, [], 1, false, 0x0, 0x0, 0x0, 0x0, 0x0, false, false⟩,  -- CPL_SPILL_USE
  ⟨0x3000080, [(2, 0x4)], 1, false, 0x0, 0x0, 0x0, 0x0, 0x0, false, false⟩,  -- CPL_WM_PEND
  ⟨0x3000100, [(45, 0x20)], 1, false, 0x0, 0xFFFFFFFF, 0x0, 0x0, 0x0, false, false⟩,  -- CPL_PORT_CFG
  ⟨0x3000104, [(45, 0x20)], 1, false, 0x0, 0x0, 0x0, 0x0, 0x0, false, false⟩,  -- CPL_PORT_STAGE
  ⟨0x3000108, [(45, 0x20)], 1, false, 0x0, 0x0, 0x0, 0x0, 0x0, false, false⟩  -- CPL_PORT_GUAR
  ]

/-- Registers of map window 0x03, part 1. -/
def regRows3_1 : List RegRow := [
  ⟨0x300010C, [(45, 0x20)], 1, false, 0x0, 0x0, 0x0, 0x0, 0x0, false, false⟩,  -- CPL_PORT_LOGICAL
  ⟨0x3000110, [(45, 0x20)], 1, false, 0x0, 0x0, 0x0, 0x0, 0x0, false, false⟩,  -- CPL_PORT_HELD
  ⟨0x3000114, [(45, 0x20)], 1, false, 0x0, 0x0, 0x0, 0x0, 0x0, false, false⟩,  -- CPL_PORT_STATE
  ⟨0x3001000, [(19, 0x40), (8, 0x8)], 1, false, 0x0, 0xFFFFFFFF, 0x0, 0x0, 0x0, false, false⟩,  -- CPL_PFC
  ⟨0x3001004, [(19, 0x40), (8, 0x8)], 1, false, 0x0, 0xFFFF, 0x0, 0x0, 0x0, false, false⟩,  -- CPL_PFC_HDRM
  ⟨0x3002000, [(512, 0x10)], 1, false, 0x0, 0xFF03FFFF, 0x0, 0x0, 0x0, false, false⟩,  -- CPL_Q_CFG
  ⟨0x3002004, [(512, 0x10)], 1, false, 0x0, 0xFFFF0000, 0x0, 0x0, 0x0, false, false⟩,  -- CPL_Q_WAIT
  ⟨0x3002008, [(512, 0x10)], 1, false, 0x0, 0x0, 0x0, 0x0, 0x0, false, false⟩,  -- CPL_Q_CELLS
  ⟨0x300200C, [(512, 0x10)], 1, false, 0x0, 0x0, 0x0, 0x0, 0x0, false, false⟩,  -- CPL_Q_FRAMES
  ⟨0x3004000, [(64, 0x20)], 1, false, 0x0, 0x81FF1FFF, 0x0, 0x0, 0x0, false, false⟩,  -- CPL_DEEP_CFG
  ⟨0x3004004, [(64, 0x20)], 1, false, 0x0, 0xFFFF, 0x0, 0x0, 0x0, false, false⟩,  -- CPL_DEEP_QUOTA
  ⟨0x3004008, [(64, 0x20)], 1, false, 0x0, 0x0, 0x0, 0x0, 0x0, false, false⟩,  -- CPL_DEEP_USE
  ⟨0x300400C, [(64, 0x20)], 1, false, 0x0, 0x0, 0x0, 0x0, 0x0, false, false⟩,  -- CPL_DEEP_FRAMES
  ⟨0x3005000, [(64, 0x10)], 1, false, 0x0, 0xF00001FF, 0x0, 0x0, 0x0, false, false⟩,  -- CPL_WM_CFG
  ⟨0x3005004, [(64, 0x10)], 1, false, 0x0, 0x3FFFF, 0x0, 0x0, 0x0, false, false⟩,  -- CPL_WM_UP
  ⟨0x3005008, [(64, 0x10)], 1, false, 0x0, 0x3FFFF, 0x0, 0x0, 0x0, false, false⟩  -- CPL_WM_DOWN
  ]

/-- Registers of map window 0x03, part 2. -/
def regRows3_2 : List RegRow := [
  ⟨0x3006000, [(64, 0x10)], 1, false, 0x0, 0x0, 0xC0000000, 0x0, 0x20000000, false, false⟩,  -- CPL_WM_NOTICE
  ⟨0x3006004, [(64, 0x10)], 1, false, 0x0, 0x0, 0x0, 0x0, 0x0, false, false⟩,  -- CPL_WM_PEAK
  ⟨0x3006008, [(64, 0x10)], 1, false, 0x0, 0x0, 0x0, 0x0, 0x0, false, false⟩,  -- CPL_WM_LIVE
  ⟨0x3007000, [(64, 0x4)], 1, false, 0x0, 0x0, 0x0, 0x0, 0x0, true, false⟩,  -- CPL_POP
  ⟨0x3010000, [(512, 0x40), (8, 0x8)], 2, false, 0x0, 0x0, 0x0, 0x0, 0x0, false, false⟩,  -- CPL_Q_CNT
  ⟨0x3018000, [(64, 0x20), (3, 0x8)], 2, false, 0x0, 0x0, 0x0, 0x0, 0x0, false, false⟩,  -- CPL_DEEP_CNT
  ⟨0x301C000, [(45, 0x40), (3, 0x8)], 2, false, 0x0, 0x0, 0x0, 0x0, 0x0, false, false⟩,  -- CPL_PORT_CNT
  ⟨0x3100000, [(65536, 0x10)], 4, true, 0x0, 0x0, 0x0, 0x0, 0x0, false, false⟩  -- CPL_DESC
  ]

/-- Registers of map window 0x04, part 0. -/
def regRows4_0 : List RegRow := [
  ⟨0x4000000, [], 1, false, 0x0, 0x0, 0x0, 0x0, 0x0, false, false⟩,  -- SCH_STATUS
  ⟨0x4000004, [], 1, false, 0x0, 0x0, 0x0, 0x0, 0x0, false, false⟩,  -- SCH_CT_SLOTS
  ⟨0x4000008, [], 1, false, 0x0, 0x0, 0xFFFFFFFF, 0x0, 0x0, false, false⟩,  -- SCH_EVT_STATUS
  ⟨0x4000010, [], 2, false, 0x0, 0x0, 0x0, 0x0, 0x0, false, false⟩,  -- SCH_ECC_COUNT
  ⟨0x4000100, [(45, 0x20)], 1, false, 0x0, 0xFEFF0000, 0x0, 0x0, 0x0, false, false⟩,  -- SCH_PORT_CFG
  ⟨0x4000104, [(45, 0x20)], 1, false, 0x0, 0xFFFF0000, 0x0, 0x0, 0x0, false, false⟩,  -- SCH_PORT_PAUSE
  ⟨0x4000108, [(45, 0x20)], 1, false, 0x0, 0x0, 0x0, 0x0, 0x0, false, false⟩,  -- SCH_PORT_STATE
  ⟨0x4000110, [(45, 0x20)], 2, false, 0x0, 0x0, 0x0, 0x0, 0x0, false, false⟩,  -- SCH_VTIME
  ⟨0x4002000, [(384, 0x10)], 1, false, 0x0, 0x1FF, 0x0, 0x0, 0x0, false, false⟩,  -- SCH_Q_CFG
  ⟨0x4002004, [(384, 0x10)], 1, false, 0x0, 0x3FFFFF, 0x0, 0x0, 0x0, false, false⟩,  -- SCH_Q_RATE
  ⟨0x4002008, [(384, 0x10)], 1, false, 0x0, 0x1FFFFF, 0x0, 0x0, 0x0, false, false⟩,  -- SCH_Q_BURST
  ⟨0x400200C, [(384, 0x10)], 1, false, 0x0, 0x0, 0x0, 0x0, 0x0, false, false⟩,  -- SCH_Q_TOKENS
  ⟨0x4003000, [(16, 0x4)], 1, false, 0x0, 0x0, 0x0, 0x0, 0x0, false, false⟩,  -- SCH_CAN_STATE
  ⟨0x4008000, [(32, 0x4)], 1, false, 0x0, 0xF000003F, 0x0, 0x0, 0x0, false, false⟩,  -- GATE_TTU
  ⟨0x4008100, [(36, 0x10)], 1, false, 0x0, 0x9F000000, 0x0, 0x0, 0x0, false, false⟩,  -- GATE_PORT
  ⟨0x4008104, [(36, 0x10)], 1, false, 0x0, 0x0, 0x0, 0x0, 0x0, false, false⟩  -- GATE_PORT_ENTRY
  ]

/-- Registers of map window 0x04, part 1. -/
def regRows4_1 : List RegRow := [
  ⟨0x400A000, [(36, 0x40), (16, 0x4)], 1, false, 0x0, 0x7F, 0x0, 0x0, 0x0, false, false⟩,  -- GATE_SCENE_LIST
  ⟨0x4040000, [(64, 0x10)], 1, false, 0x0, 0x800001FF, 0x0, 0x0, 0x0, false, false⟩,  -- GATE_LIST_CFG
  ⟨0x4040004, [(64, 0x10)], 2, false, 0x0, 0xFFFFFFFFFFFFFFFF, 0x0, 0x0, 0x0, false, false⟩,  -- GATE_LIST_BASE
  ⟨0x404000C, [(64, 0x10)], 1, false, 0x0, 0xFFFFFFFF, 0x0, 0x0, 0x0, false, false⟩,  -- GATE_LIST_CYCLE
  ⟨0x4080000, [(64, 0x800), (256, 0x8)], 1, false, 0x0, 0xFF, 0x0, 0x0, 0x0, false, false⟩,  -- GATE_LIST_ENTRY
  ⟨0x4080004, [(64, 0x800), (256, 0x8)], 1, false, 0x0, 0xFFFFFFFF, 0x0, 0x0, 0x0, false, false⟩,  -- GATE_LIST_ENTRY_4
  ⟨0x4010000, [(45, 0x80), (12, 0x8)], 2, false, 0x0, 0x0, 0x0, 0x0, 0x0, false, false⟩,  -- SCH_PORT_CNT
  ⟨0x4020000, [(384, 0x10), (2, 0x8)], 2, false, 0x0, 0x0, 0x0, 0x0, 0x0, false, false⟩,  -- SCH_Q_CNT
  ⟨0x4022000, [(16, 0x20), (3, 0x8)], 2, false, 0x0, 0x0, 0x0, 0x0, 0x0, false, false⟩  -- SCH_CAN_CNT
  ]

/-- Registers of map window 0x05, part 0. -/
def regRows5_0 : List RegRow := [
  ⟨0x5000000, [], 1, false, 0x0, 0x0, 0x0, 0x0, 0x0, false, false⟩,  -- COL_STATUS
  ⟨0x5000004, [], 1, false, 0x0, 0x7FF, 0x0, 0x0, 0x0, false, false⟩,  -- COL_CTX_COUNT
  ⟨0x5000008, [], 1, false, 0x0, 0x0, 0xFFFFFFFF, 0x0, 0x0, false, false⟩,  -- COL_EVT_STATUS
  ⟨0x500000C, [], 1, false, 0x0, 0x0, 0x0, 0x0, 0x0, false, false⟩,  -- COL_HELD_TOTAL
  ⟨0x5000010, [], 2, false, 0x0, 0x0, 0x0, 0x0, 0x0, false, false⟩,  -- COL_ECC_COUNT
  ⟨0x5001000, [(1024, 0x20)], 1, false, 0x0, 0xFFFFFFFF, 0x0, 0x0, 0x0, false, false⟩,  -- COL_CTX_CFG
  ⟨0x5001004, [(1024, 0x20)], 1, false, 0x0, 0xFFFCFFFF, 0x0, 0x0, 0x0, false, false⟩,  -- COL_CTX_TIMERS
  ⟨0x5001008, [(1024, 0x20)], 1, false, 0x0, 0xF800FFFF, 0x0, 0x0, 0x0, false, false⟩,  -- COL_CTX_LATENT
  ⟨0x500100C, [(1024, 0x20)], 1, false, 0x0, 0xFFFFFFFF, 0x0, 0x0, 0x0, false, false⟩,  -- COL_CTX_LPER
  ⟨0x5001010, [(1024, 0x20)], 1, false, 0x0, 0x0, 0x0, 0x0, 0x0, false, false⟩,  -- COL_CTX_STATE
  ⟨0x5001014, [(1024, 0x20)], 1, false, 0x0, 0x0, 0x0, 0x0, 0x0, false, false⟩,  -- COL_CTX_DEADLINE
  ⟨0x5001018, [(1024, 0x20)], 2, false, 0x0, 0x0, 0x0, 0x0, 0x0, false, false⟩,  -- COL_CTX_HIST
  ⟨0x5010000, [(1024, 0x80), (11, 0x8)], 2, false, 0x0, 0x0, 0x0, 0x0, 0x0, false, false⟩  -- COL_CTX_CNT
  ]

/-- Registers of map window 0x06, part 0. -/
def regRows6_0 : List RegRow := [
  ⟨0x6000000, [], 1, false, 0x0, 0x0, 0x0, 0x0, 0x0, false, false⟩,  -- SGE_STATUS
  ⟨0x6000004, [], 1, false, 0x0, 0x0, 0xFFFFFFFF, 0x0, 0x0, false, false⟩,  -- SGE_EVT_STATUS
  ⟨0x6000008, [], 2, false, 0x0, 0x0, 0x0, 0x0, 0x0, false, false⟩,  -- SGE_ECC_COUNT
  ⟨0x6000010, [], 1, false, 0x0, 0x7FF, 0x0, 0x0, 0x0, false, false⟩,  -- SGE_CONV_COUNT
  ⟨0x6000014, [], 1, false, 0x0, 0x1FF01FF, 0x0, 0x0, 0x0, false, false⟩,  -- SGE_BRIDGE_COUNT
  ⟨0x6000018, [], 1, false, 0x0, 0x1FFF0FFF, 0x0, 0x0, 0x0, false, false⟩,  -- SGE_SIG_COUNT
  ⟨0x600001C, [], 1, false, 0x0, 0x1FF, 0x0, 0x0, 0x0, false, false⟩,  -- SGE_TP_COUNT
  ⟨0x6000020, [], 1, false, 0x0, 0x0, 0x0, 0x0, 0x0, false, false⟩,  -- SGE_OPS
  ⟨0x6000040, [(2, 0x8)], 2, false, 0x0, 0x0, 0x0, 0x0, 0x0, false, false⟩,  -- SGE_DISCARD_CNT
  ⟨0x6000100, [(16, 0x4)], 1, false, 0x0, 0x0, 0x0, 0x0, 0x0, false, false⟩,  -- SGE_THREAD
  ⟨0x6000200, [(16, 0x4)], 1, false, 0x0, 0x8000FF00, 0x0, 0x0, 0x0, false, false⟩,  -- SGE_J1939
  ⟨0x6000300, [(16, 0x8)], 2, false, 0x0, 0xFFFFFFFFFFFFFFFF, 0x0, 0x0, 0x0, false, false⟩,  -- SGE_J1939_NAME
  ⟨0x6001000, [(1024, 0x8)], 1, false, 0x0, 0xFFFFFFFF, 0x0, 0x0, 0x0, false, false⟩,  -- SGE_CONV_CFG
  ⟨0x6001004, [(1024, 0x8)], 1, false, 0x0, 0x1FFFFFFF, 0x0, 0x0, 0x0, false, false⟩,  -- SGE_CONV_ID
  ⟨0x6004000, [(256, 0x20)], 1, false, 0x0, 0xF00007FF, 0x0, 0x0, 0x0, false, false⟩,  -- SGE_ENC_CFG
  ⟨0x6004004, [(256, 0x20)], 1, false, 0x0, 0x3FFF, 0x0, 0x0, 0x0, false, false⟩  -- SGE_ENC_WIN
  ]

/-- Registers of map window 0x06, part 1. -/
def regRows6_1 : List RegRow := [
  ⟨0x6004008, [(256, 0x20)], 2, false, 0x0, 0xFFFFFFFFFFFFFFFF, 0x0, 0x0, 0x0, false, false⟩,  -- SGE_ENC_STREAM
  ⟨0x6004010, [(256, 0x20)], 1, false, 0x0, 0x0, 0x0, 0x0, 0x0, false, false⟩,  -- SGE_ENC_STATE
  ⟨0x6006000, [(256, 0x10)], 1, false, 0x0, 0xE0000000, 0x0, 0x0, 0x0, false, false⟩,  -- SGE_UNP_CFG
  ⟨0x6008000, [(256, 0x80), (32, 0x4)], 1, false, 0x0, 0x3F, 0x0, 0x0, 0x0, false, false⟩,  -- SGE_UNP_MAP
  ⟨0x6010000, [(2048, 0x10)], 1, false, 0x0, 0xFF3F0FFF, 0x0, 0x0, 0x0, false, false⟩,  -- SGE_PDU_CFG
  ⟨0x6010004, [(2048, 0x10)], 1, false, 0x0, 0xFFFF07FF, 0x0, 0x0, 0x0, false, false⟩,  -- SGE_PDU_TIME
  ⟨0x6010008, [(2048, 0x10)], 1, false, 0x0, 0x0, 0x0, 0x0, 0x0, false, false⟩,  -- SGE_PDU_STATE
  ⟨0x601000C, [(2048, 0x10)], 1, false, 0x0, 0xFFFFFFFF, 0x0, 0x0, 0x0, false, false⟩,  -- SGE_PDU_GAP
  ⟨0x6020000, [(4096, 0x10)], 1, false, 0x0, 0xF1FFFFFF, 0x0, 0x0, 0x0, false, false⟩,  -- SGE_ROUTE_SRC
  ⟨0x6020004, [(4096, 0x10)], 1, false, 0x0, 0x41FFFFFF, 0x0, 0x0, 0x0, false, false⟩,  -- SGE_ROUTE_DST
  ⟨0x6020008, [(4096, 0x10)], 1, false, 0x0, 0xFFFE0000, 0x0, 0x0, 0x0, false, false⟩,  -- SGE_ROUTE_OPS
  ⟨0x6030000, [(256, 0x4)], 1, false, 0x0, 0xFF8007FF, 0x0, 0x0, 0x0, false, false⟩,  -- SGE_TP_CFG
  ⟨0x6030400, [(256, 0x4)], 1, false, 0x0, 0x8003FFFF, 0x0, 0x0, 0x0, false, false⟩,  -- SGE_TP_PGN
  ⟨0x6031000, [(68, 0x10)], 1, false, 0x0, 0x0, 0x0, 0x0, 0x0, false, false⟩,  -- SGE_TP_SESS
  ⟨0x6031004, [(68, 0x10)], 1, false, 0x0, 0x0, 0x0, 0x0, 0x0, false, false⟩,  -- SGE_TP_SESS_4
  ⟨0x6031008, [(68, 0x10)], 1, false, 0x0, 0x0, 0x0, 0x0, 0x0, false, false⟩  -- SGE_TP_SESS_8
  ]

/-- Registers of map window 0x06, part 2. -/
def regRows6_2 : List RegRow := [
  ⟨0x603100C, [(68, 0x10)], 1, false, 0x0, 0x0, 0x0, 0x0, 0x0, false, false⟩,  -- SGE_TP_SESS_C
  ⟨0x6040000, [(16, 0x20), (3, 0x8)], 2, false, 0x0, 0x0, 0x0, 0x0, 0x0, false, false⟩,  -- SGE_CONV_CNT
  ⟨0x6041000, [(256, 0x40), (6, 0x8)], 2, false, 0x0, 0x0, 0x0, 0x0, 0x0, false, false⟩,  -- SGE_ENC_CNT
  ⟨0x6048000, [(256, 0x40), (5, 0x8)], 2, false, 0x0, 0x0, 0x0, 0x0, 0x0, false, false⟩,  -- SGE_UNP_CNT
  ⟨0x604C000, [(8, 0x8)], 2, false, 0x0, 0x0, 0x0, 0x0, 0x0, false, false⟩,  -- SGE_TP_CNT
  ⟨0x6050000, [(2048, 0x20), (4, 0x8)], 2, false, 0x0, 0x0, 0x0, 0x0, 0x0, false, false⟩,  -- SGE_PDU_CNT
  ⟨0x6100000, [(2048, 0x100)], 64, true, 0x0, 0x0, 0x0, 0x0, 0x0, false, false⟩  -- SGE_PDU_DATA
  ]

/-- Registers of map window 0x07, part 0. -/
def regRows7_0 : List RegRow := [
  ⟨0x7000000, [], 1, false, 0x0, 0x30, 0x0, 0x0, 0x0, false, false⟩,  -- TIM_STATUS
  ⟨0x7000004, [], 1, false, 0x0, 0x0, 0x0, 0x0, 0x7, false, false⟩,  -- TIM_CMD
  ⟨0x7000008, [], 1, false, 0x0, 0x0, 0x0, 0x0, 0x0, false, false⟩,  -- TIM_CMD_STATUS
  ⟨0x700000C, [], 1, false, 0x0, 0x0, 0xFFFFFFFF, 0x0, 0x0, false, false⟩,  -- TIM_EVT_STATUS
  ⟨0x7000010, [], 1, false, 0x0, 0x0, 0x0, 0x0, 0x0, false, false⟩,  -- TIM_OFFSET_NS
  ⟨0x7000014, [], 1, false, 0x0, 0x0, 0x0, 0x0, 0x0, false, false⟩,  -- TIM_RATE_PPB
  ⟨0x7000018, [], 1, false, 0xFFFFFFFF, 0x0, 0x0, 0x0, 0x0, false, false⟩,  -- TIM_GM_ADJ
  ⟨0x700001C, [], 1, false, 0x0, 0x0, 0x0, 0x0, 0x0, false, false⟩,  -- TIM_HOLD_ELAPSED
  ⟨0x7000020, [], 2, false, 0x0, 0x0, 0x0, 0x0, 0x0, false, false⟩,  -- TIM_LATCH_DEV
  ⟨0x7000028, [], 2, false, 0x0, 0x0, 0x0, 0x0, 0x0, false, false⟩,  -- TIM_LATCH_SEC
  ⟨0x7000030, [], 1, false, 0x0, 0x0, 0x0, 0x0, 0x0, false, false⟩,  -- TIM_LATCH_NS
  ⟨0x7000038, [], 2, false, 0xFFFFFFFFFFFF, 0x0, 0x0, 0x0, 0x0, false, false⟩,  -- TIM_SET_SEC
  ⟨0x7000040, [], 1, false, 0x3FFFFFFF, 0x0, 0x0, 0x0, 0x0, false, false⟩,  -- TIM_SET_NS
  ⟨0x7000044, [], 1, false, 0x0, 0xC00001FF, 0x0, 0x0, 0x0, false, false⟩,  -- TIM_PPS_CFG
  ⟨0x7000048, [], 1, false, 0x0, 0x1FFFF, 0x0, 0x0, 0x0, false, false⟩,  -- TIM_LIMITS
  ⟨0x700004C, [], 1, false, 0x0, 0xFFFF, 0x0, 0x0, 0x0, false, false⟩  -- TIM_SYNC_LIMIT
  ]

/-- Registers of map window 0x07, part 1. -/
def regRows7_1 : List RegRow := [
  ⟨0x7000100, [(2, 0x10)], 1, false, 0x0, 0xC07FFFFF, 0x0, 0x0, 0x0, false, false⟩,  -- TIM_DOM_CFG
  ⟨0x7000104, [(2, 0x10)], 1, false, 0x0, 0x0, 0x0, 0x0, 0x0, false, false⟩,  -- TIM_DOM_STATE
  ⟨0x7000108, [(2, 0x10)], 1, false, 0x0, 0x0, 0x0, 0x0, 0x0, false, false⟩,  -- TIM_DOM_OFFSET
  ⟨0x7000200, [(18, 0x10)], 1, false, 0x0, 0xFFF0FFFF, 0x0, 0x0, 0x0, false, false⟩,  -- TIM_PORT_CFG
  ⟨0x7000204, [(18, 0x10)], 1, false, 0x0, 0x0, 0x0, 0x0, 0x0, false, false⟩,  -- TIM_PORT_STATE
  ⟨0x7000208, [(18, 0x10)], 1, false, 0x0, 0x0, 0x0, 0x0, 0x0, false, false⟩,  -- TIM_PORT_NRR
  ⟨0x7000400, [(16, 0x20)], 1, false, 0x0, 0xF8FFFF00, 0x0, 0x0, 0x0, false, false⟩,  -- TIM_CLAP_CFG
  ⟨0x7000404, [(16, 0x20)], 1, false, 0x0, 0x1FFFFFFF, 0x0, 0x0, 0x0, false, false⟩,  -- TIM_CLAP_ID
  ⟨0x7000408, [(16, 0x20)], 1, false, 0x0, 0xFFFF, 0x0, 0x0, 0x0, false, false⟩,  -- TIM_CLAP_PERIOD
  ⟨0x700040C, [(16, 0x20)], 1, false, 0x0, 0xFFFFFF, 0x0, 0x0, 0x0, false, false⟩,  -- TIM_CLAP_OFFSET
  ⟨0x7000410, [(16, 0x20)], 1, false, 0x0, 0x0, 0x0, 0x0, 0x0, false, false⟩,  -- TIM_CLAP_STATE
  ⟨0x7010000, [(8, 0x8)], 2, false, 0x0, 0x0, 0x0, 0x0, 0x0, false, false⟩,  -- TIM_CNT
  ⟨0x7011000, [(18, 0x40), (8, 0x8)], 2, false, 0x0, 0x0, 0x0, 0x0, 0x0, false, false⟩  -- TIM_PORT_CNT
  ]

/-- Registers of map window 0x08, part 0. -/
def regRows8_0 : List RegRow := [
  ⟨0x8000000, [], 1, false, 0x0, 0x0, 0x0, 0x0, 0x0, false, false⟩,  -- CIP_STATUS
  ⟨0x8000004, [], 1, false, 0x0, 0x0, 0xFFFFFFFF, 0x0, 0x0, false, false⟩,  -- CIP_EVT_STATUS
  ⟨0x8000008, [], 2, false, 0x0, 0x0, 0x0, 0x0, 0x0, false, false⟩,  -- CIP_ECC_COUNT
  ⟨0x8000010, [], 2, false, 0x0, 0xFFFFFFFFFFFFFFFF, 0x0, 0x0, 0x0, false, false⟩,  -- CIP_PN_WARN
  ⟨0x8000018, [], 2, false, 0x0, 0xFFFFFFFFFFFF, 0x0, 0x0, 0x0, false, false⟩,  -- CIP_FV_WARN
  ⟨0x8000020, [], 1, false, 0x0, 0x0, 0x0, 0x0, 0x0, false, false⟩,  -- CIP_JOBS
  ⟨0x8000024, [], 1, false, 0x0, 0x1FFF, 0x0, 0x0, 0x0, false, false⟩,  -- CIP_COMMIT
  ⟨0x8000100, [(8, 0x4)], 1, false, 0x0, 0x0, 0x0, 0x0, 0x0, false, false⟩,  -- CIP_LANE
  ⟨0x8001000, [(18, 0x100)], 1, false, 0x0, 0xFC000000, 0x0, 0x0, 0x0, false, false⟩,  -- CIP_SECY_CFG
  ⟨0x8001004, [(18, 0x100)], 1, false, 0x0, 0xFFFFFFFF, 0x0, 0x0, 0x0, false, false⟩,  -- CIP_SECY_REPLAY
  ⟨0x8001008, [(18, 0x100)], 2, false, 0x0, 0x0, 0x0, 0x0, 0x0, false, false⟩,  -- CIP_SECY_TXSCI
  ⟨0x8001010, [(18, 0x100), (2, 0x10)], 1, false, 0x0, 0x0, 0x0, 0x0, 0x0, false, false⟩,  -- CIP_TX_SA
  ⟨0x8001014, [(18, 0x100), (2, 0x10)], 2, false, 0x0, 0x0, 0x0, 0x0, 0x0, false, false⟩,  -- CIP_TX_PN
  ⟨0x8001040, [(18, 0x100), (4, 0x30)], 2, false, 0x0, 0x0, 0x0, 0x0, 0x0, false, false⟩,  -- CIP_RX_SCI
  ⟨0x8001048, [(18, 0x100), (4, 0x30)], 1, false, 0x0, 0x0, 0x0, 0x0, 0x0, false, false⟩,  -- CIP_RX_SC
  ⟨0x8001050, [(18, 0x100), (4, 0x30), (2, 0x10)], 1, false, 0x0, 0x0, 0x0, 0x0, 0x0, false, false⟩  -- CIP_RX_SA
  ]

/-- Registers of map window 0x08, part 1. -/
def regRows8_1 : List RegRow := [
  ⟨0x8001054, [(18, 0x100), (4, 0x30), (2, 0x10)], 2, false, 0x0, 0x0, 0x0, 0x0, 0x0, false, false⟩,  -- CIP_RX_PN
  ⟨0x8003000, [(256, 0x20)], 1, false, 0x0, 0xFFFF80FF, 0x0, 0x0, 0x0, false, false⟩,  -- CIP_DOM_CFG
  ⟨0x8003004, [(256, 0x20)], 1, false, 0x0, 0xFFF0FFF, 0x0, 0x0, 0x0, false, false⟩,  -- CIP_DOM_KEYS
  ⟨0x8003008, [(256, 0x20)], 1, false, 0x0, 0xFFFFFFFF, 0x0, 0x0, 0x0, false, false⟩,  -- CIP_DOM_WIN
  ⟨0x800300C, [(256, 0x20)], 1, false, 0x0, 0xFFFFFFFF, 0x0, 0x0, 0x0, false, false⟩,  -- CIP_DOM_RESYNC
  ⟨0x8003010, [(256, 0x20)], 1, false, 0x0, 0xFFFFFF, 0x0, 0x0, 0x0, false, false⟩,  -- CIP_DOM_CHAN
  ⟨0x8020000, [(4096, 0x10)], 1, false, 0x0, 0xCFC0FF00, 0x0, 0x0, 0x0, false, false⟩,  -- CIP_FV_CFG
  ⟨0x8020004, [(4096, 0x10)], 1, false, 0x0, 0xFFFFFFFF, 0x0, 0x0, 0x0, false, false⟩,  -- CIP_FV_ID
  ⟨0x8020008, [(4096, 0x10)], 2, false, 0x0, 0x0, 0x0, 0x0, 0x0, false, false⟩,  -- CIP_FV
  ⟨0x8010000, [(8, 0x8)], 2, false, 0x0, 0x0, 0x0, 0x0, 0x0, false, false⟩,  -- CIP_CNT
  ⟨0x8011000, [(18, 0x80), (16, 0x8)], 2, false, 0x0, 0x0, 0x0, 0x0, 0x0, false, false⟩,  -- CIP_PORT_CNT
  ⟨0x8014000, [(256, 0x40), (8, 0x8)], 2, false, 0x0, 0x0, 0x0, 0x0, 0x0, false, false⟩  -- CIP_DOM_CNT
  ]

/-- Registers of map window 0x09, part 0. -/
def regRows9_0 : List RegRow := [
  ⟨0x9000000, [], 1, false, 0x0, 0x0, 0x0, 0x0, 0x0, false, false⟩,  -- VLT_STATUS
  ⟨0x9000004, [], 1, false, 0x0, 0x0, 0x0, 0x0, 0x0, false, false⟩,  -- VLT_TAMPER_REC
  ⟨0x9000008, [], 2, false, 0x0, 0x0, 0x0, 0x0, 0x0, false, false⟩,  -- VLT_TAMPER_TIME
  ⟨0x9000010, [], 1, false, 0x0, 0x0, 0xFFFFFFFF, 0x0, 0x0, false, false⟩,  -- VLT_EVT_STATUS
  ⟨0x9000014, [], 1, false, 0x0, 0x0, 0x0, 0x0, 0x0, false, false⟩,  -- VLT_KT_COUNT
  ⟨0x9000018, [], 1, false, 0x0, 0x0, 0x0, 0x0, 0x0, false, false⟩,  -- VLT_KT_STALE
  ⟨0x900001C, [], 1, false, 0x0, 0xFFFFFFFF, 0x0, 0x0, 0x0, false, false⟩,  -- VLT_USE_WARN
  ⟨0x9000020, [], 1, false, 0x0, 0x0, 0x0, 0x0, 0x0, false, false⟩,  -- VLT_IMPORT_STATUS
  ⟨0x9000024, [], 1, false, 0x0, 0x0, 0x0, 0x0, 0x0, false, false⟩,  -- VLT_IMPORT_SEQ
  ⟨0x9000028, [], 1, false, 0x0, 0x0, 0x0, 0x0, 0x0, false, false⟩,  -- VLT_OP_STATUS
  ⟨0x9000030, [], 2, false, 0x0, 0x0, 0x0, 0x0, 0x0, false, false⟩,  -- VLT_ECC_COUNT
  ⟨0x9000100, [(8, 0x8)], 1, false, 0x0, 0x0, 0x0, 0x0, 0x0, false, false⟩,  -- VLT_LANE
  ⟨0x9000104, [(8, 0x8)], 1, false, 0x0, 0x0, 0x0, 0x0, 0x0, false, false⟩,  -- VLT_LANE_GEN
  ⟨0x9001000, [(296, 0x4)], 1, false, 0x0, 0x0, 0x0, 0x0, 0x0, false, false⟩,  -- VLT_KEM_EK
  ⟨0x9002000, [(10, 0x8)], 2, false, 0x0, 0x0, 0x0, 0x0, 0x0, false, false⟩,  -- VLT_CNT
  ⟨0x9010000, [(2048, 0x10)], 4, true, 0x0, 0x0, 0x0, 0x0, 0x0, false, false⟩  -- VLT_KT_ATTR
  ]

/-- Registers of map window 0x0A, part 0. -/
def regRowsA_0 : List RegRow := [
  ⟨0xA000000, [], 1, false, 0x0, 0x0, 0x0, 0x0, 0x0, false, false⟩,  -- REC_STATUS
  ⟨0xA000004, [], 1, false, 0x0, 0x0, 0x0, 0x0, 0x7, false, false⟩,  -- REC_CMD
  ⟨0xA000008, [], 1, false, 0x0, 0x0, 0x0, 0x0, 0x0, false, false⟩,  -- REC_CMD_STATUS
  ⟨0xA00000C, [], 1, false, 0x0, 0x0, 0xFFFFFFFF, 0x0, 0x0, false, false⟩,  -- REC_EVT_STATUS
  ⟨0xA000010, [], 2, false, 0x0, 0x0, 0x0, 0x0, 0x0, false, false⟩,  -- REC_ECC_COUNT
  ⟨0xA000018, [], 2, false, 0x0, 0x0, 0x0, 0x0, 0x0, false, false⟩,  -- REC_TRIG_TIME
  ⟨0xA000020, [], 1, false, 0x0, 0x0, 0x0, 0x0, 0x0, false, false⟩,  -- REC_TRIG_CAUSE
  ⟨0xA000024, [], 1, false, 0x0, 0xFFFFFFFF, 0x0, 0x0, 0x0, false, false⟩,  -- REC_WINDOW_CFG
  ⟨0xA000028, [], 1, false, 0xFFF, 0x0, 0x0, 0x0, 0x0, false, false⟩,  -- REC_WIN_BASE
  ⟨0xA00002C, [], 1, false, 0x0, 0x0, 0x0, 0x0, 0x0, false, false⟩,  -- REC_FREEZE_BYTES
  ⟨0xA000030, [], 1, false, 0x0, 0x0, 0x0, 0x0, 0x0, false, false⟩,  -- REC_LOG_FILL
  ⟨0xA000034, [], 1, false, 0x0, 0x801FFFFF, 0x0, 0x0, 0x0, false, false⟩,  -- REC_CFG
  ⟨0xA000038, [], 1, false, 0x0, 0x1FFFF, 0x0, 0x0, 0x0, false, false⟩,  -- REC_TRACE_HWM
  ⟨0xA000040, [(16, 0x4)], 1, false, 0x0, 0xFFFFFFFF, 0x0, 0x0, 0x0, false, false⟩,  -- REC_EVT_MASK
  ⟨0xA000080, [(16, 0x4)], 1, false, 0x0, 0xFFFFFFFF, 0x0, 0x0, 0x0, false, false⟩,  -- REC_TRIG_MASK
  ⟨0xA0000C0, [], 1, false, 0x0, 0xF800003F, 0x0, 0x0, 0x0, false, false⟩  -- REC_STREAM
  ]

/-- Registers of map window 0x0A, part 1. -/
def regRowsA_1 : List RegRow := [
  ⟨0xA000100, [(4, 0x20)], 1, false, 0x0, 0xFFF0FFF, 0x0, 0x0, 0x0, false, false⟩,  -- REC_RING
  ⟨0xA000104, [(4, 0x20)], 1, false, 0x0, 0x0, 0x0, 0x0, 0x0, false, false⟩,  -- REC_RING_HEAD
  ⟨0xA000108, [(4, 0x20)], 1, false, 0x0, 0x0, 0x0, 0x0, 0x0, false, false⟩,  -- REC_RING_TAIL
  ⟨0xA00010C, [(4, 0x20)], 2, false, 0x0, 0x0, 0x0, 0x0, 0x0, false, false⟩,  -- REC_RING_FROZEN
  ⟨0xA000114, [(4, 0x20)], 1, false, 0x0, 0x0, 0x0, 0x0, 0x0, false, false⟩,  -- REC_RING_STATE
  ⟨0xA001000, [(18, 0x8)], 2, false, 0x0, 0x0, 0x0, 0x0, 0x0, false, false⟩,  -- REC_CNT
  ⟨0xA800000, [], 2097152, true, 0x0, 0x0, 0x0, 0x0, 0x0, false, false⟩  -- REC_WINDOW
  ]

/-- Registers of map window 0x0B, part 0. -/
def regRowsB_0 : List RegRow := [
  ⟨0xB008000, [], 1, false, 0x0, 0x0, 0x0, 0x0, 0x0, false, false⟩,  -- UPD_SHEET_STATUS
  ⟨0xB008004, [], 1, false, 0x0, 0x0, 0x0, 0x0, 0x0, false, false⟩,  -- UPD_SHEET_RECORD
  ⟨0xB008008, [], 1, false, 0x0, 0x0, 0x0, 0x0, 0x0, false, false⟩,  -- UPD_SHEET_FIELD
  ⟨0xB00800C, [], 1, false, 0x0, 0x0, 0x0, 0x0, 0x0, false, false⟩,  -- UPD_SHEET_OTHER
  ⟨0xB008010, [], 1, false, 0x0, 0x0, 0x0, 0x0, 0x0, false, false⟩,  -- UPD_SHEET_OEM
  ⟨0xB008014, [], 1, false, 0x0, 0x0, 0x0, 0x0, 0x0, false, false⟩,  -- UPD_SHEET_SECVER
  ⟨0xB008018, [], 1, false, 0x0, 0x0, 0x0, 0x0, 0x0, false, false⟩,  -- UPD_SHEET_VERSION
  ⟨0xB00801C, [], 1, false, 0x0, 0x0, 0x0, 0x0, 0x0, false, false⟩,  -- UPD_SHEET_LENGTH
  ⟨0xB008020, [(8, 0x4)], 1, false, 0x0, 0x0, 0x0, 0x0, 0x0, false, false⟩,  -- UPD_SHEET_DIGEST
  ⟨0xB008040, [], 1, false, 0x0, 0x0, 0x0, 0x0, 0x0, false, false⟩,  -- UPD_SCENE
  ⟨0xB008044, [], 1, false, 0x0, 0x0, 0xF, 0x0, 0x0, false, false⟩,  -- UPD_SHEET_EVT_STATUS
  ⟨0xB008080, [(16, 0x4)], 1, false, 0x0, 0xFFFF, 0x0, 0x0, 0x0, false, false⟩,  -- UPD_SCENE_ALLOWED
  ⟨0xB008100, [(3, 0x8)], 2, false, 0x0, 0x0, 0x0, 0x0, 0x0, false, false⟩,  -- UPD_SCENE_CNT
  ⟨0xB000000, [], 1, false, 0x0, 0x0, 0x0, 0x0, 0x0, false, false⟩,  -- UPD_STATUS
  ⟨0xB000004, [], 1, false, 0x0, 0x0, 0x0, 0x0, 0xFF, false, false⟩,  -- UPD_CMD
  ⟨0xB000008, [], 1, false, 0x0, 0x0, 0x0, 0x0, 0x0, false, false⟩  -- UPD_CMD_STATUS
  ]

/-- Registers of map window 0x0B, part 1. -/
def regRowsB_1 : List RegRow := [
  ⟨0xB00000C, [], 1, false, 0x0, 0x0, 0xFFF, 0x0, 0x0, false, false⟩,  -- UPD_EVT_STATUS
  ⟨0xB000010, [], 1, false, 0x0, 0x0, 0x0, 0x0, 0x0, false, false⟩,  -- UPD_RESUME
  ⟨0xB000014, [], 1, false, 0x0, 0x0, 0x0, 0x0, 0x0, false, false⟩,  -- UPD_IMAGE_LEN
  ⟨0xB000018, [], 1, false, 0xFFF1FFFF, 0x0, 0x0, 0x0, 0x0, false, false⟩,  -- UPD_CHUNK
  ⟨0xB00001C, [], 1, false, 0x0, 0x0, 0x0, 0x0, 0x0, false, false⟩,  -- UPD_TRIAL
  ⟨0xB000020, [], 1, false, 0x0, 0x0, 0x0, 0x0, 0x0, false, false⟩,  -- UPD_ATTEMPTS
  ⟨0xB000028, [], 2, false, 0x0, 0x0, 0x0, 0x0, 0x0, false, false⟩,  -- UPD_ACT_TIME
  ⟨0xB000030, [], 1, false, 0x0, 0x0, 0x0, 0x0, 0x0, false, false⟩,  -- UPD_ACT_NS
  ⟨0xB000040, [(4, 0x4)], 1, false, 0x0, 0x0, 0x0, 0x0, 0x0, false, false⟩,  -- UPD_FLOOR
  ⟨0xB000084, [(7, 0x4)], 1, false, 0x0, 0x0, 0x0, 0x0, 0x0, false, false⟩,  -- UPD_PART_FLOOR
  ⟨0xB000100, [(2, 0x20), (8, 0x4)], 1, false, 0x0, 0x0, 0x0, 0x0, 0x0, false, false⟩,  -- UPD_TAKE_DIGEST
  ⟨0xB000140, [(2, 0x4)], 1, false, 0x0, 0x0, 0x0, 0x0, 0x0, false, false⟩,  -- UPD_TAKE_SV
  ⟨0xB000180, [], 1, false, 0x0, 0xFFFFFFFF, 0x0, 0x0, 0x0, false, false⟩,  -- UPD_POLICY
  ⟨0xB000184, [], 1, false, 0x0, 0xFFFFFFFF, 0x0, 0x0, 0x0, false, false⟩,  -- UPD_TRIAL_S
  ⟨0xB000188, [], 1, false, 0x0, 0xFFFFFFFF, 0x0, 0x0, 0x0, false, false⟩,  -- UPD_AUTO_S
  ⟨0xB00018C, [], 1, false, 0x0, 0xFFFFFFFF, 0x0, 0x0, 0x0, false, false⟩  -- UPD_UDS_RX
  ]

/-- Registers of map window 0x0B, part 2. -/
def regRowsB_2 : List RegRow := [
  ⟨0xB000190, [], 1, false, 0x0, 0xFFFFFFFF, 0x0, 0x0, 0x0, false, false⟩,  -- UPD_UDS_TX
  ⟨0xB000200, [], 1, false, 0x0, 0x0, 0x0, 0x0, 0x0, false, false⟩,  -- ATT_STATUS
  ⟨0xB000210, [(8, 0x4)], 1, false, 0xFFFFFFFF, 0x0, 0x0, 0x0, 0x0, false, false⟩,  -- ATT_NONCE
  ⟨0xB000230, [], 1, false, 0x0, 0x0, 0x0, 0x0, 0x0, false, false⟩,  -- ATT_NEXT
  ⟨0xB000234, [], 1, false, 0x0, 0x0, 0x0, 0x0, 0x0, false, false⟩,  -- ATT_HWM
  ⟨0xB000240, [(15, 0x4)], 1, false, 0x0, 0x0, 0x0, 0x0, 0x0, false, false⟩,  -- ATT_PUBKEY
  ⟨0xB000300, [], 1, false, 0x0, 0x0, 0x0, 0x0, 0x0, false, false⟩,  -- UPD_NAND
  ⟨0xB001000, [(16, 0x8)], 2, false, 0x0, 0x0, 0x0, 0x0, 0x0, false, false⟩,  -- UPD_CNT
  ⟨0xB010000, [], 16384, true, 0xFFFFFFFF, 0x0, 0x0, 0x0, 0x0, false, false⟩,  -- UPD_BUF
  ⟨0xB020000, [], 1617, true, 0x0, 0x0, 0x0, 0x0, 0x0, false, false⟩  -- ATT_REPORT
  ]

/-- Registers of map window 0x0C, part 0. -/
def regRowsC_0 : List RegRow := [
  ⟨0xC000000, [], 1, false, 0x0, 0x0, 0x0, 0x0, 0xFF, false, false⟩,  -- SNAP_CMD
  ⟨0xC000004, [], 1, false, 0x0, 0x0, 0x0, 0x0, 0x0, false, false⟩,  -- SNAP_STATUS
  ⟨0xC000008, [], 1, false, 0x3, 0x0, 0x0, 0x0, 0x0, false, false⟩,  -- SNAP_HOLD
  ⟨0xC00000C, [], 1, false, 0x8000000F, 0x0, 0x0, 0x0, 0x0, false, false⟩,  -- SNAP_SCHED_CFG
  ⟨0xC000010, [], 2, false, 0xFFFFFFFFFFFFFFFF, 0x0, 0x0, 0x0, 0x0, false, false⟩,  -- SNAP_SCHED_START
  ⟨0xC000018, [], 1, false, 0xFFFFFFFF, 0x0, 0x0, 0x0, 0x0, false, false⟩,  -- SNAP_SCHED_PERIOD
  ⟨0xC00001C, [], 1, false, 0x0, 0x0, 0x3, 0x0, 0x0, false, false⟩,  -- SNAP_EVT_STATUS
  ⟨0xC000020, [(2, 0x8)], 2, false, 0x0, 0x0, 0x0, 0x0, 0x0, false, false⟩  -- SNAP_CNT
  ]

/-- Registers of map window 0x0D, part 0. -/
def regRowsD_0 : List RegRow := [
  ⟨0xD000000, [], 1, false, 0x0, 0x0, 0x0, 0x0, 0x0, false, false⟩,  -- HDMA_STATUS
  ⟨0xD000004, [], 1, false, 0x0, 0x0, 0xFFFF, 0x0, 0x0, false, false⟩,  -- HDMA_EVT_STATUS
  ⟨0xD000008, [], 2, false, 0x0, 0x0, 0x0, 0x0, 0x0, false, false⟩,  -- HDMA_ECC_COUNT
  ⟨0xD000010, [], 1, false, 0x0, 0x0, 0x0, 0x0, 0x0, false, false⟩,  -- HDMA_DENIED_ADDR
  ⟨0xD000014, [], 1, false, 0x0, 0x0, 0x0, 0x0, 0x0, false, false⟩,  -- HDMA_DENIED_INFO
  ⟨0xD000020, [], 1, false, 0x0, 0x0, 0x0, 0x0, 0xFFFFFFFF, false, false⟩,  -- HDMA_MBX_CMD
  ⟨0xD000024, [], 1, false, 0x0, 0x0, 0x0, 0x0, 0x0, false, false⟩,  -- HDMA_MBX_STATUS
  ⟨0xD000028, [], 1, false, 0x0, 0x0, 0x0, 0x0, 0xFFFFFF, false, true⟩,  -- HDMA_MBX_ANSWER
  ⟨0xD000030, [(8, 0x4)], 1, false, 0xFFFFFFFF, 0x0, 0x0, 0x0, 0x0, false, false⟩,  -- HDMA_MBX_DATA
  ⟨0xD001000, [(64, 0x20)], 1, false, 0x0, 0xFF3F0000, 0x0, 0x0, 0x0, false, false⟩,  -- HDMA_RING_CFG
  ⟨0xD001004, [(64, 0x20)], 1, false, 0x80FFFFFF, 0x0, 0x0, 0x0, 0x0, false, false⟩,  -- HDMA_RING_CTRL
  ⟨0xD001008, [(64, 0x20)], 2, false, 0xFFFFFFFFFFFFFFF0, 0x0, 0x0, 0x0, 0x0, false, false⟩,  -- HDMA_RING_CMPL
  ⟨0xD001010, [(64, 0x20)], 1, false, 0x0, 0x0, 0x0, 0x0, 0x0, false, false⟩,  -- HDMA_RING_IDX
  ⟨0xD001014, [(64, 0x20)], 1, false, 0x0, 0x0, 0x0, 0x0, 0x0, false, false⟩,  -- HDMA_RING_STATE
  ⟨0xD002000, [(64, 0x4)], 1, false, 0x0, 0x7, 0x0, 0x0, 0x0, false, false⟩,  -- HDMA_CQ_TARGET
  ⟨0xD003000, [(16, 0x4)], 1, false, 0x8000FFFF, 0x0, 0x0, 0x0, 0x0, false, true⟩  -- HDMA_FRAME_SEL
  ]

/-- Registers of map window 0x0D, part 1. -/
def regRowsD_1 : List RegRow := [
  ⟨0xD004000, [(7, 0x8)], 2, false, 0x0, 0x0, 0x0, 0x0, 0x0, false, false⟩,  -- HDMA_CNT
  ⟨0xD005000, [(64, 0x20), (4, 0x8)], 2, false, 0x0, 0x0, 0x0, 0x0, 0x0, false, false⟩,  -- HDMA_RING_CNT
  ⟨0xD100000, [(16, 0x4000)], 4096, true, 0x0, 0x0, 0x0, 0x0, 0x0, false, true⟩  -- HDMA_FRAME_WIN
  ]

/-- Registers of map window 0x0E, part 0. -/
def regRowsE_0 : List RegRow := [
  ⟨0xE000000, [], 1, false, 0x0, 0x0, 0x0, 0x0, 0xFF09, false, false⟩,  -- SVY_CMD
  ⟨0xE000004, [], 1, false, 0x0, 0x0, 0x0, 0x0, 0x0, false, false⟩,  -- SVY_STATUS
  ⟨0xE000008, [], 1, false, 0x0, 0xFFFF, 0x0, 0x0, 0x0, false, false⟩,  -- SVY_PROP
  ⟨0xE00000C, [], 1, false, 0x0, 0x7F, 0x0, 0x0, 0x0, false, false⟩,  -- SVY_COND_COUNT
  ⟨0xE000010, [], 1, false, 0x0, 0x0, 0x0, 0x0, 0x0, false, false⟩,  -- SVY_VBAT_A
  ⟨0xE000014, [], 1, false, 0x0, 0x0, 0x0, 0x0, 0x0, false, false⟩,  -- SVY_VBAT_B
  ⟨0xE000020, [(8, 0x4)], 1, false, 0x0, 0x0, 0x0, 0x0, 0x0, false, false⟩,  -- SVY_RAIL
  ⟨0xE000040, [(4, 0x4)], 1, false, 0x0, 0x0, 0x0, 0x0, 0x0, false, false⟩,  -- SVY_TEMP
  ⟨0xE000100, [(16, 0x20)], 1, false, 0x0, 0x0, 0x0, 0x0, 0x0, false, false⟩,  -- SVY_CAN_TERM
  ⟨0xE000104, [(16, 0x20)], 1, false, 0x0, 0x0, 0x0, 0x0, 0x0, false, false⟩,  -- SVY_CAN_LEVEL
  ⟨0xE000108, [(16, 0x20)], 1, false, 0x0, 0x200, 0x0, 0x0, 0x0, false, false⟩,  -- SVY_CAN_WIRING
  ⟨0xE00010C, [(16, 0x20)], 1, false, 0x0, 0x0, 0x0, 0x0, 0x0, false, false⟩,  -- SVY_CAN_LENGTH
  ⟨0xE000400, [(16, 0x10)], 1, false, 0x0, 0x0, 0x0, 0x0, 0x0, false, false⟩,  -- SVY_ETH_CABLE
  ⟨0xE000404, [(16, 0x10)], 1, false, 0x0, 0x0, 0x0, 0x0, 0x0, false, false⟩,  -- SVY_ETH_ABIL
  ⟨0xE000600, [(8, 0x4)], 1, false, 0x0, 0x0, 0x0, 0x0, 0x0, false, false⟩,  -- SVY_LIN
  ⟨0xE000640, [(8, 0x4)], 1, false, 0x0, 0x0, 0x0, 0x0, 0x0, false, false⟩  -- SVY_SW
  ]

/-- Registers of map window 0x0E, part 1. -/
def regRowsE_1 : List RegRow := [
  ⟨0xE000680, [(4, 0x4)], 1, false, 0x0, 0x0, 0x0, 0x0, 0x0, false, false⟩,  -- SVY_SO
  ⟨0xE000800, [(2, 0x4)], 1, false, 0x0, 0x0, 0x0, 0x0, 0x0, false, false⟩  -- SVY_COND_FAIL
  ]

/-- The registers whose window (bits 31..24 of the address) is `b` (R454). -/
def regRows (b : Nat) : List RegRow :=
  match b with
  | 0x0 => regRows0_0 ++ regRows0_1 ++ regRows0_2 ++ regRows0_3 ++ regRows0_4 ++ regRows0_5
  | 0x1 => regRows1_0 ++ regRows1_1 ++ regRows1_2 ++ regRows1_3
  | 0x2 => regRows2_0
  | 0x3 => regRows3_0 ++ regRows3_1 ++ regRows3_2
  | 0x4 => regRows4_0 ++ regRows4_1
  | 0x5 => regRows5_0
  | 0x6 => regRows6_0 ++ regRows6_1 ++ regRows6_2
  | 0x7 => regRows7_0 ++ regRows7_1
  | 0x8 => regRows8_0 ++ regRows8_1
  | 0x9 => regRows9_0
  | 0xA => regRowsA_0 ++ regRowsA_1
  | 0xB => regRowsB_0 ++ regRowsB_1 ++ regRowsB_2
  | 0xC => regRowsC_0
  | 0xD => regRowsD_0 ++ regRowsD_1
  | 0xE => regRowsE_0 ++ regRowsE_1
  | _ => []

/-- Word index of `a` inside element-relative offset `d`, for indices `dims`. -/
def rowOffset : List (Nat × Nat) → Nat → Option Nat
  | [], d => some d
  | (n, st) :: t, d => if d / st < n then rowOffset t (d % st) else none

/-- The word of row `r` that address `a` names, if any. -/
def RegRow.hit (r : RegRow) (a : Nat) : Option Nat :=
  if a < r.base then none else
  match rowOffset r.dims (a - r.base) with
  | none => none
  | some d => if d % 4 = 0 ∧ d / 4 < r.words then some (d / 4) else none

/-- The register row of address `a` in a list of rows, with the word index inside it. -/
def findRow (a : Nat) : List RegRow → Option (RegRow × Nat)
  | [] => none
  | r :: t => match r.hit a with
    | some w => some (r, w)
    | none => findRow a t

/-- Rows that the register tables lay out but that belong to units the module does not have: the queues of ports 45 to 47
(R3, R6), the segment rows of ports 16 to 19 (chapter 13) and the time rows of ports 12 to 15 (chapter 10). -/
def absentRow (a : Nat) : Bool :=
  let within (base stride lo hi : Nat) : Bool := decide (base + stride * lo ≤ a ∧ a < base + stride * (hi + 1))
  match a >>> 24 with
  | 0 => within 0x5100 0x10 16 19 || within 0x5400 0x10 16 19 || within 0x5800 0x20 16 19 || within 0x6000 0x80 16 19
  | 3 => within 0x3002000 0x10 360 383 || within 0x3010000 0x40 360 383
  | 4 => within 0x4002000 0x10 360 383 || within 0x4020000 0x10 360 383
  | 7 => within 0x7000200 0x10 12 15
  | _ => false

/-- The register that lies at `a`, if any (R16, R454). -/
def regAt (a : Nat) : Option (RegRow × Nat) := if absentRow a then none else findRow a (regRows (a >>> 24))

/-- Mask of the word `w` out of a row's mask. -/
def RegRow.mask (r : RegRow) (m w : Nat) : Nat := if r.wide then m else (m >>> (32 * w)) % 0x100000000

/-- `a` is an element of the array at `base` with (count, stride) indices `dims`. -/
def inRow (base : Nat) (dims : List (Nat × Nat)) (a : Nat) : Bool :=
  if a < base then false else
  match rowOffset dims (a - base) with
  | some d => d == 0
  | none => false

/-- Implemented fault lines of the table of R373. -/
def lineListed (l : Nat) : Bool :=
  l ≤ 44 || (48 ≤ l && l ≤ 79) || (81 ≤ l && l ≤ 83)

/-- Lines with a unit under FENCE in R373: ports, channels, recorder, cipher lane, switch inputs, safe outputs. -/
def lineFenceable (l : Nat) : Bool :=
  l ≤ 18 || (20 ≤ l && l ≤ 44) || l == 55 || (64 ≤ l && l ≤ 75)

/-- Lines on which R373 allows RESET_UNIT. -/
def lineResettable (l : Nat) : Bool :=
  l ≤ 17 || (20 ≤ l && l ≤ 43) || (72 ≤ l && l ≤ 75)

/-- Lines whose default service action in R373 is SAFE_STATE. -/
def lineSafeDefault (l : Nat) : Bool :=
  l == 19 || (48 ≤ l && l ≤ 51) || l == 53 || l == 54 || (64 ≤ l && l ≤ 71) || l == 76 || l == 78 || l == 79 ||
  l == 81 || l == 83

/-- Reset value of RXU_ENTRY_CFG[l]: default actions of R373 and R396, IMPLEMENTED, LIMIT_MS 100. -/
def entryReset (l : Nat) : Nat :=
  (if lineListed l && lineSafeDefault l then 3 * 2 ^ 30 else 0) + (if lineFenceable l then 2 ^ 29 else 0) +
  (if lineListed l then 2 ^ 27 else 0) + 0x64

/-- Staging allowance of R88 at MAX_FRAME 1522; port 44 has none stated. -/
def stageReset (p : Nat) : Nat :=
  if p ≤ 18 then 16 else if p = 19 then 76 else if p ≤ 35 then 18 else if p ≤ 43 then 1 else 0

/-- Reserve queues of R89 before any call sheet. -/
def isReserveAtReset (q : Nat) : Bool := (152 ≤ q && q ≤ 159) || 448 ≤ q

/-- Reset values other than 0 of the Gaffer block (R454). -/
def resetNat0Gaffer (a : Nat) : Nat :=
  if absentRow a then 0 else
  if inRow 0x4000 [(8, 0x10)] a then 0x8140000 else  -- GAF_SW_CFG
  if inRow 0x4004 [(8, 0x10)] a then 0x17700BB8 else  -- GAF_SW_THR
  if a = 0x4088 then 0x32 else  -- GAF_SW_POLL
  if a = 0x5010 then 0x820080 else  -- GAF_WAKE_REC
  if inRow 0x5100 [(44, 0x10)] a then 0x84000000 else  -- GAF_NM_SEG_CFG
  if inRow 0x5400 [(44, 0x10)] a then 0x3E80064 else  -- GAF_NM_TIMES
  if inRow 0x5404 [(44, 0x10)] a then 0x7D001F4 else  -- GAF_NM_TIMES_4
  if inRow 0x5408 [(44, 0x10)] a then 0x5DC else  -- GAF_NM_TIMES_8
  if inRow 0x5800 [(44, 0x20), (8, 0x4)] a then 0x803E8 else  -- GAF_NM_POLICY
  if a = 0x100 then 0x800000 else  -- GAF_RUNG
  if a = 0x140 then 0x1 else  -- GAF_UNITS
  if a = 0x150 then 0x4 else  -- GAF_HOST
  if a = 0x160 then 0x1F400C8 else  -- GAF_DWELL0
  if a = 0x164 then 0xE10003C else  -- GAF_DWELL1
  if a = 0x16C then 0x258 else  -- GAF_BATT
  if inRow 0x170 [(2, 0x4)] a then 0x55555555 else  -- GAF_SCENE_DEEPEST
  if a = 0x178 then 0x3E801 else  -- GAF_HOST_CFG
  if a = 0x0 then 0x58479680 else  -- ID_PART
  if a = R.ID_REV then Config.factory 0 else
  if a = R.ID_PCI then 0x96800000 + Config.factory 1 % 0x10000 else
  if inRow (R.ID_SERIAL 0) [(4, 4)] a then Config.factory (2 + (a - R.ID_SERIAL 0) / 4) else
  if a = R.ID_LOADER_VER then Config.factory 6 else
  if a = R.ID_MAC_BASE_LO then Config.macBase % 0x100000000 else
  if a = R.ID_MAC_BASE_HI then Config.macBase / 0x100000000 % 0x10000 else
  0

/-- Reset values other than 0 of the Rxu block (R454). -/
def resetNat0Rxu (a : Nat) : Nat :=
  if inRow 0x104000 [(4, 0x10)] a then 0x2640A00 else  -- RXU_SO_CFG
  if a = 0x100000 then 0x1 else  -- RXU_STATUS
  if a = 0x100010 then 0x1 else  -- RXU_FAULTN
  if a = 0x100038 then 0xFFF else  -- RXU_RELEASE_CFG
  if a = 0x10003C then 0xE10 else  -- RXU_TEST_CFG
  if inRow 0x101004 [(128, 0x20)] a then 0x14 else  -- RXU_ENTRY_SETTLE
  if inRow (R.RXU_ENTRY_CFG 0) [(128, 0x20)] a then entryReset ((a - R.RXU_ENTRY_CFG 0) / 0x20) else
  if inRow (R.RXU_ENTRY_SHADOW 0 0) [(128, 0x20), (4, 4)] a then
    (if (a - R.RXU_ENTRY_SHADOW 0 0) % 0x20 / 4 = (a - R.RXU_ENTRY_SHADOW 0 0) / 0x20 / 32 then
      2 ^ ((a - R.RXU_ENTRY_SHADOW 0 0) / 0x20 % 32) else 0) else
  if a = R.RXU_REL_CHAL ∨ a = R.RXU_REL_CHAL + 4 then Config.drbgAtReset (a - R.RXU_REL_CHAL) else
  0

/-- Reset values other than 0 of the Evt block (R454). -/
def resetNat0Evt (a : Nat) : Nat :=
  if a = 0x201080 then 0xA else  -- EVT_VEC_HOLDOFF
  0

/-- Reset values of map window 0x00. -/
def resetNat0 (a : Nat) : Nat :=
  match a >>> 20 with
  | 0 => resetNat0Gaffer a
  | 1 => resetNat0Rxu a
  | 2 => resetNat0Evt a
  | _ => 0

/-- Reset values other than 0 of map window 0x01. -/
def resetNat1 (a : Nat) : Nat :=
  if inRow 0x1140000 [(16, 0x10000)] a then 0x600 else  -- PORT_CAN_CFG
  if inRow 0x1140034 [(16, 0x10000)] a then 0x4 else  -- PORT_CAN_LIMITS
  if inRow 0x1000000 [(18, 0x10000)] a then 0x8000 else  -- PORT_ETH_CFG
  if inRow 0x100000C [(18, 0x10000)] a then 0x140003 else  -- PORT_ETH_LPI
  if inRow 0x1000010 [(18, 0x10000)] a then 0x285001F4 else  -- PORT_ETH_STEP
  if inRow 0x1000014 [(18, 0x10000)] a then 0xC8 else  -- PORT_ETH_STEP_WAIT
  if inRow 0x1000018 [(18, 0x10000)] a then 0x82000 else  -- PORT_ETH_PLCA
  if inRow 0x100001C [(18, 0x10000)] a then 0x80 else  -- PORT_ETH_PLCA_BT
  if inRow 0x1240004 [(8, 0x10000)] a then 0x4B00 else  -- PORT_LIN_BAUD
  if inRow 0x1240010 [(8, 0x10000), (2, 0x4)] a then 0xFFFFFFFF else  -- PORT_LIN_SCENE
  if 0x1000000 ≤ a ∧ a < 0x1120000 ∧ a % 0x10000 = 4 then (Config.macBase + (a - 0x1000000) / 0x10000) % 0x100000000 else
  if 0x1000000 ≤ a ∧ a < 0x1120000 ∧ a % 0x10000 = 8 then (Config.macBase + (a - 0x1000000) / 0x10000) / 0x100000000 % 0x10000 else
  0

/-- Reset values other than 0 of map window 0x02. -/
def resetNat2 (a : Nat) : Nat :=
  if inRow 0x2000200 [(45, 0x4)] a then 0x10000 else  -- LKU_PORT_KEY
  if inRow (R.LKU_PORT_CFG 0) [(19, 4)] a then 0x8105F2 else
  if inRow (R.LKU_PORT_CFG 19) [(26, 4)] a then 0x810000 else
  0

/-- Reset values other than 0 of map window 0x03. -/
def resetNat3 (a : Nat) : Nat :=
  if a = 0x3000004 then 0x20000 else  -- CPL_FREE_CELLS
  if a = 0x3000008 then 0x10000 else  -- CPL_FREE_DESC
  if a = 0x3000050 then 0x1C000 else  -- CPL_SHARED_T1
  if a = 0x3000054 then 0x18000 else  -- CPL_SHARED_T2
  if a = 0x3000070 then 0xA else  -- CPL_STALL_LIMIT
  if inRow 0x3000100 [(45, 0x20)] a then 0x64C80000 else  -- CPL_PORT_CFG
  if inRow 0x3000114 [(45, 0x20)] a then 0x200 else  -- CPL_PORT_STATE
  if a = R.CPL_PART_SIZE 4 then 0x20000 else
  if inRow (R.CPL_PORT_STAGE 0) [(45, 0x20)] a then stageReset ((a - R.CPL_PORT_STAGE 0) / 0x20) else
  -- CPL_Q_CFG: Q360 to Q383 are not implemented (R3, R6)
  if inRow (R.CPL_Q_CFG 360) [(24, 0x10)] a then 0 else
  if inRow (R.CPL_Q_CFG 0) [(512, 0x10)] a then 0x1FFFF + (if isReserveAtReset ((a - R.CPL_Q_CFG 0) / 0x10) then 0x40000000 else 0) else
  0

/-- Reset values other than 0 of map window 0x04. -/
def resetNat4 (a : Nat) : Nat :=
  if inRow 0x4000104 [(45, 0x20)] a then 0xFFFF0000 else  -- SCH_PORT_PAUSE
  -- SCH_Q_CFG: Q256 to Q259 share their addresses with SCH_CAN_STATE, Q360 to Q383 are not implemented (R3, R6)
  if inRow 0x4002000 [(256, 0x10)] a || inRow 0x4003040 [(100, 0x10)] a then 0x1 else
  -- GATE_PORT: ports 18 and 19 have none
  if inRow 0x4008100 [(18, 0x10)] a || inRow 0x4008240 [(16, 0x10)] a then 0xFF else
  0

/-- Reset values other than 0 of map window 0x05. -/
def resetNat5 (a : Nat) : Nat :=
  if inRow 0x5001010 [(1024, 0x20)] a then 0x8000 else  -- COL_CTX_STATE
  0

/-- Reset values other than 0 of map window 0x06. -/
def resetNat6 (a : Nat) : Nat :=
  if inRow 0x6000200 [(16, 0x4)] a then 0xFE else  -- SGE_J1939
  if inRow 0x6008000 [(256, 0x80), (32, 0x4)] a then 0x3F else  -- SGE_UNP_MAP
  0

/-- Reset values other than 0 of map window 0x07. -/
def resetNat7 (a : Nat) : Nat :=
  if absentRow a then 0 else
  if a = 0x7000044 then 0x64 else  -- TIM_PPS_CFG
  if a = 0x7000048 then 0x3C else  -- TIM_LIMITS
  if a = 0x700004C then 0x1F4 else  -- TIM_SYNC_LIMIT
  if inRow 0x7000100 [(2, 0x10)] a then 0xF6F8 else  -- TIM_DOM_CFG
  if inRow 0x7000200 [(18, 0x10)] a then 0xD000320 else  -- TIM_PORT_CFG
  if inRow 0x7000408 [(16, 0x20)] a then 0x64 else  -- TIM_CLAP_PERIOD
  0

/-- Reset values other than 0 of map window 0x08. -/
def resetNat8 (a : Nat) : Nat :=
  if a = 0x8000024 then 0x400 else  -- CIP_COMMIT
  if inRow 0x8003004 [(256, 0x20)] a then 0xFFF0FFF else  -- CIP_DOM_KEYS
  if a = R.CIP_PN_WARN then 0x3FFFFFFF else
  if a = R.CIP_FV_WARN then 0 else
  if a = R.CIP_FV_WARN + 4 then 0xFFFF else
  0

/-- Reset values other than 0 of map window 0x09. -/
def resetNat9 (a : Nat) : Nat :=
  if a = 0x900001C then 0x10000 else  -- VLT_USE_WARN
  if a = 0x9000000 then 0x1000000 else  -- VLT_STATUS as stored in BLANK: the debug port is open without erase (R286)
  0

/-- Reset values other than 0 of map window 0x0A. -/
def resetNatA (a : Nat) : Nat :=
  if a = 0xA000024 then 0x7D003E8 else  -- REC_WINDOW_CFG
  if a = 0xA000034 then 0x801003E8 else  -- REC_CFG
  if a = 0xA000038 then 0x1000 else  -- REC_TRACE_HWM
  if inRow 0xA000040 [(16, 0x4)] a then 0xFFFFFFFF else  -- REC_EVT_MASK
  if a = R.REC_RING 0 then 0x10000 else
  if a = R.REC_RING 1 then 0x4000001 else
  if a = R.REC_RING 2 then 0x4000401 else
  if a = R.REC_RING 3 then 0x7FF0801 else
  0

/-- Reset values other than 0 of map window 0x0B. -/
def resetNatB (a : Nat) : Nat :=
  if a = 0xB008000 then 0xC0000 else  -- UPD_SHEET_STATUS
  if a = 0xB008004 then 0xFFFFFFFF else  -- UPD_SHEET_RECORD
  if a = 0xB008008 then 0xFFFF else  -- UPD_SHEET_FIELD
  -- stored fields as the factory delivers the NAND (R420)
  if a = 0xB000000 then 0x5001 else  -- UPD_STATUS
  if inRow 0xB000100 [(8, 0x4)] a then Config.factoryDigest ((a - 0xB000100) / 4) else  -- UPD_TAKE_DIGEST[0]
  if a = 0xB000140 then Config.factory 7 else  -- UPD_TAKE_SV[0]
  if a = 0xB000300 then Config.factory 8 % 0x10000 else  -- UPD_NAND
  if a = 0xB000180 then 0x30000 else  -- UPD_POLICY
  if a = 0xB000184 then 0x15180 else  -- UPD_TRIAL_S
  if a = 0xB000188 then 0xE10 else  -- UPD_AUTO_S
  if a = 0xB00018C then 0x7E0 else  -- UPD_UDS_RX
  if a = 0xB000190 then 0x7E8 else  -- UPD_UDS_TX
  0

/-- Reset values other than 0 of map window 0x0C. -/
def resetNatC (a : Nat) : Nat :=
  if a = 0xC000018 then 0xF4240 else  -- SNAP_SCHED_PERIOD
  0

/-- Reset values other than 0 of map window 0x0D. -/
def resetNatD (a : Nat) : Nat :=
  if a = 0xD000000 then 0x1 else  -- HDMA_STATUS
  if inRow 0xD001004 [(64, 0x20)] a then 0x10000 else  -- HDMA_RING_CTRL
  if a = R.HDMA_RING_CFG 0 then 0x88000000 else
  if a = R.HDMA_RING_CFG 1 then 0xC8010000 else
  if inRow (R.HDMA_CQ_TARGET 0) [(48, 4)] a then (a - R.HDMA_CQ_TARGET 0) / 4 % 4 else
  if inRow (R.HDMA_CQ_TARGET 48) [(16, 4)] a then 4 else
  0

/-- Reset values other than 0 of map window 0x0E. -/
def resetNatE (a : Nat) : Nat :=
  if a = 0xE000004 then 0xFF01 else  -- SVY_STATUS
  if a = 0xE000008 then 0x1388 else  -- SVY_PROP
  if inRow 0xE00010C [(16, 0x20)] a then 0xFFFFFFFF else  -- SVY_CAN_LENGTH
  0

/-- The reset value of the register word at `a` (R18); words with no register read 0 (R16). -/
def resetNat (a : Nat) : Nat :=
  match a >>> 24 with
  | 0x0 => resetNat0 a
  | 0x1 => resetNat1 a
  | 0x2 => resetNat2 a
  | 0x3 => resetNat3 a
  | 0x4 => resetNat4 a
  | 0x5 => resetNat5 a
  | 0x6 => resetNat6 a
  | 0x7 => resetNat7 a
  | 0x8 => resetNat8 a
  | 0x9 => resetNat9 a
  | 0xA => resetNatA a
  | 0xB => resetNatB a
  | 0xC => resetNatC a
  | 0xD => resetNatD a
  | 0xE => resetNatE a
  | _ => 0

/-- The reset value as a word. -/
def resetWord (a : Nat) : Word := BitVec.ofNat 32 (resetNat a)

end Sys2Proof.Machine
end

