-- ==== Sys2Proof/Machine/Maps.lean ====
section
/-! DEFINITION. Sorted association lists and small list helpers: the canonical form of every sparse store of the state. -/

namespace Sys2Proof.Machine

/-- A sparse store by number: keys strictly rising. -/
abbrev SMap (α : Type) := List (Nat × α)

/-- The entry under `k`. -/
def SMap.get? {α : Type} : SMap α → Nat → Option α
  | [], _ => none
  | (k', v) :: t, k => if k = k' then some v else SMap.get? t k

/-- The entry under `k`, or `d`. -/
def SMap.getD {α : Type} (m : SMap α) (k : Nat) (d : α) : α := (m.get? k).getD d

/-- Put `v` under `k`, keeping the keys in order. -/
def SMap.put {α : Type} : SMap α → Nat → α → SMap α
  | [], k, v => [(k, v)]
  | (k', v') :: t, k, v =>
    if k < k' then (k, v) :: (k', v') :: t else if k = k' then (k, v) :: t else (k', v') :: SMap.put t k v

/-- Remove every entry under `k`. -/
def SMap.del {α : Type} : SMap α → Nat → SMap α
  | [], _ => []
  | (k', v') :: t, k => if k = k' then SMap.del t k else (k', v') :: SMap.del t k

/-- Put `v` under `k`, or remove the entry where `v` is the default `d`: equal stores stay equal lists. -/
def SMap.set {α : Type} [DecidableEq α] (m : SMap α) (k : Nat) (v d : α) : SMap α :=
  if v = d then m.del k else m.put k v

/-- Keys strictly rising. -/
def SMap.sorted {α : Type} : SMap α → Bool
  | [] => true
  | [_] => true
  | a :: b :: t => decide (a.1 < b.1) && SMap.sorted (b :: t)

/-- Remove the first `x` of a list. -/
def removeFirst (x : Nat) : List Nat → List Nat
  | [] => []
  | y :: t => if x = y then t else y :: removeFirst x t

/-- Insert into a list of numbers in rising order. -/
def insertAsc (x : Nat) : List Nat → List Nat
  | [] => [x]
  | y :: t => if x ≤ y then x :: y :: t else y :: insertAsc x t

/-- Sort numbers rising. -/
def sortAsc : List Nat → List Nat
  | [] => []
  | x :: t => insertAsc x (sortAsc t)

/-- Insert a pair by its first number, after those that are equal: a stable order. -/
def insertKeyed {α : Type} (x : Nat × α) : List (Nat × α) → List (Nat × α)
  | [] => [x]
  | y :: t => if x.1 < y.1 then x :: y :: t else y :: insertKeyed x t

/-- Replace element `i` of a list. -/
def setNth {α : Type} : List α → Nat → α → List α
  | [], _, _ => []
  | _ :: t, 0, v => v :: t
  | x :: t, i + 1, v => x :: setNth t i v

/-- Fold an operation over a list, left to right: apply `f` for each element to the state. -/
def forEach {α σ : Type} (l : List α) (f : α → σ → σ) (s : σ) : σ :=
  match l with
  | [] => s
  | x :: t => forEach t f (f x s)

/-- Bit `i` of a number. -/
def bit (n i : Nat) : Bool := n.testBit i

/-- The numbers below `n` whose bit is set in `m`. -/
def bitsOf (m n : Nat) : List Nat := (List.range n).filter (fun i => m.testBit i)

/-- ⌈a/b⌉. -/
def ceilDiv (a b : Nat) : Nat := (a + b - 1) / b

/-- Number of set bits below `n`. -/
def popCount (m n : Nat) : Nat := (bitsOf m n).length

/-- Byte `i` of a list, 0 beyond its end. -/
def byteAt (l : List Byte) (i : Nat) : Nat := (l.getD i 0).toNat

/-- Little-endian number of `n` bytes from offset `o`. -/
def leAt (l : List Byte) (o : Nat) : Nat → Nat
  | 0 => 0
  | n + 1 => byteAt l o + 256 * leAt l (o + 1) n

/-- Big-endian number of `n` bytes from offset `o`. -/
def beAt (l : List Byte) (o n : Nat) : Nat :=
  ((List.range n).map (fun i => byteAt l (o + i))).foldl (fun a b => a * 256 + b) 0

/-- `n` little-endian bytes of a number. -/
def leBytes (v : Nat) : Nat → List Byte
  | 0 => []
  | n + 1 => BitVec.ofNat 8 v :: leBytes (v / 256) n

/-- `n` big-endian bytes of a number. -/
def beBytes (v n : Nat) : List Byte := (leBytes v n).reverse

/-- `n` bytes from offset `o`, cut at the end of the list. -/
def slice (l : List Byte) (o n : Nat) : List Byte := (l.drop o).take n

/-- Pad with zeros up to `n` bytes. -/
def padTo (l : List Byte) (n : Nat) : List Byte := l ++ List.replicate (n - l.length) 0

/-- Replace the bytes from offset `o` by `b`. -/
def patch (l : List Byte) (o : Nat) (b : List Byte) : List Byte := l.take o ++ b ++ l.drop (o + b.length)

/-- A signed number as 32-bit two's complement. -/
def toU32 (i : Int) : Nat := (i % 0x100000000).toNat

/-- 32-bit two's complement as a signed number. -/
def ofU32 (n : Nat) : Int := if n % 0x100000000 < 0x80000000 then (n % 0x100000000 : Nat) else ((n % 0x100000000 : Nat) : Int) - 0x100000000

-- The Ethernet FCS (R133, R134)

/-- One bit of the reflected CRC-32 of IEEE 802.3. -/
def crcBit (c : Nat) : Nat := if c % 2 = 1 then (c / 2) ^^^ 0xEDB88320 else c / 2

/-- One byte of the CRC-32. -/
def crcByte (c : Nat) (b : Byte) : Nat :=
  crcBit (crcBit (crcBit (crcBit (crcBit (crcBit (crcBit (crcBit (c ^^^ b.toNat))))))))

/-- The IEEE 802.3 CRC-32 of a frame's bytes. -/
def crc32 (l : List Byte) : Nat := (l.foldl crcByte 0xFFFFFFFF) ^^^ 0xFFFFFFFF

/-- A frame with its FCS appended (R133). -/
def withFcs (l : List Byte) : List Byte := l ++ leBytes (crc32 l) 4

/-- A frame without its FCS. -/
def dropFcs (l : List Byte) : List Byte := l.take (l.length - 4)

/-- The last four bytes replaced by the bitwise inverse of the CRC-32 over the bytes before them (R134). -/
def invertFcs (l : List Byte) : List Byte := dropFcs l ++ leBytes (crc32 (dropFcs l) ^^^ 0xFFFFFFFF) 4

end Sys2Proof.Machine
end

