-- ==== Sys2Proof/Machine/State.lean ====
section
/-! DEFINITION. The state of the module as plain data: its registers (one sparse map), the queue of waiting commands,
and under a structure per block everything the spec gives the block that has no register. -/

namespace Sys2Proof.Machine

/-- Why the machine stops with a fault. No command of this model raises one: the spec gives every command an effect. -/
inductive Fault where
  /-- Raised by nobody: kept so that the type is closed and inhabited. Safe. -/
  | never
  deriving DecidableEq, Repr

/-- Why a command has no meaning. -/
inductive Refusal where
  /-- Raised by exec's arm of a command that is not modelled yet. Safe: no effect is claimed for it. -/
  | notModelled (mnemonic : String)
  /-- Raised by any command whose operands name a port, channel, queue, slot or unit that the module does not have
  (`Instr.wf`): the spec has no such command. Safe: no effect is claimed. -/
  | noSuchUnit
  deriving DecidableEq, Repr

-- Lookup tables and verdicts (R61 to R76, R403) ---------------------------------------------------------------

/-- Cipher action of a verdict (R403). -/
inductive CipherAct where
  | none | doSeal | verify | reseal | encrypt | decrypt
  deriving DecidableEq, Repr

/-- Bridging action of a verdict (R403). -/
inductive BridgeAct where
  | none | canConvert | encap1722 | unpack1722 | signal | transport
  deriving DecidableEq, Repr

/-- A verdict (R68, R403). -/
structure Verdict where
  /-- destination set, bit per port 0 to 44 -/
  dest : Nat
  maxAge : Nat := 0
  capture : Bool := false
  early : Bool := false
  cipher : CipherAct := .none
  bridge : BridgeAct := .none
  /-- class 0 to 7; 8 takes it from the PCP -/
  tc : Nat := 0
  meter : Option Nat := none
  stream : Option Nat := none
  sealDomain : Option Nat := none
  bridgeIdx : Nat := 0
  /-- key table index; 0xFFF none -/
  key : Nat := 0xFFF
  scenes : Nat := 0xFFFF
  flood : Option Nat := none
  /-- colour a flow entry gives: yellow (R72, R405) -/
  yellow : Bool := false
  deriving DecidableEq, Repr

/-- A forwarding entry: VLAN and destination MAC (R61 table, R405). -/
structure FwdEntry where
  vid : Nat
  mac : Nat
  v : Verdict
  deriving DecidableEq, Repr

/-- A flow entry: key type 1 STREAM, 2 AVTP, 3 TUPLE, 4 CANSRC and its 40-byte key (R405). -/
structure FlowEntry where
  keyType : Nat
  key : List Byte
  v : Verdict
  deriving DecidableEq, Repr

/-- Rate, burst and spacing of a CAN flood limiter (R75). -/
structure Limiter where
  rateFps : Nat
  burst : Nat
  spacingUs : Nat
  deriving DecidableEq, Repr

/-- A CAN route, exact (all mask bits set) or masked (R61 table, R405). -/
structure CanRoute where
  src : Nat
  fmt : Nat
  vcid : Nat
  sdt : Nat
  ident : Nat
  mSrc : Nat := 0x3F
  mFmt : Nat := 0x7
  mVcid : Nat := 0xFF
  mSdt : Nat := 0
  mIdent : Nat := 0x1FFFFFFF
  v : Verdict
  lim : Limiter
  deriving DecidableEq, Repr

/-- A meter's parameters (R72, R405): rates in 8 kbit/s units, bursts in bytes. -/
structure MeterCfg where
  guillotine : Bool
  coupled : Bool
  aware : Bool
  cir : Nat
  eir : Nat
  cbs : Nat
  ebs : Nat
  deriving DecidableEq, Repr

/-- A meter's buckets, in 1/8 byte times 125,000, and the device time of the last refill (R72). -/
structure MeterState where
  tc : Int
  te : Int
  atNs : Nat
  deriving DecidableEq, Repr

/-- A flood limiter's tokens (frames times 10⁹), last refill, last admitted frame and last drop (R75). -/
structure FloodState where
  tokens : Nat
  atNs : Nat
  lastAdmit : Option Nat
  lastDrop : Option Nat
  deriving DecidableEq, Repr

/-- A VLAN's member set and miss policy: 0 DROP, 1 FLOOD, 2 TO_CP (R64, R405). -/
structure VlanCfg where
  miss : Nat
  members : Nat
  deriving DecidableEq, Repr

/-- Lookup tables of the call sheet and policing state (R61 to R76). -/
structure Lku where
  vlans : SMap VlanCfg
  fwd : List FwdEntry
  flows : List FlowEntry
  exact : List CanRoute
  masked : List CanRoute
  meters : SMap MeterCfg
  meterState : SMap MeterState
  floodState : SMap FloodState
  /-- a scene switch has happened and no frame has entered since (R65) -/
  sceneNew : Bool
  deriving DecidableEq, Repr

-- Ingress -------------------------------------------------------------------------------------------------------

/-- What the tail of a frame said (R71). -/
inductive TailState where
  | open | good | bad
  /-- still arriving, but dropped already: its tail goes to the MAC's counters alone (R224) -/
  | gone
  deriving DecidableEq, Repr

/-- What lookup decided for a frame that still waits: for its tail, or for a cipher job. -/
structure Decided where
  v : Verdict
  dp : Nat
  /-- sequence number (R76) -/
  seq : Option Nat
  /-- the bucket that paid: 1 committed, 2 excess, 0 none; and the charge length (R73) -/
  paid : Nat
  charge : Nat
  /-- handed to the pool by cut-through under this frame number (R70) -/
  handed : Option Nat
  /-- resolved class of its copies (R68) -/
  tc : Nat
  /-- its job has ended without it: at its tail only its charge is settled and its FCS counted (R73, R316) -/
  spent : Bool := false
  deriving DecidableEq, Repr

/-- A frame in a port island or in the pipeline, not yet wholly handed over. -/
structure Ing where
  src : Nat
  bus : Bool
  /-- Ethernet: the frame as on the wire with its FCS; bus: 16-byte header then data (R197) -/
  data : List Byte
  /-- device time of its first byte -/
  rxNs : Nat
  /-- the scene in force when it entered (R65) -/
  scene : Nat
  tail : TailState
  decided : Option Decided
  /-- TS_REQ of a from-host descriptor (ring k) or injection slot (64 + s) waiting for this frame's stamp -/
  tsReq : Option Nat
  /-- its receive stamp was taken by a timestamp unit (R277): not coarse -/
  stamped : Bool := false
  /-- unpacked from a capsule, not received on the bus (R174, R328) -/
  unpacked : Bool := false
  /-- the injection slot that stays BUSY until it is handed over (R471) -/
  slot : Option Nat := none
  deriving DecidableEq, Repr

-- Cell pool -----------------------------------------------------------------------------------------------------

/-- Partitions as the descriptor codes them (R87). -/
inductive Part where
  | guaranteed | reserve | shared | headroom
  deriving DecidableEq, Repr

/-- A frame record of the pool (R86, R93). -/
structure PFrame where
  bus : Bool
  data : List Byte
  src : Nat
  /-- class under which ING_HELD counts it (R94) -/
  tc : Nat
  cutThrough : Bool
  tailWritten : Bool
  tailMark : Bool
  refs : Nat
  /-- cells physically held -/
  cells : Nat
  /-- device time of reception, and whether a timestamp unit stamped it (R277) -/
  rxNs : Nat
  stamped : Bool := false
  /-- first cell of its chain, a free value (R87) -/
  headCell : Nat := 0
  deriving DecidableEq, Repr

/-- An admitted copy: one frame descriptor (R86, R87). -/
structure Copy where
  frame : Nat
  q : Nat
  /-- class of its verdict, shown in its descriptor (R87) -/
  tc : Nat
  part : Part
  cells : Nat
  dp : Nat
  admitNs : Nat
  maxAge : Nat
  seq : Option Nat
  stream : Option Nat
  spilled : Bool
  /-- verdict named ENCRYPT (R320) -/
  encrypt : Bool
  /-- linked to its queue: false while the collator holds it (R142) -/
  queued : Bool
  /-- popped by firmware and not yet freed (R103) -/
  popped : Bool
  /-- TS_REQ: ring (k) or 64 + injection slot that waits for its stamp (R465, R471) -/
  tsReq : Option Nat
  /-- its reader found a bad cell and tail-marked it (R105); its stored FCS failed, so it is read with an inverted one (R133) -/
  marked : Bool := false
  fcsBad : Bool := false
  /-- collisions it has met (R226) -/
  tries : Nat := 0
  deriving DecidableEq, Repr

/-- A copy in the DRAM middle of a deep queue: its own image (R99). -/
structure Spilled where
  frame : PFrame
  copy : Copy
  deriving DecidableEq, Repr

structure Pool where
  nextFrame : Nat
  frames : SMap PFrame
  /-- descriptors in use -/
  copies : SMap Copy
  /-- queues 0 to 511: descriptors, oldest first; of a deep queue, its head -/
  queues : SMap (List Nat)
  /-- of deep queue d: middle in DRAM and tail on die -/
  deepMid : SMap (List Spilled)
  deepTail : SMap (List Nat)
  /-- watermark units whose KIND is not off (R95) -/
  wmUnits : List Nat
  /-- queues frozen by a descriptor error (R105) -/
  frozen : List Nat
  /-- what the next read of a copy for a LIN frame buffer finds, within a command (R105) -/
  readEcc : PoolEcc := .ok
  /-- deep queues whose quota is filled: event 103 has been raised for this filling (R98) -/
  deepFull : List Nat
  /-- port p's link-loss hold: device time of loss -/
  holdSince : SMap Nat
  /-- device time at which port p last reached UP (R180, R181) -/
  upNs : SMap Nat
  deriving DecidableEq, Repr

-- Scheduler -----------------------------------------------------------------------------------------------------

/-- The copy a port has selected or is sending. -/
structure InService where
  desc : Nat
  started : Bool
  startNs : Nat
  /-- provisional wire length it was selected with (R112) -/
  wire : Nat
  /-- calendar slots held (R131) -/
  slots : Nat
  /-- SA slot, association number, key and packet number taken at its first byte (R320) -/
  prot : Option (Nat × Nat × List Byte × Nat)
  /-- its cipher job was aborted after the first byte: it ends as tail-marked (R312) -/
  spoiled : Bool
  /-- its completion has been charged to the tags, its length known and its last word read (R111, R114) -/
  charged : Bool
  deriving DecidableEq, Repr

/-- A gate unit's run of a list (R116 to R119). -/
structure GateRun where
  list : Option Nat
  entry : Nat
  /-- global time at which the entry in force began and ends -/
  startNs : Nat
  endNs : Nat
  pend : Option (Option Nat)
  /-- end of the old list's cycle, while its last entry is extended up to another list's start (R118) -/
  cycleEnd : Option Nat
  /-- after a step of global time the entry in force runs for its interval, then the unit finds its entry (R119) -/
  find : Bool
  deriving DecidableEq, Repr

/-- A CAN copy in the priority queue or a transmit buffer, with its key and order of arrival (R122, R123). -/
structure CanEntry where
  key : Nat
  order : Nat
  desc : Nat
  deriving DecidableEq, Repr

/-- What channel n has on the bus: a copy, its clapper buffer's frame, or safe-state buffer b. -/
inductive CanAir where
  | copy (e : CanEntry)
  | sync
  | followup
  | safe (b : Nat)
  deriving DecidableEq, Repr

/-- The descriptor of a copy on the bus. -/
def CanAir.desc? : CanAir → Option Nat
  | .copy e => some e.desc
  | _ => none

/-- The scheduler's run, and the buffers of the CAN channels (R110, R122). -/
structure Sched where
  service : SMap InService
  /-- the copy that a port has selected behind the one it is still sending (R111) -/
  next : SMap InService
  /-- S and F of each weighted queue (R114) -/
  tags : SMap (Nat × Nat)
  /-- shaper: tokens in 1/8 byte times 125,000 and device time of the last refill -/
  shaper : SMap (Int × Nat)
  /-- pause of port p class c (key 8p + c): device time at which it ends, and at which it began -/
  pausedUntil : SMap (Nat × Nat)
  /-- generated pause of port p class c: device time of the next repeat (R129) -/
  xoffRepeat : SMap Nat
  /-- generated PAUSE and PFC frames of port p that wait for a frame boundary (R129) -/
  pauseOut : SMap (List (List Byte))
  gates : SMap GateRun
  canPq : SMap (List CanEntry)
  canTxb : SMap (List CanEntry)
  canOrder : Nat
  /-- the frame in arbitration or transmission on channel n -/
  canTx : SMap CanAir
  /-- stamps in the FIFO of port p's receive (2p) and transmit (2p + 1) timestamp unit (R277) -/
  stamps : SMap Nat
  /-- tags of port p's queue and its virtual time as they were before the copy in service was charged: a copy that is then
  discarded unsent gives them back (R111, R114) -/
  undo : SMap (Nat × Nat × Nat)
  deriving DecidableEq, Repr

-- Collator -------------------------------------------------------------------------------------------------------

/-- One slot of a context's window (R145). -/
inductive Slot where
  | empty
  | gap
  /-- a held copy: its descriptor and the device time of its arrival -/
  | copy (d arriveNs : Nat)
  deriving DecidableEq, Repr

/-- A collator context beyond its registers (R144 to R154). -/
structure Ctx where
  /-- the numbers NEXT, NEXT + 1, …; slots beyond the list are empty -/
  slots : List Slot
  /-- device time of the last copy it saw (R148) -/
  lastNs : Nat
  /-- PASSED and DUP_DISCARD since the last latent reset; device times of the last test and reset (R154) -/
  pa : Nat
  du : Nat
  testNs : Nat
  resetNs : Nat
  /-- the hole deadline, the recovery reset time has run out in the tick under way: acted on at the tick's end, after what
  arrives in it (R157) -/
  holeDue : Bool
  resetDue : Bool
  deriving DecidableEq, Repr

-- Time base -----------------------------------------------------------------------------------------------------

/-- A statistics capture under way (R240): its group, trigger and bank, whether its instant has come, and both times of its
instant; before it, `devNs` is the tick boundary that it waits for. -/
structure SnapRun where
  taken : Bool
  group : Nat
  schedule : Bool
  bank : Nat
  globalNs : Nat
  devNs : Nat
  deriving DecidableEq, Repr

/-- The time base beyond its registers (R268 to R282), and the snapshot schedule (R240). -/
structure Tim where
  /-- per domain entry: consecutive offsets within and above SYNC_LIMIT_NS, device time of the last Sync (R272) -/
  within : SMap Nat
  above : SMap Nat
  syncNs : SMap Nat
  /-- per port: consecutive good and bad Pdelay exchanges (R275) -/
  pdGood : SMap Nat
  pdBad : SMap Nat
  /-- step that waits for the next tick boundary: device time of the boundary, absolute target or change, ns (R271, R276) -/
  step : Option (Nat × Bool × Int)
  /-- slew in force, ppb; what it still has to remove and the fraction of global time, in 10⁻⁹ ns -/
  slew : Int
  slewLeft : Int
  frac : Int
  /-- rate correction beside the slew, ppb: what stays in force when an offset has been removed (R271) -/
  base : Int
  /-- device time at which the pulse on PPS_OUT ends; none while the land is low (R282) -/
  ppsFall : Option Nat
  /-- Announce messages received on port p, and ignored (R274) -/
  announce : SMap Nat
  /-- device time from which HOLDOVER counts -/
  holdNs : Nat
  /-- next scheduled instants in global time: clapper channel n, snapshot -/
  clapNext : SMap Nat
  snapNext : Option Nat
  snap : Option SnapRun
  deriving DecidableEq, Repr

-- Bridging engines -----------------------------------------------------------------------------------------------

/-- A frame that waits for its bridging engine (R161): bus header and PDU, or a whole Ethernet frame. -/
structure Job where
  bus : Bool
  data : List Byte
  src : Nat
  v : Verdict
  tc : Nat
  rxNs : Nat
  tailMark : Bool
  /-- egress trailer that RESEAL leaves behind the PDU (R161), and whether it padded the PDU (R168) -/
  trailer : List Byte
  padded : Bool
  /-- the pool frame that holds its cells too, where the source frame is also forwarded -/
  frame : Option Nat
  deriving DecidableEq, Repr

/-- An encapsulation record's fields that are not mapped (R171, R188). -/
structure EncExtra where
  dst : Nat
  src : Nat
  /-- PCP in [15:13] and VID in [11:0]; 0xFFFF untagged -/
  vlan : Nat
  presentUs : Nat
  vendor : Nat
  deriving DecidableEq, Repr

/-- An encapsulation record's open frame (R172). -/
structure EncOpen where
  bytes : List Byte
  /-- global time of the first message's reception; device time at which it was added -/
  firstNs : Nat
  openNs : Nat
  dest : Nat
  tc : Nat
  maxAge : Nat
  deriving DecidableEq, Repr

/-- A PDU layout's fields that are not mapped (R188). -/
structure PduExtra where
  fmt : Nat
  bus : Nat
  domain : Option Nat
  ident : Nat
  enc : Nat
  init : List Byte
  deriving DecidableEq, Repr

/-- A signal route's constants: 64-bit (R178, R181). -/
structure RouteK where
  lo : Nat
  hi : Nat
  matched : Nat
  subst : Nat
  timeout : Nat
  deriving DecidableEq, Repr

/-- A PDU layout's run (R180, R181): device times. -/
structure PduRun where
  lastTx : Option Nat
  deferred : Bool
  /-- due time of the periodic trigger that waits for the gap -/
  dueNs : Option Nat
  /-- last periodic due time served -/
  periodNs : Option Nat
  /-- last reception, and last expiry of the receive timer (R181) -/
  rxNs : Option Nat
  expiredNs : Option Nat
  deriving DecidableEq, Repr

/-- A frame in a signal thread's queue: its layout and the bytes the layout describes. -/
structure SigFrame where
  layout : Nat
  data : List Byte
  deriving DecidableEq, Repr

/-- A transport session (R182 to R184). -/
structure TpSess where
  record : Nat
  port : Nat
  sa : Nat
  da : Nat
  pgn : Nat
  prio : Nat
  etp : Bool
  /-- the module takes part as receiver (ANSWER) -/
  answer : Bool
  /-- 1 BAM, 2 RTS_CTS, 3 ETP, 4 SENDING -/
  st : Nat
  size : Nat
  data : List Byte
  /-- next packet expected or to be sent, from 1; last packet of the window that a CTS opened; ETP data packet offset -/
  next : Nat
  windowEnd : Nat
  offset : Nat
  /-- packets per CTS that the RTS allows -/
  limit : Nat
  /-- device time at which the running timer ends, or the next BAM packet is due -/
  timerNs : Nat
  /-- destination set and class of the record's output -/
  dest : Nat
  tc : Nat
  maxAge : Nat
  /-- global reception time of the opening frame -/
  firstNs : Nat
  deriving DecidableEq, Repr

/-- A channel's J1939 claim (R185). -/
structure J1939 where
  lo : Nat
  hi : Nat
  candidate : Nat
  claimNs : Nat
  /-- addresses that other nodes have claimed -/
  taken : List Nat
  deriving DecidableEq, Repr

/-- Bridging engines beyond their registers. -/
structure Sge where
  /-- frames waiting: 1 conversion, 2 capsule, 3 unpack, 4 signal, 5 transport; oldest first -/
  jobs : SMap (List Job)
  encX : SMap EncExtra
  encOpen : SMap EncOpen
  pduX : SMap PduExtra
  pdu : SMap PduRun
  routeK : SMap RouteK
  threads : SMap (List SigFrame)
  /-- threads that a memory error stopped, and records, each with its engine as `jobs` numbers them (R187) -/
  stopped : Nat
  stoppedRecs : List (Nat × Nat)
  tpGap : SMap Nat
  tp : SMap TpSess
  j1939 : SMap J1939
  /-- route operations in the millisecond under way, and that millisecond (SGE_OPS) -/
  ops : Nat
  opsMs : Nat
  /-- device time at which the layouts last started afresh (R186) -/
  freshNs : Nat := 0
  deriving DecidableEq, Repr

-- Vault and cipher engine ----------------------------------------------------------------------------------------

/-- A request on the vault's table (R291): the operation as VLT_OP_STATUS codes it, 0 DERIVE to 4 IMPORT; its requester, 0
safety pair, 1 cluster, 2 host; the entry, the blob, what ECC finds, and whether it came through the mailbox. -/
structure VaultReq where
  op : Nat
  reqr : Nat
  i : Nat
  blob : List Byte
  ecc : Ecc
  mbx : Bool
  deriving DecidableEq, Repr

/-- The vault beyond its registers: secrets, never mapped (chapter 11). -/
structure Vault where
  root : Option Nat
  /-- key-encryption key, derived from the root at each start and wake (R288) -/
  kek : Option Nat
  /-- key material of every VALID entry -/
  keys : SMap Nat
  /-- derivation data and USES as defined, of entries the sheet defines -/
  deriv : SMap (List Byte)
  defUses : SMap Nat
  /-- USES committed to NAND (R290) -/
  committed : SMap Nat
  /-- index of each lane's key, with its GEN (R292) -/
  laneGen : SMap Nat
  /-- the value in each lane's key register (R292) -/
  laneKey : SMap Nat := []
  /-- sources and rung of a tamper taken while asleep, reported at the next wake (R300) -/
  asleepTamper : Nat
  asleepRung : Nat
  /-- count of the always-on alarm timer as that tamper found it (R300, R367) -/
  asleepCount : Nat := 0
  /-- word 0, GEN and PARENT_GEN under which each entry's material is wrapped (R288, R289) -/
  bound : SMap (Nat × Nat × Nat) := []
  /-- requests that have reached the vault in this device tick, under way until its end (R291, R300) -/
  reqs : List VaultReq := []
  /-- the instruction the TAP holds (R302) -/
  tap : TapInstr := .bypass
  deriving DecidableEq, Repr

/-- A job of the cipher engine (R308): 1 MACSEC_IN, 2 MACSEC_OUT, 3 SEAL, 4 VERIFY, 5 RESEAL. -/
structure CipJob where
  kind : Nat
  port : Nat
  /-- the frame of an ingress or seal job, with what lookup decided -/
  x : Option Ing
  /-- MACSEC_OUT: the copy -/
  desc : Option Nat
  /-- a sealed clapper frame of channel n (R279), or a sealed message of layout l for its encapsulation record (R180) -/
  clap : Option Nat
  layout : Option Nat
  key : Nat
  /-- RESEAL: key of the seal side; 0xFFF otherwise -/
  key2 : Nat
  dom : Nat
  early : Bool
  /-- MACSEC_IN: receive SC, SA slot and packet number -/
  sc : Nat
  sa : Nat
  pn : Nat
  lane : Option Nat
  lane2 : Option Nat
  /-- MACSEC_IN: the IV of its frame -/
  iv : List Byte := []
  /-- the key values that its lanes' registers hold, once placed -/
  kv : Nat := 0
  kv2 : Nat := 0
  /-- its wait for held-buffer space is counted -/
  waited : Bool := false
  deriving DecidableEq, Repr

/-- Parts of a classic announce received so far, and since when (R326). -/
structure AnnParts where
  bytes : List Byte
  next : Nat
  sinceNs : Nat
  deriving DecidableEq, Repr

/-- The cipher engine beyond its registers (chapter 12). -/
structure Cip where
  /-- jobs in order of request; the first 256 are in flight -/
  jobs : List CipJob
  /-- freshness slots in use -/
  slots : List Nat
  /-- key index and GEN each slot last counted under (R314) -/
  slotKey : SMap (Nat × Nat)
  /-- committed value of each slot, and acceptances of a receive slot since its commit (R325) -/
  fvCommit : SMap Nat
  rxSince : SMap Nat
  /-- device time of the last announce of a transmit slot, and slots a request asked for (R326) -/
  annNs : SMap Nat
  annAsked : List Nat
  /-- device time of the last announce that a request brought about (R326) -/
  annReq : SMap Nat := []
  /-- announces of this cycle, by channel and frame, that have been applied before an unpacked frame (R328) -/
  annEarly : List (Nat × List Byte) := []
  /-- announce parts of channel n and domain d: key 256n + d -/
  parts : SMap AnnParts
  /-- SSCI and salt of each XPN SA, by its register's address (R317, R329) -/
  xpn : SMap (Nat × Nat)
  deriving DecidableEq, Repr

-- Recorder ------------------------------------------------------------------------------------------------------

/-- A recorder record: its slate's fields and its body (R386). -/
structure Rec where
  kind : Nat
  flags : Nat
  source : Nat
  seq : Nat
  devNs : Nat
  globalNs : Nat
  timeState : Nat
  aux : Nat
  body : List Byte
  /-- it waits to be copied to the host stream at the end of its device tick (R391) -/
  fresh : Bool := false
  deriving DecidableEq, Repr

/-- Losses of a class since its last gap record: records and bytes (R389). -/
structure GapCount where
  records : Nat
  bytes : Nat
  sampled : Nat
  sampledBytes : Nat
  reasons : Nat
  deriving DecidableEq, Repr

/-- An open, writing or held window (R392, R393). -/
structure Window where
  trigNs : Nat
  startNs : Nat
  endNs : Nat
  deriving DecidableEq, Repr

/-- One entry of the persistent incident log: bytes and records (R393, R394). -/
structure LogEntry where
  bytes : Nat
  committed : Bool
  sleepSave : Bool
  recs : List Rec
  deriving DecidableEq, Repr

structure Recorder where
  /-- rings 0 ALARM, 1 LOG, 2 RUSHES, 3 TRACE: records, oldest first -/
  rings : SMap (List Rec)
  window : Option Window
  gaps : SMap GapCount
  quiet : Nat
  /-- trace frames seen per ingress port (R390) -/
  traceSeen : SMap Nat
  log : List LogEntry
  /-- device time up to which LOG records have been saved by a sleep save (R394) -/
  savedSeq : Nat
  /-- the last trigger joined to a held window: device time, kind, source (R395) -/
  joined : Option (Nat × Nat × Nat)
  /-- bytes that wait to be written: class 0 ALARM and GAP, 1 LOG, 2 CAPTURE, up to device time `drainNs`; device time up to
  which the spill holds the DRAM (R389, R98) -/
  bufs : SMap Nat := []
  drainNs : Nat := 0
  spillNs : Nat := 0
  deriving DecidableEq, Repr

-- Reaction unit -------------------------------------------------------------------------------------------------

/-- A reaction under way on line `line`: running until done, then settling (R376). -/
structure Reaction where
  line : Nat
  act : Nat
  startNs : Nat
  /-- device time at which it completed, none while it runs -/
  doneNs : Option Nat
  deriving DecidableEq, Repr

/-- A safe-state frame buffer's run (R384): when it is due next, and the repeats after that. -/
structure SafeFrameRun where
  dueNs : Nat
  left : Nat
  deriving DecidableEq, Repr

structure Rxu where
  actions : List Reaction
  /-- device times of reactions started in service (R377) -/
  storm : List Nat
  /-- device time of t2 of the present safe state -/
  safeSince : Option Nat
  /-- last refused RELEASE_AUTH with a bad tag -/
  lastTagFail : Option Nat
  frames : SMap SafeFrameRun
  /-- LEN of safe-state buffer b's frame (SAFE_FRAMES BUFFER), not mapped -/
  safeLen : SMap Nat
  /-- FAULT_N holders besides safe state: limp, a FAULT start condition, start-up or power fail, the FAULTN level -/
  limpHold : Bool
  condHold : Bool
  startHold : Bool
  /-- line tests (R383): the line that the pass under way takes next and when, when that pass began, and when the next may
  begin -/
  testNext : Option Nat
  testAt : Nat
  testStart : Nat
  testDue : Option Nat
  /-- the safety pair itself has failed (lines 78, 79): it releases nothing more in this start (R385) -/
  pairFault : Bool := false
  deriving DecidableEq, Repr

-- Ports ---------------------------------------------------------------------------------------------------------

/-- A clapper buffer's run (R214): which frame is due and since when (device time), and the sync's transmit time. -/
structure ClapRun where
  followup : Bool
  dueNs : Nat
  /-- global times: the scheduled instant, and the sync's transmit time -/
  schedNs : Nat
  txNs : Nat
  seq : Nat
  /-- a step has come after the sync's transmit time: no follow-up is built for it (R281) -/
  stale : Bool
  /-- the frame to send; none while its seal job runs (R279) -/
  frame : Option (List Byte)
  deriving DecidableEq, Repr

/-- A CAN channel beyond its registers. -/
structure CanChan where
  /-- polarity: 0 listening, 1 settled, 2 unknown after the window, 3 crossed without swap (R47) -/
  polarity : Nat
  /-- valid frames seen with a negative differential (R47) -/
  negSeen : Nat
  swapPending : Bool
  termPending : Bool
  /-- device time of LONELY entry or of the last probe (R208) -/
  lonelyNs : Nat
  /-- device times of recoveries begun (R205) -/
  recoveries : List Nat
  /-- the transmitter waits for 11 recessive bits (R207, R482) -/
  integrating : Bool
  /-- driver fault: recessive until the driver has cooled (cause 12 of R218) -/
  hot : Bool
  /-- line length: acknowledged frames so far, sums of near and far delays in ps (R46) -/
  lenN : Nat
  lenNear : Nat
  lenFar : Nat
  clap : Option ClapRun
  /-- STATE 4 or 5 in which the channel left service: it comes back in it (R205, R206) -/
  off : Nat
  /-- device time at which the frame on the bus began -/
  airNs : Nat
  /-- device time at which LONELY is entered, the bit time of the sixteenth acknowledge error over (R208, R215) -/
  lonelyDue : Option Nat
  /-- a sync that fell due while the last frame of the clapper buffer was on the bus: device time, scheduled instant, SEQ -/
  clapWait : Option (Nat × Nat × Nat)
  deriving DecidableEq, Repr

/-- An Ethernet port beyond its registers. -/
structure EthPort where
  /-- negotiated speed and speeds both ends advertised (R221, R231) -/
  negotiated : Nat
  common : Nat
  /-- consecutive windows that want a step down (R232) -/
  downMs : Nat
  stepTo : Option Nat
  /-- a step that waits for a frame boundary in both directions (R233) -/
  stepWant : Option Nat
  /-- a partner's sleep request that waits for the end of a step (R235) -/
  sleepAfter : Bool
  /-- device time since which nothing was eligible and no MAC control frame due (R229) -/
  idleNs : Nat
  /-- PLCA: end of the last own frame, extra frames of its burst, and the last beacon sent or received (R226) -/
  plcaEndNs : Nat
  plcaBurst : Nat
  beaconNs : Nat
  /-- PLCA: how long frames have held the medium since that beacon (R226) -/
  plcaBusy : Nat := 0
  /-- device times at which low-power idle began in transmit and in receive (R229) -/
  lpiSince : Nat
  lpiRxSince : Nat
  sqiLowMs : Nat
  sqiRaised : Bool
  /-- the reaction unit has reset the MAC and PHY: the link ends with this cycle (R374) -/
  phyReset : Bool
  deriving DecidableEq, Repr

/-- A LIN channel beyond its registers. -/
structure LinChan where
  /-- header on the bus that awaits its response -/
  ident : Option Nat
  /-- tables that collisions interrupted, the last first, each with its next entry (R251) -/
  resume : List (Nat × Nat)
  slotNs : Nat
  /-- entry to run next -/
  next : Nat
  activeNs : Nat
  /-- collision table of the slot in progress, where it is event-triggered (R251) -/
  event : Option Nat
  /-- global time at the start of the last break field (R250) -/
  breakNs : Nat
  /-- the go-to-sleep command has been sent (R254, R337) -/
  slept : Bool
  /-- the 1 kΩ pull-up is driven (R254) -/
  pullup : Bool
  /-- own response to come: its identifier, and the device time at which the header's protected identifier ends (R249) -/
  reply : Option (Nat × Nat)
  /-- a wake pulse is owed once the bus has been recessive for 100 ms (R339) -/
  pulse : Bool
  deriving DecidableEq, Repr

structure Ports where
  /-- ports held off by a start condition (R49), fenced (R365, R373) -/
  keptOff : Nat
  fenced : Nat
  can : SMap CanChan
  eth : SMap EthPort
  lin : SMap LinChan
  /-- switch input k: samples the raw state has held; disagreeing polls (R255, R256) -/
  swHeld : SMap Nat
  swPolls : SMap Nat
  /-- safe output k: device times of retries; consecutive ms of open load (R261, R262) -/
  soRetries : SMap (List Nat)
  soOpen : SMap Nat
  deriving DecidableEq, Repr

-- Host interface ------------------------------------------------------------------------------------------------

/-- A stalled RS read (R15): EVT_FIFO[index] or CPL_POP[index]. -/
structure Stall where
  req : Requester
  evt : Bool
  index : Nat
  sinceNs : Nat
  /-- byte enables of the read (R12) -/
  be : BitVec 4 := 15
  deriving DecidableEq, Repr

/-- A vector's event signalling (R472): last event signal, and whether one is owed. -/
structure VecState where
  lastNs : Nat
  owed : Bool
  deriving DecidableEq, Repr

/-- A raised source waiting for the end of its tick: tick, source and the FIFOs it goes to, as a bit mask (R473). -/
structure TickItem where
  tick : Nat
  src : Nat
  fifos : Nat
  deriving DecidableEq, Repr

/-- A completion of a from-host ring that waits (R465): its number, source port, time, coarse flag, status once known. -/
structure PendCompl where
  n : Nat
  len : Nat
  sinceNs : Nat
  /-- frame number whose first start it waits for; none: ready -/
  waits : Bool
  status : Nat
  src : Nat
  timeNs : Nat
  coarse : Bool
  deriving DecidableEq, Repr

/-- What stands in Q(384 + k): a copy, record or message placed on ring k whose completion is not written yet (R468). -/
structure Flight where
  /-- the copy of the pool that it holds -/
  desc : Option Nat
  status : Nat
  kind : Nat
  tc : Nat
  src : Nat
  len : Nat
  timeNs : Nat
  coarse : Bool
  /-- where its data goes, and the data; none is written where STATUS is not OK -/
  addr : Nat
  data : List Byte
  /-- device time at which its transfer ends -/
  endNs : Nat
  /-- a message of the ETP protocol (R182) -/
  etp : Bool
  deriving DecidableEq, Repr

/-- Host DMA state beyond its registers. -/
structure HostIf where
  /-- descriptors of the BAR 2 windows, key 1024k + slot: address, length, flags (R462) -/
  descs : SMap (Nat × Nat × Nat)
  /-- unsignalled completions of ring k: count and device time of the oldest (R466) -/
  unsig : SMap (Nat × Nat)
  /-- from-host completions in descriptor order behind a TS_REQ (R465) -/
  wait : SMap (List PendCompl)
  /-- TRANSPORT messages that wait for a descriptor: bytes, since when, ETP (R463) -/
  msgs : List (List Byte × Nat × Bool)
  /-- device time the pending firmware command was given (R475) -/
  mbxSince : Nat
  /-- injection slots' TS_REQ since (R471) -/
  injSince : SMap Nat
  /-- ring k: the device tick of its last ENABLE = 0 (R477); rings that an error stopped since their last start (R467) -/
  offTick : SMap Nat
  erred : List Nat
  /-- address and data words of the MSI-X table, by word (R459) -/
  msixTable : SMap Nat
  /-- Q(384 + k): what is placed on to-host ring k, oldest first (R468) -/
  flights : SMap (List Flight)
  deriving DecidableEq, Repr

structure Router where
  fifos : SMap (List Nat)
  tick : List TickItem
  vecs : SMap VecState
  /-- MSI-X mask and pending bits (R459, R466) -/
  msixMask : Nat
  msixPend : Nat
  stalls : List Stall
  /-- write-1-to-clear bits that were set at this instant, by register: a clear of the same instant leaves them (R14) -/
  w1cSet : SMap Nat
  deriving DecidableEq, Repr

/-- What the module sent out, newest first: the model's own record of its outputs (log entry 7). -/
inductive Out where
  /-- a frame ends on port p's wire; `cut` when its FCS was inverted or it was stopped -/
  | wire (p : Nat) (bytes : List Byte) (cut : Bool)
  | msix (v : Nat)
  /-- core interrupt: 0 to 3 hart, 4 safety pair -/
  | irq (core : Nat)
  /-- data written to a host buffer by ring k -/
  | toHost (k : Nat) (addr : Nat) (bytes : List Byte)
  | completion (k : Nat) (addr : Nat) (w0 w1 : Nat) (timeNs : Nat)
  /-- the status code that answers a scene request of the safety pair or the cluster (R414) -/
  | scene (req : Requester) (code : Nat)
  /-- an answer on DoIP from the module's logical address to the tester's (R439) -/
  | doip (source target : Nat) (bytes : List Byte)
  /-- an answer on CAN channel n, UDS or Stohal: its identifier, the nominal bit in ps, the message (R439, R441) -/
  | canAnswer (n id bitPs : Nat) (bytes : List Byte)
  /-- bytes on MSPI_MISO -/
  | miso (bytes : List Byte)
  /-- the PPS_OUT land rises or falls (R282) -/
  | pps (high : Bool)
  /-- gPTP messages (R274, R275, R277): a two-step Sync with its Follow_Up's precise origin time and correction field, ns; a
  Pdelay_Req; a Pdelay_Resp with its Follow_Up -/
  | ptpSync (p domain : Nat) (originNs correctionNs : Nat)
  | ptpReq (p : Nat)
  | ptpResp (p : Nat)
  /-- a CAN frame ends on channel n's bus: the DLC and the ESI sent with it, and its header and data (R198) -/
  | canWire (n dlc : Nat) (esi : Bool) (frame : List Byte)
  /-- a LIN header with its protected identifier; a response with its checksum; a wake pulse of so many µs; the 1 kΩ
  pull-up switched (R248, R251, R254) -/
  | linHead (p pid : Nat)
  | linResponse (p : Nat) (bytes : List Byte)
  | linWake (p us : Nat)
  | linPullup (p : Nat) (on : Bool)
  /-- a PLCA coordinator's beacon on port p (R226) -/
  | beacon (p : Nat)
  deriving DecidableEq, Repr

-- Survey, network management, gaffer ------------------------------------------------------------------------------

/-- A start condition of the PINS section (R49, R404): action 0 KEEP_OFF, 1 FAULT, 2 LOG. -/
structure StartCond where
  target : Nat
  quantity : Nat
  action : Nat
  lo : Int
  hi : Int
  deriving DecidableEq, Repr

/-- The wiring survey beyond its registers (R42 to R49). -/
structure Survey where
  conds : List StartCond
  /-- polarity listening window W, ms -/
  windowMs : Nat
  /-- TARGET of the command survey that runs -/
  target : Option Nat
  /-- CAN channels whose item of the start survey has ended, one bit each (R42) -/
  canEnded : Nat
  /-- device time at which the call sheet went live (tL) and t0 of the last start or wake -/
  loadNs : Nat
  t0Ns : Nat
  deriving DecidableEq, Repr

/-- The wake-up frame a CAN listener looks for: held by the line die, not mapped (R344). -/
structure Wuf where
  ident : Nat
  mask : Nat
  ext : Bool
  dlc : Nat
  dataMask : List Byte
  deriving DecidableEq, Repr

/-- A segment's run (R334 to R342). -/
structure Seg where
  /-- device time of entry to the present state, of the silence timer's last restart, of the next keep-alive -/
  sinceNs : Nat
  silenceNs : Nat
  kaDueNs : Nat
  /-- the module's own need, not a wake, began the request (R336) -/
  active : Bool
  /-- device time at which its coupling hold ends, 0 none (R342) -/
  coupleNs : Nat
  /-- wake latched after the commit point (R338) -/
  latched : Bool
  /-- what latched it, as segRise names it -/
  latchWhy : Nat
  deriving DecidableEq, Repr

/-- Network management beyond its registers. -/
structure Nm where
  segs : SMap Seg
  /-- NEED_SCENES and USER of each segment (R350) -/
  needScenes : SMap Nat
  user : SMap (List Byte)
  /-- keep-alive addresses, held by the safety pair (R336) -/
  kaBase : SMap Nat
  kaExt : SMap Bool
  kaIp : SMap Nat
  kaGroup : SMap Nat
  kaUdp : SMap Nat
  wuf : SMap Wuf
  /-- wakes under judgement: source (64 for one that is never false) and time of detection (R346, R347) -/
  judge : List (Nat × Nat)
  /-- counted source i: start of its false-wake window (R346) -/
  window : SMap Nat
  /-- what the line die holds of its listeners while the main die is off: SEG_CFG and TC10 of the segments with an enabled
  port, and the switch inputs that wake (R343, R354) -/
  listen : SMap (Nat × Bool) := []
  listenSw : List Nat := []
  deriving DecidableEq, Repr

/-- The gaffer beyond its registers (R355 to R368). -/
structure Gaffer where
  /-- held in reset: before the first power-on and after a power fail (R30) -/
  inReset : Bool
  /-- device time since which the present dwell runs, and since which the module has been idle (R357, R358) -/
  dwellNs : Nat
  idleNs : Nat
  /-- device time of the decision of the move under way -/
  moveNs : Nat
  /-- a wake was latched after the commit point of a module move (R360) -/
  latched : Bool
  /-- device time HOST_WAKE rose -/
  hostWakeNs : Nat
  /-- consecutive low-battery checks; a report owed at the next wake (R368) -/
  lowBatt : Nat
  lowBattOwed : Bool
  /-- lid warning and lid limit in force (R39) -/
  lidWarn : Bool
  lidLimit : Bool
  /-- a resume is under way: tables are not live yet (R362) -/
  resuming : Bool
  /-- units that failed their first attempt (R365), by bit of GAF_UNITS -/
  retried : Nat
  /-- a TST land is driven, as the last power-on found it (R287) -/
  tst : Bool
  /-- digest of the call sheet in the keep bank and the resume context's validity (R355, R356) -/
  sheetDigest : List Byte
  resumeValid : Bool
  /-- PPS driver disconnected (R36) -/
  ppsOff : Bool
  /-- the always-on domain has lost its supply: the keep bank holds nothing (R355) -/
  keepLost : Bool
  /-- device time of the commit point of the last move to Sleep (R272) -/
  sleepNs : Nat
  /-- counts of the 32,768 Hz oscillator since the crystal stopped there (R268) -/
  sleepCount : Nat
  /-- device time at which the alarm timer fires, none while no alarm is set (R367) -/
  alarmNs : Option Nat
  /-- the lid mesh is broken, the erase reservoir is below its firing level (R301) -/
  meshCut : Bool := false
  resLow : Bool := false
  /-- device time of the last step of the staged start (R363) -/
  unitNs : Nat := 0
  /-- how long the move under way may take, ns (R359) -/
  moveMax : Nat := 0
  /-- PHY and CAN groups that wait for their power step (R363) -/
  unitWant : List Nat := []
  /-- device time of the first wake that a move under way has latched (R369) -/
  latchNs : Nat := 0
  /-- a slow move is reported once the main die runs again (R372) -/
  slowOwed : Bool := false
  deriving DecidableEq, Repr

-- Takes and updates (chapter 17) ----------------------------------------------------------------------------------

/-- What the NAND holds of one take (R418, R427, R428). -/
structure Take where
  /-- state code of the boot-pointer record, 4 TRIAL to 7 OVERWRITING; 0 while the chunk log gives the state -/
  mark : Nat
  /-- bytes of the chunks that have a log page, in order -/
  image : List Byte
  /-- the chunk log: the SHA-256 of each committed chunk, by index (R428) -/
  log : List (List Byte)
  /-- the last chunk has been committed; the take has been verified since this start -/
  whole : Bool
  verified : Bool
  /-- the image put in at manufacture (R420), which holds no call sheet -/
  factory : Bool
  deriving DecidableEq, Repr

/-- Number of chunks that have a log page (R428). -/
def Take.chunks (t : Take) : Nat := t.log.length

/-- Record pages of one kind, twofold (R419): copy 0 and copy 1, each four blocks of 64 pages by page number, and the next free
page of either. -/
structure RecPages where
  copy0 : SMap (List Byte)
  copy1 : SMap (List Byte)
  next : Nat
  deriving DecidableEq, Repr

/-- What the NAND holds besides the takes and the incident log (R418, R419, R449): boot-pointer, floor and position records, and
the copy of the resident loader that was started. -/
structure Nand where
  bp : RecPages
  floor : RecPages
  pos : RecPages
  loader : Nat
  deriving DecidableEq, Repr

/-- A request of the scene switch: who asks, the target, and whether it came through the mailbox (R414). -/
structure SceneReq where
  req : Requester
  target : Nat
  mbx : Bool
  deriving DecidableEq, Repr

/-- Updates and attestation beyond their registers (R419 to R449). -/
structure Upd where
  takeA : Take
  takeB : Take
  /-- of the valid boot-pointer record: SEQ, AT_TIME_ONLY, PENDING_RESTART, COMPAT_DIGEST, TRIAL_CLOCK_S -/
  seq : Nat
  atTimeOnly : Bool
  pendingRestart : Bool
  compatDigest : List Byte
  clockSaved : Nat
  /-- ns of the second of the trial clock under way -/
  clockNs : Nat
  /-- LOADER_ONLY is a recovery under R421 and R445 -/
  recovery : Bool
  /-- this boot was good; safe state with a cause other than HOST has been entered in this trial (R431, R432) -/
  bootGood : Bool
  trialSafe : Bool
  /-- device time of the session's last request or frame -/
  sessNs : Nat
  /-- the chunk being programmed, whether it is the last, and the source that sent it (SESSION code) -/
  prog : Option (List Byte × Bool × Nat)
  /-- a verification is under way for this source -/
  verifying : Option Nat
  /-- device time of the tick boundary at which a module reset is due (R430), and of a pending scene switch (R414) -/
  restart : Option Nat
  sceneNs : Nat
  /-- scene requests of this device tick, in order of arrival (R414) -/
  sceneReqs : List SceneReq := []
  /-- the present chunk's bytes on UDS, DoIP or Stohal, the next block counter or SEQ, and whether one was missing -/
  buf : List Byte
  next : Nat
  spoiled : Bool
  /-- download under way: image length announced (UDS), 0 where none was -/
  dl : Option Nat
  /-- a compatibility envelope whose bytes come in (R442) -/
  envelope : Bool
  /-- index of the chunk that a UDS download sends next; the chunk under way answers RequestTransferExit -/
  index : Nat
  exiting : Bool
  /-- results of routines 0x0210 to 0x0212 -/
  routine : SMap Nat
  /-- tester address of the DoIP routing activation -/
  tester : Option Nat
  /-- device time at which the report under way was asked for -/
  attSince : Option Nat
  /-- the new take's firmware and call sheet have been prepared (R435) -/
  prepared : Bool
  /-- SEQ of the valid floor record (R420) -/
  flSeq : Nat
  /-- the present boot of a take in TRIAL has been counted as failed (R411, R431) -/
  bootFailed : Bool
  /-- a forward step of global time went across ACT_TIME (R278, R435) -/
  crossed : Bool
  nand : Nand
  deriving DecidableEq, Repr

/-- The state of the module. -/
structure State where
  /-- every register that differs from its reset value (log entry 1) -/
  regs : SMap Word
  /-- commands waiting, first in first out -/
  pending : List Instr
  /-- device time, ns since power-on (R11) -/
  devNs : Nat
  /-- global time, ns (R11) -/
  globalNs : Nat
  /-- free values drawn so far: the model's own (log entry 3) -/
  drawn : Nat
  /-- what the last read command returned: the model's own (log entry 8) -/
  readData : List Nat
  out : List Out
  router : Router
  host : HostIf
  lku : Lku
  ing : List Ing
  pool : Pool
  sched : Sched
  col : SMap Ctx
  sge : Sge
  tim : Tim
  vault : Vault
  cip : Cip
  recd : Recorder
  rxu : Rxu
  ports : Ports
  survey : Survey
  nm : Nm
  gaf : Gaffer
  upd : Upd
  deriving DecidableEq, Repr

/-- The NAND as the module leaves the factory (R420): take A CONFIRMED with the factory image, take B EMPTY. -/
def Upd.delivered : Upd := {
  takeA := ⟨5, [], [], true, false, true⟩, takeB := ⟨0, [], [], false, false, false⟩, seq := 0, atTimeOnly := false
  pendingRestart := false, compatDigest := [], clockSaved := 0, clockNs := 0, recovery := false, bootGood := false
  trialSafe := false, sessNs := 0, prog := none, verifying := none, restart := none, sceneNs := 0, buf := [], next := 0
  spoiled := false, dl := none, envelope := false, index := 0, exiting := false, routine := [], tester := none
  attSince := none, prepared := false, crossed := false, flSeq := 0, bootFailed := false
  nand := ⟨⟨[], [], 0⟩, ⟨[], [], 0⟩, ⟨[], [], 0⟩, 0⟩ }

/-- The module right after reset (R18): every register at its reset value, nothing queued, held or in progress. -/
def State.reset : State := {
  regs := [], pending := [], devNs := 0, globalNs := 0, drawn := 0, readData := [], out := []
  router := ⟨[], [], [], 0, 0, [], []⟩
  host := ⟨[], [], [], [], 0, [], [], [], [], []⟩
  lku := ⟨[], [], [], [], [], [], [], [], false⟩
  ing := []
  pool := ⟨0, [], [], [], [], [], [], [], .ok, [], [], []⟩
  sched := { service := [], next := [], tags := [], shaper := [], pausedUntil := [], xoffRepeat := [], pauseOut := [], gates := []
             canPq := [], canTxb := [], canOrder := 0, canTx := [], stamps := [], undo := [] }
  col := []
  sge := ⟨[], [], [], [], [], [], [], 0, [], [], [], [], 0, 0, 0⟩
  tim := ⟨[], [], [], [], [], none, 0, 0, 0, 0, none, [], 0, [], none, none⟩
  vault := ⟨none, none, [], [], [], [], [], [], 0, 0, 0, [], [], .bypass⟩
  cip := ⟨[], [], [], [], [], [], [], [], [], [], []⟩
  recd := ⟨[], none, [], 0, [], [], 0, none, [], 0, 0⟩
  rxu := ⟨[], [], none, none, [], [], false, false, true, none, 0, 0, some 0, false⟩
  ports := ⟨0, 0, [], [], [], [], [], [], []⟩
  survey := ⟨[], 100, none, 0, 0, 0⟩
  nm := ⟨[], [], [], [], [], [], [], [], [], [], [], [], []⟩
  gaf := { inReset := true, tst := false, dwellNs := 0, idleNs := 0, moveNs := 0, latched := false, hostWakeNs := 0, lowBatt := 0
           lowBattOwed := false, lidWarn := false, lidLimit := false, resuming := false, retried := 0
           sheetDigest := [], resumeValid := false, ppsOff := false, keepLost := true, sleepNs := 0, sleepCount := 0, alarmNs := none }
  upd := Upd.delivered }

end Sys2Proof.Machine
end

