-- ==== Sys2Proof/WellFormed.lean ====
section
/-! DEFINITION. Which commands name units that the module has: operand ranges, from the counts of ports, channels,
queues, units and slots that the chapters give. A command outside its range is no command of the block. -/

namespace Sys2Proof

/-- Port of a BASE-T1 PHY or the backbone: 0 to 17 (R2). -/
def ethNo (p : Nat) : Bool := p ≤ 17

/-- Any port: 0 to 44 (R2). -/
def portNo (p : Nat) : Bool := p ≤ 44

/-- A segment of network management: ports 0 to 15 and 20 to 43 (R332). -/
def segNo (p : Nat) : Bool := p ≤ 15 || (20 ≤ p && p ≤ 43)

/-- CAN channel 0 to 15. -/
def canNo (n : Nat) : Bool := n ≤ 15

/-- LIN channel 0 to 7. -/
def linNo (m : Nat) : Bool := m ≤ 7

/-- Operand ranges of one survey item (R43). -/
def SurveyItem.wf : SurveyItem → Bool
  | .vbat feed mv => decide (feed ≤ 1 ∧ mv < 0x10000)
  | .rail k mv => decide (k ≤ 7 ∧ mv < 0x10000)
  | .temp k d => decide (k ≤ 3 ∧ -2000 ≤ d ∧ d ≤ 4000)
  | .can n _ _ _ _ st => canNo n && decide (st ≤ 15)
  | .canNoIdle n => canNo n
  | .eth p st _ => decide (p ≤ 15 ∧ st ≤ 15)
  | .lin m st _ _ => linNo m && decide (st ≤ 15)
  | .sw k _ => decide (k ≤ 7)
  | .so k st _ => decide (k ≤ 3 ∧ st ≤ 15)

/-- Operand ranges of a wake source (R343, R345). -/
def WakeSource.wf : WakeSource → Bool
  | .canWup n => canNo n
  | .canWuf n _ => canNo n
  | .tc10 p => decide (p ≤ 11)
  | .lin m _ => linNo m
  | .switch k => decide (k ≤ 7)
  | .wakeReq => true
  | .alarm => true

/-- The command's operands name units that exist. -/
def Instr.wf : Instr → Bool
  | .cplPopRead _ k _ _ _ => decide (k ≤ 63)
  | .canTermMeasureDone n _ _ _ _ st => canNo n && decide (st ≤ 15)
  | .canTermNoIdle n => canNo n
  | .reflectometryDone g rs => decide (g ≤ 3) && rs.all (fun r => decide (r.1 ≤ 15 ∧ r.2.1 ≤ 15))
  | .canRoleSwap n => canNo n
  | .surveyComplete items => items.all SurveyItem.wf
  | .unitPowerStep u _ _ _ _ => decide (1 ≤ u ∧ u ≤ 11)
  | .frameReceive p _ _ => ethNo p
  | .frameLookup p _ _ colAt _ => decide (p ≤ 43 ∧ colAt ≤ 1023)
  | .frameTail p _ _ => ethNo p
  | .wmClrStats _ w => decide (w ≤ 63)
  | .spillCopy d _ => decide (d ≤ 63)
  | .refillCopy d _ => decide (d ≤ 63)
  | .egressSelect p _ _ => decide (p ≤ 19 ∨ p = 44)
  | .frameTxStart p _ => decide (p ≤ 19 ∨ p = 44)
  | .frameTxComplete p _ => decide (p ≤ 19 ∨ p = 44)
  | .gateEntryChange p _ => decide (p ≤ 17 ∨ 20 ≤ p ∧ p ≤ 35)
  | .canPqMove n _ => canNo n
  | .canArbitrationStart n => canNo n
  | .pauseReceived p _ _ _ _ => ethNo p
  | .pauseExpire p c => ethNo p && decide (c ≤ 7)
  | .pauseRepeat p c => ethNo p && decide (c ≤ 7)
  | .lpiEnter p _ => ethNo p
  | .freezeComplete _ _ l => l.all (fun x => decide (x.1 ≤ 3))
  | .linkUp p r _ _ _ _ => ethNo p && decide (1 ≤ r ∧ r ≤ 7)
  | .linkDown p => ethNo p
  | .linkHoldExpire p => decide (p ≤ 43)
  | .anFail p _ => ethNo p
  | .ethRestart _ p _ => ethNo p
  | .plcaBeaconLoss p => ethNo p
  | .plcaBeaconReceived p => ethNo p
  | .stepWindow p _ _ _ _ _ => ethNo p
  | .stepComplete p _ => ethNo p
  | .stepFail p => ethNo p
  | .tc10SleepRequestRx p => decide (p ≤ 11)
  | .tc10HandshakeDone p => decide (p ≤ 11)
  | .sqiUpdate p q => ethNo p && decide (q ≤ 7)
  | .phyFault p => ethNo p
  | .holeTimeout c => decide (c ≤ 1023)
  | .recoveryReset c => decide (c ≤ 1023)
  | .latentTest c => decide (c ≤ 1023)
  | .latentReset c => decide (c ≤ 1023)
  | .encapWindowExpire e => decide (e ≤ 255)
  | .signalGroupApply t _ => decide (t ≤ 15)
  | .pduPeriodicTx l => decide (l ≤ 2047)
  | .pduGapEnd l => decide (l ≤ 2047)
  | .pduRxTimeout l => decide (l ≤ 2047)
  | .tpTimerExpire k => decide (k ≤ 67)
  | .tpBamPacket k => decide (k ≤ 67)
  | .j1939ClaimTimer n => canNo n
  | .j1939ClaimReceived n a _ => canNo n && decide (a ≤ 255)
  | .j1939RequestReceived n d => canNo n && decide (d ≤ 255)
  | .canIntegrated n => canNo n
  | .canFrameReceived n _ _ _ _ => canNo n
  | .canTxSuccess n _ _ v => canNo n && decide (v ≤ 127)
  | .canErrorDetected n _ _ _ _ v _ => canNo n && v.all (fun x => decide (x ≤ 127))
  | .canRecoveryComplete n => canNo n
  | .canRecover _ n _ => canNo n
  | .canDomTimeout n => canNo n
  | .canProtocolException n => canNo n
  | .lonelyProbe n => canNo n
  | .canTerminationApply n => canNo n
  | .canTrcvFault n => canNo n
  | .clapperSyncDue n => canNo n
  | .clapperAbandon n => canNo n
  | .followupAbandon n => canNo n
  | .linSlotStart m _ => linNo m
  | .linResponseReceived m i _ _ _ _ => linNo m && decide (i ≤ 63)
  | .linNoResponse m => linNo m
  | .linHeaderReceived m i _ _ _ _ => linNo m && decide (i ≤ 63)
  | .linBusStuck m => linNo m
  | .linGoToSleepRx m => linNo m
  | .linInactivity m => linNo m
  | .swSample mv => decide (mv.length = 8)
  | .swWakePoll k _ => decide (k ≤ 7)
  | .soDiag k _ _ _ _ _ _ => decide (k ≤ 3)
  | .soCooled k => decide (k ≤ 3)
  | .syncReceived d p _ _ _ _ => decide (d ≤ 1) && ethNo p
  | .syncTimeout d => decide (d ≤ 1)
  | .pdelayExchange p _ _ => ethNo p
  | .vaultDerive _ i _ => decide (i ≤ 2047)
  | .vaultGenerate _ i _ => decide (i ≤ 2047)
  | .vaultInvalidate _ i _ => decide (i ≤ 2047)
  | .vaultDelete _ i _ => decide (i ≤ 2047)
  | .cipherJobComplete lane _ _ _ _ => decide (lane ≤ 7)
  | .macsecSaInstall p sc slot an key _ _ _ _ _ => ethNo p && decide (sc ≤ 4 ∧ slot ≤ 1 ∧ an ≤ 3 ∧ key ≤ 2047)
  | .resyncAnnounceTx d slot => decide (d ≤ 255 ∧ slot ≤ 4095)
  | .resyncRequestRx n _ => canNo n
  | .resyncAnnounceRx n _ => canNo n
  | .resyncPartTimeout n d => canNo n && decide (d ≤ 255)
  | .nmRequestExpire p => segNo p
  | .silenceExpire p => segNo p
  | .wrapCommit p => segNo p
  | .mediumAsleep p => segNo p
  | .keepaliveTx p => segNo p
  | .keepaliveRx p => segNo p
  | .coupleHoldExpire p => segNo p
  | .wakeDetected src => src.wf
  | .falseWakeJudge i => decide (i ≤ 35)
  | .nmStuck p => segNo p
  | .faultLineAssert l => decide (l ≤ 127)
  | .resetUnitDone l => decide (l ≤ 127)
  | .reactionEscalate l => decide (l ≤ 127)
  | .shadowSettleEnd l => decide (l ≤ 127)
  | .lineTest l _ => decide (l ≤ 127)
  | .safeFrameDue b => decide (b ≤ 31)
  | .safeFrameLate b => decide (b ≤ 31)
  | .gapRecord r => decide (1 ≤ r ∧ r ≤ 3)
  | .sceneRequest _ t => decide (t ≤ 15)
  | .ringDoorbell k _ => decide (k ≤ 63)
  | .hostDescFetch k _ _ => decide (k ≤ 63)
  | .ringEnable _ k _ => decide (k ≤ 63)
  | .ringDisable _ k _ => decide (k ≤ 63)
  | .ringDmaError k => decide (k ≤ 63)
  | .completionCoalesceExpire k => decide (k ≤ 63)
  | .tsReqTimeout k => decide (k ≤ 67)
  | .cpInject _ sl _ => decide (sl ≤ 3)
  | .frameSelect _ w _ _ => decide (w ≤ 15)
  | .evtFifoPop _ t _ _ => decide (t ≤ 5)
  | .evtHoldoffExpire v => decide (v ≤ 63)
  | .chunkCommitted _ lost => decide (lost ≤ 4096)
  | .pcieLinkUp g w _ => decide (1 ≤ g ∧ g ≤ 4 ∧ (w = 1 ∨ w = 2 ∨ w = 4))
  | .canDriverCooled n => canNo n
  | .faultLineDeassert l => decide (l ≤ 127)
  -- commands with no unit among their operands, or with operands that every value spells
  | .registerWrite .. | .hostReservedRead .. | .popStallExpire .. | .stallLimitWrite .. | .cplFree .. | .powerOn ..
  | .powerFail .. | .powerRestart .. | .feedLost .. | .supplyRange .. | .tempMeasure .. | .coreRailRetry ..
  | .reservoirCharged .. | .sheetLoad | .polarityWindowEnd | .startConditionsEvaluate | .svyCmdGo .. | .snapGo ..
  | .snapSchedule | .snapComplete | .canConvert .. | .encapMessage .. | .unpack1722 .. | .signalFrame .. | .transportPacket ..
  | .soSet .. | .soClearLatch .. | .timeStep | .holdoverExpire | .timGmAdj .. | .stepToSet .. | .latch ..
  | .ppsPulse | .ppsLandFault | .clockCheck .. | .vaultImport .. | .rotateKem .. | .tamperDetected ..
  | .openRequest .. | .cipherJobPlace .. | .needEvaluate | .clearSuppress .. | .rungEvaluate .. | .dwellExpire
  | .rungReached .. | .holdEnter | .resumeComplete .. | .gafRungLimitWrite .. | .hostWakeAck .. | .hostWakeTimeout
  | .wakeReqNFall .. | .gafAlarmWrite .. | .alarmFire | .lowBattCheck .. | .enterSafe .. | .faultnPulseDone
  | .rxuFaultnWrite .. | .release .. | .releaseAuth .. | .rxuTableFault .. | .traceSampleAdjust | .trigger ..
  | .windowEnd | .unfreeze .. | .sceneSwitch | .updOpen .. | .updClose .. | .updCommit ..
  | .updVerify .. | .takeVerifyDone | .updActivate .. | .moduleReset | .updConfirm ..
  | .updDiscard .. | .updRestart .. | .updAttest .. | .attestReady | .sessionTimeout | .bootGood | .trialClockSave
  | .trialDeadline | .autoConfirm | .actPrepare | .actTimeReached | .udsSessionControl .. | .udsEcuReset ..
  | .udsReadDid .. | .udsWriteDid .. | .udsRoutineVerify .. | .udsRoutineActivate .. | .udsRoutineConfirm ..
  | .udsRoutineResults .. | .udsRequestDownload .. | .udsTransferData .. | .udsTransferExit ..
  | .udsUnsupportedService .. | .doipRoutingActivation .. | .stohalOpen .. | .stohalData .. | .stohalCommit
  | .stohalEnd | .stohalActivate | .stohalConfirm | .stohalStatus | .pcieReset | .transportRingWaitExpire
  | .evtTickPush | .mbxScene .. | .mbxInvalidate .. | .mbxFirmware .. | .mbxOther .. | .mbxAnswer ..
  | .mbxFirmwareTimeout | .spiWrite .. | .spiRead .. | .spiStatus | .ppsDriverReconnect | .holdExitBeforeSchedule => true

end Sys2Proof
end

