-- ==== Sys2Proof/Machine/Ops.lean ====
section
/-! DEFINITION. The named operations over registers, time, outputs, host rings, the recorder's rings and the event
router. Every command's meaning is written over these. -/

namespace Sys2Proof.Machine

-- The answer of a command --------------------------------------------------------------------------------------

-- Registers (R12 to R18) ----------------------------------------------------------------------------------------

/-- The word of the register at `a`: its stored value, or its reset value while nothing differs from it. -/
def rdw (s : State) (a : Nat) : Word :=
  match s.regs.get? a with
  | some w => w
  | none => resetWord a

/-- The register at `a` as a number. -/
def rd (s : State) (a : Nat) : Nat := (rdw s a).toNat

/-- Make the register at `a` hold `v`. -/
def wr (s : State) (a v : Nat) : State := { s with regs := s.regs.set a (BitVec.ofNat 32 v) (resetWord a) }

/-- Bits hi..lo of a number. -/
def fld (n hi lo : Nat) : Nat := (n >>> lo) % 2 ^ (hi - lo + 1)

/-- A number with bits hi..lo replaced by `v`. -/
def putFld (n hi lo v : Nat) : Nat := n - fld n hi lo * 2 ^ lo + v % 2 ^ (hi - lo + 1) * 2 ^ lo

/-- A field of the register at `a`. -/
def rdf (s : State) (a hi lo : Nat) : Nat := fld (rd s a) hi lo

/-- Write a field of the register at `a`, keeping its other bits. -/
def wrf (s : State) (a hi lo v : Nat) : State := wr s a (putFld (rd s a) hi lo v)

/-- Set write-1-to-clear bits of the register at `a`, those of the mask `m`: a clear of the same instant leaves them set
(R14). -/
def setBits (a m : Nat) (s : State) : State :=
  let s := wr s a (rd s a ||| m)
  { s with router := { s.router with w1cSet := s.router.w1cSet.put a (s.router.w1cSet.getD a 0 ||| m) } }

/-- One bit of the register at `a`. -/
def rdb (s : State) (a i : Nat) : Bool := (rd s a).testBit i

/-- A 64-bit counter, low word at `a` (R17). -/
def cnt (s : State) (a : Nat) : Nat := rd s a + 0x100000000 * rd s (a + 4)

/-- Set a 64-bit register pair. -/
def wrq (s : State) (a v : Nat) : State := wr (wr s a (v % 0x100000000)) (a + 4) (v / 0x100000000)

/-- Advance a 64-bit counter by `n`. -/
def addCnt (s : State) (a n : Nat) : State := wrq s a (cnt s a + n)

/-- Count one. -/
def inc (s : State) (a : Nat) : State := addCnt s a 1

-- Levels that follow other state, and the answer of a command -----------------------------------------------------

/-- The PCIe link is up: L0, L1 or L1.2. -/
def pcieUp (s : State) : Bool := 2 ≤ rdf s R.HDMA_STATUS 31 28

/-- The link carries DMA: it is up and Bus Master Enable is 1. -/
def dmaUp (s : State) : Bool := pcieUp s && rdb s R.HDMA_STATUS 2

/-- A to-host GENERAL ring has ENABLE = 1. -/
def anyToHost (s : State) : Bool :=
  (List.range 64).any (fun k => rdf s (R.HDMA_RING_CFG k) 31 28 == 8 && rdb s (R.HDMA_RING_CTRL k) 31)

/-- Port 18 is to be UP (R469), which a fence of line 18 denies it (R374). -/
def hpWant (s : State) : Bool := dmaUp s && anyToHost s && !rdb s (R.RXU_FENCED_LINES 0) 18

/-- Port 18's state, link and rate as its registers show them: UP and 25 Gbit/s, or DOWN (R463, R469). -/
def hpShow (s : State) : State :=
  let u := if hpWant s then 1 else 0
  wrf (wrf (wrf s R.HDMA_STATUS 1 1 u) R.PORT18_HP_STATE 31 28 (2 * u)) (R.SCH_PORT_STATE 18) 11 8 (7 * u)

/-- What stands after any command or tick: the queue is as it was, and port 18's registers follow its conditions. -/
def settle (s t : State) : State := hpShow { t with pending := s.pending }

/-- Present rung (GAF_RUNG CURRENT, R353). -/
def rung (s : State) : Nat := rdf s R.GAF_RUNG 2 0

/-- Commands of what the always-on domain and the line die do at every rung (R354). -/
def alwaysOnCmd : Instr → Bool
  | .powerOn .. | .powerFail .. | .powerRestart .. | .coreRailRetry .. | .tamperDetected .. | .openRequest .. | .wakeDetected ..
  | .swWakePoll .. | .rungEvaluate .. | .dwellExpire | .rungReached .. | .resumeComplete .. | .wakeReqNFall .. | .alarmFire
  | .lowBattCheck .. | .canDriverCooled .. | .ppsDriverReconnect => true
  | _ => false

/-- Commands of the fabric, the port islands and the engines, which have no power from Doze on (R354). -/
def fabricCmd : Instr → Bool
  | .frameReceive .. | .frameLookup .. | .frameTail .. | .spillCopy .. | .refillCopy .. | .egressSelect .. | .frameTxStart ..
  | .frameTxComplete .. | .gateEntryChange .. | .canPqMove .. | .canArbitrationStart .. | .pauseReceived .. | .pauseExpire ..
  | .pauseRepeat .. | .lpiEnter .. | .stepWindow .. | .holeTimeout .. | .recoveryReset .. | .latentTest .. | .latentReset ..
  | .canConvert .. | .encapMessage .. | .encapWindowExpire .. | .unpack1722 .. | .signalFrame .. | .signalGroupApply ..
  | .pduPeriodicTx .. | .pduGapEnd .. | .pduRxTimeout .. | .transportPacket .. | .tpTimerExpire .. | .tpBamPacket ..
  | .j1939ClaimTimer .. | .j1939ClaimReceived .. | .j1939RequestReceived .. | .clapperSyncDue .. | .linSlotStart ..
  | .syncReceived .. | .pdelayExchange .. | .cipherJobPlace .. | .cipherJobComplete .. | .resyncAnnounceTx ..
  | .resyncRequestRx .. | .resyncAnnounceRx .. | .hostDescFetch .. => true
  | _ => false

/-- Codes 0 and 1 are host requesters. -/
def reqIsHost : Requester → Bool
  | .hostPcie => true | .spi => true | _ => false

/-- Commands of the control cluster's and the safety pair's software and of the vault, which stand still in Doze (R354). -/
def clusterCmd : Instr → Bool
  | .vaultDerive .. | .vaultGenerate .. | .vaultInvalidate .. | .vaultDelete .. | .vaultImport .. | .rotateKem ..
  | .macsecSaInstall .. | .chunkCommitted .. | .takeVerifyDone .. | .attestReady | .bootGood | .autoConfirm
  | .udsSessionControl .. | .udsEcuReset .. | .udsReadDid .. | .udsWriteDid .. | .udsRoutineVerify .. | .udsRoutineActivate ..
  | .udsRoutineConfirm .. | .udsRoutineResults .. | .udsRequestDownload .. | .udsTransferData .. | .udsTransferExit ..
  | .udsUnsupportedService .. | .doipRoutingActivation .. | .stohalOpen .. | .stohalData .. | .stohalCommit .. | .stohalEnd ..
  | .stohalActivate .. | .stohalConfirm .. | .stohalStatus .. => true
  | .sceneRequest q _ => !reqIsHost q
  | _ => false

/-- The unit that a command is one of has power at the present rung (R354). -/
def acts (s : State) (i : Instr) : Bool :=
  alwaysOnCmd i || (if fabricCmd i || clusterCmd i then decide (rung s ≤ 1) else decide (rung s ≤ 2))

/-- A command whose operands name units that exist answers the state `t` its meaning gives from `s`, settled; one of a unit
without power happens to no one and changes nothing. -/
def run (s : State) (i : Instr) (t : State) : Host.Outcome State Fault Refusal :=
  if i.wf then .next (settle s (if acts s i then t else s)) else .refused .noSuchUnit

-- Time, outputs, free values ------------------------------------------------------------------------------------

/-- The device tick: µs of device time (R11). -/
def tickOf (s : State) : Nat := s.devNs / 1000

/-- The next device tick boundary, strictly later than now (R269). -/
def nextTick (s : State) : Nat := (s.devNs / 1000 + 1) * 1000

/-- Device time in ms. -/
def msOf (s : State) : Nat := s.devNs / 1000000

/-- Record an output. -/
def emit (o : Out) (s : State) : State := { s with out := o :: s.out }

/-- The next free value, and the state that has drawn it (log entry 3). -/
def free (s : State) : Nat × State := (Config.freeNat s.drawn, { s with drawn := s.drawn + 1 })

/-- The addressed bytes of a word, the others 0 (R12). -/
def addressed (be : BitVec 4) (w : Nat) : Nat :=
  ((List.range 4).filter (fun i => be.getLsbD i)).foldl (fun n i => n + fld w (8 * i + 7) (8 * i) * 2 ^ (8 * i)) 0

/-- The word a read answers. -/
def answer (v : List Nat) (s : State) : State := { s with readData := v }

-- Requesters (R455) ---------------------------------------------------------------------------------------------

/-- Requester codes 0 to 6 of R455. -/
def reqCode : Requester → Nat
  | .hostPcie => 0 | .spi => 1 | .safetyPair => 2 | .hart0 => 3 | .hart1 => 4 | .hart2 => 5 | .hart3 => 6

-- Queues and ports (R2 to R6) -----------------------------------------------------------------------------------

/-- Queue of port p and class c (R6). -/
def qOf (p c : Nat) : Nat := 8 * p + c

def isEthPort (p : Nat) : Bool := p ≤ 17
def isCanPort (p : Nat) : Bool := 20 ≤ p && p ≤ 35
def isLinPort (p : Nat) : Bool := 36 ≤ p && p ≤ 43
def isBusPort (p : Nat) : Bool := 20 ≤ p && p ≤ 43
/-- Vehicle-side ports 0 to 15 and 20 to 43 (R379). -/
def isVehiclePort (p : Nat) : Bool := p ≤ 15 || (20 ≤ p && p ≤ 43)

/-- Link state of the pool: 0 UP, 1 HOLD, 2 DOWN (CPL_PORT_STATE). -/
def linkState (s : State) (p : Nat) : Nat := rdf s (R.CPL_PORT_STATE p) 9 8

/-- The scene in force (UPD_SCENE CURRENT). -/
def scene (s : State) : Nat := rdf s R.UPD_SCENE 3 0

/-- Safe state is in force (RXU_STATUS STATE). -/
def inSafe (s : State) : Bool := rdf s R.RXU_STATUS 31 28 != 0

/-- The call sheet has gone live or limp is in force: IN_FORCE other than none (R411, R412). -/
def sheetLive (s : State) : Bool := rdf s R.UPD_SHEET_STATUS 19 18 != 3

/-- The limp configuration is in force. -/
def limp (s : State) : Bool := rdf s R.UPD_SHEET_STATUS 19 18 == 2

-- MSI-X and completions (R459, R466, R472) ----------------------------------------------------------------------

/-- Send MSI-X vector `v`, or set its pending bit while it is masked. -/
def msix (v : Nat) (s : State) : State :=
  if s.router.msixMask.testBit v then
    { s with router := { s.router with msixPend := s.router.msixPend ||| 2 ^ v } }
  else emit (.msix v) (inc s (R.HDMA_CNT 1))

/-- Signal an event on vector `v`: at once, or owed to the end of the holdoff (R472). -/
def eventSignal (v : Nat) (s : State) : State :=
  let hold := rdf s R.EVT_VEC_HOLDOFF 15 0 * 1000
  match s.router.vecs.get? v with
  | some ve =>
    if s.devNs < ve.lastNs + hold then
      { s with router := { s.router with vecs := s.router.vecs.put v { ve with owed := true } } }
    else msix v { s with router := { s.router with vecs := s.router.vecs.put v ⟨s.devNs, false⟩ } }
  | none => msix v { s with router := { s.router with vecs := s.router.vecs.put v ⟨s.devNs, false⟩ } }

/-- Ring k's size in descriptors. -/
def ringSize (s : State) (k : Nat) : Nat := 2 ^ rdf s (R.HDMA_RING_CFG k) 27 24

/-- Ring k runs (HDMA_RING_STATE STATE 1). -/
def ringRunning (s : State) (k : Nat) : Bool := rdf s (R.HDMA_RING_STATE k) 31 28 == 1

/-- Posted descriptors of ring k not yet consumed. -/
def ringPosted (s : State) (k : Nat) : Nat :=
  (rdf s (R.HDMA_RING_IDX k) 15 0 + 0x10000 - rdf s (R.HDMA_RING_IDX k) 31 16) % 0x10000

/-- What stands in Q(384 + k), oldest first (R468). -/
def flightsOf (s : State) (k : Nat) : List Flight := s.host.flights.getD k []

/-- Posted descriptors of to-host ring k that nothing is placed on yet. -/
def ringFree (s : State) (k : Nat) : Nat := ringPosted s k - (flightsOf s k).length

/-- The first descriptor of ring k that nothing is placed on: address, length, flags. -/
def ringDesc (s : State) (k : Nat) : Nat × Nat × Nat :=
  s.host.descs.getD (1024 * k + (rdf s (R.HDMA_RING_IDX k) 31 16 + (flightsOf s k).length) % ringSize s k) (0, 0, 0)

/-- Signal ring k's unsignalled completions. -/
def ringSignal (k : Nat) (s : State) : State :=
  msix (rdf s (R.HDMA_RING_CFG k) 21 16) { s with host := { s.host with unsig := s.host.unsig.del k } }

/-- Write ring k's next completion, advance CONS and signal as COAL_N and COAL_US say (R466). -/
def complete (k status kind tc src len timeNs : Nat) (coarse : Bool) (s : State) : State :=
  let cons := rdf s (R.HDMA_RING_IDX k) 31 16
  let size := ringSize s k
  let phase := rdf s (R.HDMA_RING_STATE k) 16 16
  let w0 := phase * 2 ^ 31 + (if coarse then 2 ^ 30 else 0) + tc * 2 ^ 27 + src * 2 ^ 21 + status * 256 + kind
  let addr := cnt s (R.HDMA_RING_CMPL k) + 16 * (cons % size)
  let s := emit (.completion k addr w0 len timeNs) s
  let s := inc s (R.HDMA_RING_CNT k 0)
  let s := wrf s (R.HDMA_RING_IDX k) 31 16 (cons + 1)
  let s := if (cons + 1) % size = 0 then wrf s (R.HDMA_RING_STATE k) 16 16 (1 - phase) else s
  let u := s.host.unsig.getD k (0, s.devNs)
  let s := { s with host := { s.host with unsig := s.host.unsig.put k (u.1 + 1, u.2) } }
  if rdf s (R.HDMA_RING_CTRL k) 15 0 = 0 ∨ max 1 (rdf s (R.HDMA_RING_CTRL k) 23 16) ≤ u.1 + 1 then ringSignal k s else s

-- Event sources (R472, R473) ------------------------------------------------------------------------------------

/-- The block status register and bit of an event source that has one (tables of the block chapters). -/
def evtReg (src : Nat) : Option (Nat × Nat) :=
  if src < 96 then none else
  if src < 128 then some (R.CPL_EVT_STATUS, src - 96) else
  if src < 160 then some (R.LKU_EVT_STATUS, src - 128) else
  if src < 192 then some (R.SCH_EVT_STATUS, src - 160) else
  if src < 224 then some (R.COL_EVT_STATUS, src - 192) else
  if src < 256 then some (R.SGE_EVT_STATUS, src - 224) else
  if src < 288 then some (R.TIM_EVT_STATUS, src - 256) else
  if src < 320 then some (R.CIP_EVT_STATUS, src - 288) else
  if src < 352 then some (R.VLT_EVT_STATUS, src - 320) else
  if src < 376 then some (R.GAF_NM_EVT_STATUS, src - 352) else
  if src < 384 then none else
  if src < 408 then some (R.GAF_EVT_STATUS, src - 384) else
  if src < 416 then none else
  if src < 444 then some (R.RXU_EVT_STATUS, src - 416) else
  if src < 448 then none else
  if src < 480 then some (R.REC_EVT_STATUS, src - 448) else
  if src < 492 then some (R.UPD_EVT_STATUS, src - 480) else
  if src < 496 then some (R.UPD_SHEET_EVT_STATUS, src - 492) else
  if src < 508 then some (R.HDMA_EVT_STATUS, src - 496) else
  if src < 510 then none else
  if src = 510 then some (R.HDMA_EVT_STATUS, 14) else none

/-- Sources raised at every occurrence, whatever their status bit holds (R75, R109, R139, R160, R190, R285, R306, R331,
R352, R372, R398, R416, R453, R480). -/
def alwaysRaised (src : Nat) : Bool :=
  [96, 106, 135, 173, 174, 197, 201, 239, 266, 322, 323, 334, 291, 292, 301, 302, 304, 305, 357, 365, 390, 393,
   416, 417, 419, 420, 421, 423, 425, 431, 432, 433, 434, 435, 458, 487, 489, 491, 493, 500, 502, 507].contains src

/-- Route a raised source: host pending bit, FIFOs of the tick, vector and core interrupts (R472, R473). -/
def route (src : Nat) (s : State) : State :=
  let hr := rd s (R.EVT_HOST_ROUTE src)
  let fw := rd s (R.EVT_FW_ROUTE src)
  let host := hr.testBit 31
  let mask := (if host then 1 else 0) + (if fw.testBit 31 then 2 else 0) + 4 * (fw % 16)
  let s := if host then
      eventSignal (hr % 64) (setBits (R.EVT_HOST_PEND (src / 32)) (2 ^ (src % 32)) s)
    else s
  let s := forEach (bitsOf (fw % 16) 4) (fun h s => emit (.irq h) s) s
  let s := if fw.testBit 31 then emit (.irq 4) s else s
  if mask = 0 then s
  else { s with router := { s.router with tick := s.router.tick ++ [⟨tickOf s, src, mask⟩] } }

-- NAND layout (R418) --------------------------------------------------------------------------------------------

/-- Regions of the 512 MiB NAND. -/
inductive NandRegion where
  | loader0 | loader1 | bootPointer | attest | takeA | takeB | incident | spare
  deriving DecidableEq, Repr

/-- Logical start of a region. -/
def NandRegion.start : NandRegion → Nat
  | .loader0 => 0 | .loader1 => 0x800000 | .bootPointer => 0x1000000 | .attest => 0x1200000 | .takeA => 0x1600000
  | .takeB => 0x7600000 | .incident => 0xD600000 | .spare => 0x19600000

/-- Size of a region in bytes. -/
def NandRegion.bytes : NandRegion → Nat
  | .loader0 | .loader1 => 8 * 0x100000 | .bootPointer => 2 * 0x100000 | .attest => 4 * 0x100000
  | .takeA | .takeB => 96 * 0x100000 | .incident => 192 * 0x100000 | .spare => 106 * 0x100000

/-- Logical address of page n of boot-pointer copy 0 or 1 (groups 0, 1) or floor copy 0 or 1 (groups 2, 3): four blocks of 64
pages of 2 KiB each (R418, R419). -/
def recordPage (group n : Nat) : Nat := NandRegion.bootPointer.start + (group * 256 + n % 256) * 2048

/-- Logical address of the chunk log page of index i of a take: the log fills the region's last MiB (R418, R428). -/
def chunkLogPage (r : NandRegion) (i : Nat) : Nat := r.start + r.bytes - 0x100000 + i * 2048

/-- Program a record in both copies: it takes their next free page; the oldest block is erased as it is entered (R419). -/
def recProgram (b : List Byte) (c : RecPages) : RecPages :=
  let free (m : SMap (List Byte)) : SMap (List Byte) := if c.next % 64 = 0 then m.filter (fun e => e.1 / 64 != c.next / 64) else m
  ⟨(free c.copy0).put c.next b, (free c.copy1).put c.next b, (c.next + 1) % 256⟩

/-- The valid record of a kind: of those that are `ok`, across both copies, the one with the highest SEQ, at offset 4 (R419). -/
def recValid (ok : List Byte → Bool) (c : RecPages) : Option (List Byte) :=
  (((c.copy0 ++ c.copy1).map Prod.snd).filter ok).foldl (fun best b => match best with
    | none => some b
    | some a => if leAt a 4 4 < leAt b 4 4 then some b else some a) none

-- Recorder rings (R386 to R391) ---------------------------------------------------------------------------------

/-- Bytes of a record, slate included, a multiple of 32 (R386). -/
def Rec.len (r : Rec) : Nat := 32 + ceilDiv r.body.length 32 * 32

/-- Size of recorder ring r in bytes. -/
def recRingBytes (s : State) (r : Nat) : Nat := rdf s (R.REC_RING r) 27 16 * 0x100000

/-- Bytes a ring holds. -/
def recsBytes (l : List Rec) : Nat := (l.map Rec.len).foldl (· + ·) 0

/-- Drop the oldest records that are not to be kept until `excess` bytes outside the gap reserve are free of them (R387). -/
def dropOldest (keep : Rec → Bool) (excess : Nat) : List Rec → List Rec
  | [] => []
  | r :: t =>
    if excess = 0 then r :: t
    else if keep r then r :: dropOldest keep excess t
    else dropOldest keep (excess - (if r.kind = 5 then 0 else r.len)) t

/-- Note a loss of ring r for its next gap record (R389): reason bit, records, bytes. -/
def noteLoss (r reason bytes : Nat) (s : State) : State :=
  let g := s.recd.gaps.getD r ⟨0, 0, 0, 0, 0⟩
  { s with recd := { s.recd with gaps := (s.recd.gaps.put r
      ⟨g.records + 1, g.bytes + bytes, g.sampled, g.sampledBytes, g.reasons ||| 2 ^ reason⟩) } }

/-- Loss counter of a ring: LOGS_LOST, CAPTURES_LOST, TRACES_LOST. -/
def lossCnt (r : Nat) : Nat := if r = 1 then 3 else if r = 2 then 5 else 8

/-- Put record x, numbered `seq`, behind a ring's records; those of one device tick stand in source-number order, and take
their numbers by place (R386), but for those that the host stream has already had (R391). -/
def recInsert (x : Rec) (seq : Nat) (l : List Rec) : List Rec :=
  let later (r : Rec) : Bool := r.devNs / 1000 == x.devNs / 1000 && decide (x.source < r.source) && (!x.fresh || r.fresh)
  let tail := (l.reverse.takeWhile later).reverse
  l.take (l.length - tail.length) ++ { x with seq := ((tail.head?).map Rec.seq).getD seq } ::
    tail.map (fun r => { r with seq := (r.seq + 1) % 0x10000 })

/-- The words of a LOG record for source `src`: the raising block's EVT_STATUS, and its cause word where it has one. -/
def logWords (s : State) (src : Nat) : Nat × Nat :=
  if src < 96 then (rd s (R.PORT_EVT_STATUS_ETH (src % 48)), 0)
  else if src = 508 ∨ src = 509 then (rd s R.SNAP_EVT_STATUS, 0)
  else
    let ev := match evtReg src with
      | some (a, _) => rd s a
      | none => 0
    (ev, if 416 ≤ src ∧ src < 444 then rd s R.RXU_CAUSE else if 448 ≤ src ∧ src < 480 then rd s R.REC_TRIG_CAUSE else 0)

/-- The DRAM takes what waits to be written, 8 Gbit/s or one byte a ns, ALARM and GAP first, then LOG, then CAPTURE, and
nothing while the spill has it (R389). -/
def recDrain (s : State) : State :=
  let n := s.devNs - max s.recd.drainNs (min s.devNs s.recd.spillNs)
  let w (c : Nat) : Nat := s.recd.bufs.getD c 0
  let a := n - w 0
  let b := a - w 1
  let bufs := ((s.recd.bufs.set 0 (w 0 - n) 0).set 1 (w 1 - a) 0).set 2 (w 2 - b) 0
  { s with recd := { s.recd with bufs := bufs, drainNs := s.devNs } }

/-- The spill moves n bytes to or from the DRAM at its 40 Gbit/s, before the recorder (R98). -/
def spillTakes (n : Nat) (s : State) : State :=
  let s := recDrain s
  { s with recd := { s.recd with spillNs := max s.devNs s.recd.spillNs + n / 5 } }

/-- A record of class c with n bytes waits to be written; answers whether its on-die buffer has room: 16 KiB for LOG, 512
captures of 128 bytes (R389). -/
def recBuffer (c n : Nat) (s : State) : Bool × State :=
  let s := recDrain s
  let w := s.recd.bufs.getD c 0
  if (c = 1 ∧ 0x4000 < w + n) ∨ (c = 2 ∧ 0x10000 < w + n) then (false, s)
  else if 3 ≤ c then (true, s)
  else (true, { s with recd := { s.recd with bufs := s.recd.bufs.set c (w + n) 0 } })

/-- Bytes of a list's gap records, which alone use a ring's reserve, and of its others (R387). -/
def gapBytes (l : List Rec) : Nat := recsBytes (l.filter (fun r => r.kind == 5))

def plainBytes (l : List Rec) : Nat := recsBytes (l.filter (fun r => r.kind != 5))

/-- Bytes that ring r has for record x: 64 KiB for gap records, the rest for the others (R387). -/
def recRoom (s : State) (r : Nat) (gap : Bool) : Nat :=
  let size := recRingBytes s r
  if gap then min 0x10000 size else size - 0x10000

/-- Write record x into ring r behind the records `kept` of it: the ring's number, head and tail follow (R386). -/
def recAppend (r : Nat) (x : Rec) (kept : List Rec) (s : State) : State :=
  let size := max 1 (recRingBytes s r)
  let seq := rdf s (R.REC_RING_STATE r) 15 0
  let s := { s with recd := { s.recd with rings := s.recd.rings.put r (recInsert x seq kept) } }
  let s := wrf s (R.REC_RING_STATE r) 15 0 (seq + 1)
  wr s (R.REC_RING_HEAD r) ((rd s (R.REC_RING_HEAD r) + x.len) % size)

/-- Ring r keeps `kept` of its records: its tail moves past the others (R387). -/
def recKeep (r : Nat) (kept : List Rec) (s : State) : State :=
  let old := s.recd.rings.getD r []
  let size := max 1 (recRingBytes s r)
  let s := { s with recd := { s.recd with rings := s.recd.rings.put r kept } }
  wr s (R.REC_RING_TAIL r) ((rd s (R.REC_RING_TAIL r) + (recsBytes old - recsBytes kept)) % size)

/-- Write a record into ring r. A gap record goes into the ring's reserve, and is not kept where that is full (R387, R389).
For any other the oldest outside the window give way, but no alarm does (R387, R388); one that finds the buffer of its class
full is lost with BUDGET, or SPILL_FIRST while the spill has the DRAM (R389; log entry 230). Answers whether it was kept. -/
def recPush (r : Nat) (x : Rec) (s : State) : Bool × State :=
  let gap := x.kind == 5
  let q := recBuffer (if gap then 0 else r) x.len s
  let s := q.2
  let old := s.recd.rings.getD r []
  if gap then
    if gapBytes old + x.len ≤ recRoom s r true then (true, recAppend r x old s) else (false, s)
  else if !q.1 then (false, noteLoss r (if s.devNs < s.recd.spillNs then 2 else 0) x.len s) else
  let room := recRoom s r false
  let keep (y : Rec) : Bool := r == 0 || s.recd.window.any (fun w => decide (w.startNs ≤ y.devNs ∧ y.devNs ≤ w.endNs))
  let kept := dropOldest keep (plainBytes old + x.len - room) old
  let s := recKeep r kept s
  if room < plainBytes kept + x.len then (false, noteLoss r 1 x.len s)
  else (true, recAppend r x kept s)

/-- Device time of the tick under way (R269, R277). -/
def tickTime (s : State) : Nat := s.devNs / 1000 * 1000

/-- The slate of a record dated now, by the device tick: COARSE (R277, R386). -/
def slate (s : State) (kind flags source aux : Nat) (body : List Byte) : Rec :=
  { kind := kind, flags := flags ||| 4, source := source, seq := 0, devNs := tickTime s,
    globalNs := s.globalNs - s.devNs % 1000, timeState := rdf s R.TIM_STATUS 7 6, aux := aux, body := body }

/-- A record's slate dated by a reception at device time t, which a timestamp unit stamped or else the device tick (R277,
R386). -/
def Rec.dated (x : Rec) (s : State) (stamped : Bool) (t : Nat) : Rec :=
  let t := if stamped then t else t / 1000 * 1000
  { x with flags := (if stamped then x.flags % 4 else x.flags ||| 4), devNs := t,
           globalNs := ((s.globalNs : Int) + t - s.devNs).toNat }

/-- The 32 slate bytes of a record, then its body padded (R386). -/
def Rec.bytes (r : Rec) : List Byte :=
  leBytes r.kind 1 ++ leBytes r.flags 1 ++ leBytes r.len 2 ++ leBytes r.source 2 ++ leBytes r.seq 2 ++
  leBytes r.devNs 8 ++ leBytes (r.globalNs / 1000000000) 6 ++ leBytes (r.globalNs % 1000000000) 4 ++
  leBytes r.timeState 1 ++ [0] ++ leBytes r.aux 4 ++ padTo r.body (r.len - 32)

/-- A descriptor of a to-host ring is out of range: LEN below 64, or bits in FLAGS (R462). -/
def descBad (d : Nat × Nat × Nat) : Bool := decide (d.2.1 < 64) || d.2.2 != 0

/-- KIND of the completions of ring k's user and direction (R461, R466). -/
def ringKind (s : State) (k : Nat) : Nat :=
  if rdb s (R.HDMA_RING_CFG k) 30 then 3 else rdf s (R.HDMA_RING_CFG k) 29 28

/-- The time of a record comes from the device tick (R277, R386). -/
def Rec.coarse (r : Rec) : Bool := r.flags.testBit 2

/-- Records of ring class `cls` are copied to the host stream (R391). -/
def recStreamed (s : State) (cls : Nat) : Bool := rdb s R.REC_STREAM 31 && rdb s R.REC_STREAM (30 - cls)

/-- Write a record into ring r; where its class is streamed it waits for the end of its device tick, when its number in the
ring is settled (R386, R391). Answers whether it was kept. -/
def recStore (r : Nat) (x : Rec) (s : State) : Bool × State := recPush r { x with fresh := recStreamed s r } s

/-- Write a LOG record (R386), counted as kept or lost. -/
def logStore (x : Rec) (s : State) : State :=
  let r := recStore 1 x s
  inc r.2 (if r.1 then R.REC_CNT 2 else R.REC_CNT 3)

/-- Write a trigger's record (R386, R392); one that finds no room is a loss of the LOG class (R389). -/
def triggerStore (kind src : Nat) (s : State) : State :=
  let r := recPush 1 (slate s 6 0 src src (leBytes kind 16)) s
  if r.1 then r.2 else inc r.2 (R.REC_CNT 3)

/-- Recording: the recorder is past load (REC_STATUS STATE other than OFF). -/
def recOn (s : State) : Bool := rdf s R.REC_STATUS 31 28 != 0

/-- A move to Sleep or below is under way: the sleep save is written (R359, R394). -/
def savesForSleep (s : State) : Bool := rdb s R.GAF_RUNG 8 && decide (3 ≤ rdf s R.GAF_RUNG 6 4)

/-- Open a window, or join the one in force or the sleep save (R392, R395). -/
def openWindow (kind src : Nat) (s : State) : State :=
  if rdf s R.REC_STATUS 31 28 = 1 ∧ savesForSleep s = false then
    let pre := rdf s R.REC_WINDOW_CFG 31 16 * 1000000
    let post := rdf s R.REC_WINDOW_CFG 15 0 * 1000000
    let s := { s with recd := { s.recd with window := some ⟨s.devNs, tickTime s - pre, s.devNs + post⟩ } }
    let s := wrq s R.REC_TRIG_TIME s.devNs
    let s := wr s R.REC_TRIG_CAUSE (kind * 2 ^ 28 + src % 512)
    let s := forEach [0, 1, 2, 3] (fun r s => wrf s (R.REC_RING_STATE r) 31 31 1) s
    inc (wrf s R.REC_STATUS 31 28 2) (R.REC_CNT 10)
  else
    let held := rdf s R.REC_STATUS 31 28 = 4
    inc { s with recd := { s.recd with joined := if held then some (s.devNs, kind, src) else s.recd.joined } } (R.REC_CNT 11)

/-- Hold is left for Run: PCIe returns from L1, and every dwell restarts (R357, R358, R366). -/
def leaveHold (s : State) : State :=
  let s := wrf (wrf s R.GAF_RUNG 2 0 0) R.GAF_START 6 4 1
  let s := if rdf s R.HDMA_STATUS 31 28 = 3 then wrf s R.HDMA_STATUS 31 28 2 else s
  { s with gaf := { s.gaf with dwellNs := s.devNs, idleNs := s.devNs } }

/-- Raise event source `src`, with what a raise itself brings about: gating by the block's status bit, the route, the
leave of Hold (R358), the LOG record (R386) and a trigger (R392). `fuel` bounds the chain of raises. -/
def raiseN : Nat → Nat → State → State
  | 0, _, s => s
  | n + 1, src, s =>
    let was := match evtReg src with
      | some (a, b) => rdb s a b
      | none => false
    let s := match evtReg src with
      | some (a, b) => setBits a (2 ^ b) s
      | none => s
    if was && !alwaysRaised src then s else
    let s := route src s
    let s := if rung s = 1 then
        -- leaving Hold brings PCIe back to L0: a change of LINK (R480)
        let t := raiseN n 384 (leaveHold s)
        if rdf s R.HDMA_STATUS 31 28 = 3 then raiseN n 501 t else t
      else s
    if !recOn s then s else
    let s := if rdb s (R.REC_EVT_MASK (src / 32)) (src % 32) then
        let w := logWords s src
        logStore (slate s 2 0 src src (leBytes w.1 4 ++ leBytes w.2 4 ++ List.replicate 8 0)) s
      else s
    if rdb s (R.REC_TRIG_MASK (src / 32)) (src % 32) then
      raiseN n 448 (openWindow 2 src (triggerStore 2 src s))
    else s

/-- Raise an event source. -/
def raise (src : Nat) (s : State) : State := raiseN 6 src s

/-- Hold is left for Run (R358). -/
def holdExit (s : State) : State :=
  if rung s = 1 then
    let t := raise 384 (leaveHold s)
    if rdf s R.HDMA_STATUS 31 28 = 3 then raise 501 t else t
  else s

/-- A frame is received or sent: Hold is left, and idleness starts afresh (R358). -/
def activity (s : State) : State :=
  let s := holdExit s
  { s with gaf := { s.gaf with idleNs := s.devNs } }

/-- Count one and raise a source. -/
def incRaise (a src : Nat) (s : State) : State := raise src (inc s a)

/-- Rank of a requester of the scene switch, of the vault and of attestation: safety pair, cluster, host (R291, R414). -/
def reqRank (r : Requester) : Nat := if r = .safetyPair then 0 else if reqIsHost r then 2 else 1

/-- A mailbox command completes (R475). -/
def mbxDone (result response : Nat) (s : State) : State :=
  raise 496 (inc (wr s R.HDMA_MBX_STATUS (response % 0x10000 * 256 + result)) (R.HDMA_CNT 3))

/-- A trigger of kind 0 HOST, 1 LINE, 3 SAFE_STATE (R392): its record, the window, source 448. -/
def trigger (kind src : Nat) (s : State) : State :=
  if !recOn s then s else
  raise 448 (openWindow kind src (triggerStore kind src s))

/-- The recorder's rings restart empty, with no window (R389, R394). -/
def recRestart (s : State) : State :=
  if !recOn s then s else
  let s := { s with recd := { s.recd with rings := [], window := none, gaps := [], bufs := [] } }
  let s := forEach [0, 1, 2, 3] (fun r s =>
    wrf (wrq (wr (wr s (R.REC_RING_HEAD r) 0) (R.REC_RING_TAIL r) 0) (R.REC_RING_FROZEN r) 0) (R.REC_RING_STATE r) 31 31 0) s
  wrf s R.REC_STATUS 31 28 1

/-- A port's cause `b` with its source: the cause bit is set and the source raised where the bit was 0 (R218, R247,
R267). `err` selects 48 + p. -/
def portCause (p b : Nat) (err : Bool) (s : State) : State :=
  let a := R.PORT_EVT_STATUS_ETH p
  let t := setBits a (2 ^ b) s
  if rdb s a b then t else raise (if err then 48 + p else p) t

-- Denied accesses (R13, R457) -----------------------------------------------------------------------------------

/-- The denying block's own DENIED source, for an address. -/
def deniedBy (a : Nat) (s : State) : State :=
  match a >>> 24 with
  | 0 => if a >>> 20 = 1 then (if 0x104000 ≤ a ∧ a < 0x104200 then raise 446 s else raise 429 s)
         else if a >>> 20 = 0 then
           (if 0x4000 ≤ a ∧ a < 0x4100 then raise 446 s else if 0x5000 ≤ a then raise 364 s else raise 392 s)
         else s
  | 1 => let p := (a - 0x1000000) / 0x10000
         if isLinPort p then portCause p 7 false s
         else if isEthPort p || isCanPort p then portCause p 11 false s else s
  | 2 => raise 137 s
  | 3 => raise 108 s
  | 4 => raise 171 s
  | 5 => raise 199 s
  | 6 => raise 237 s
  | 7 => raise 265 s
  | 8 => raise 300 s
  | 9 => raise 332 s
  | 0xA => raise 456 s
  | 0xB => raise 483 s
  | _ => s

/-- An access reported DENIED: recorded, counted, source 502 (R457). -/
def denied (req : Requester) (a : Nat) (read : Bool) (s : State) : State :=
  let s := wr s R.HDMA_DENIED_ADDR a
  let s := wr s R.HDMA_DENIED_INFO (2 ^ 31 + (if read then 8 else 0) + reqCode req)
  raise 502 (inc s (R.HDMA_CNT 2))

/-- A write refused as DENIED: R457 and the block's own source. -/
def deniedWrite (req : Requester) (a : Nat) (s : State) : State := denied req a false (deniedBy a s)

end Sys2Proof.Machine
end

