-- ==== Sys2Proof/Machine/Gates.lean ====
section
/-! DEFINITION. Time gates (R116 to R121): what a port's operative list says about a class now and later, the wire
length and the fit rule. -/

namespace Sys2Proof.Machine

/-- Entries of gate list l: gate states and interval in ns. -/
def gateEntries (s : State) (l : Nat) : List (Nat × Nat) :=
  (List.range (rdf s (R.GATE_LIST_CFG l) 8 0)).map
    (fun e => (rdf s (R.GATE_LIST_ENTRY l e) 7 0, rd s (R.GATE_LIST_ENTRY_4 l e)))

/-- Port p runs a list now. -/
def gateListOf (s : State) (p : Nat) : Option Nat := ((s.sched.gates.get? p).bind GateRun.list)

/-- Class c's gate of port p is open now (GATE_PORT STATES). -/
def gateOpen (s : State) (p c : Nat) : Bool :=
  if p ≤ 35 && p != 18 && p != 19 then rdb s (R.GATE_PORT p) c else true

/-- Length of the leading run of entries whose class-c gate equals `want`. -/
def runLen (c : Nat) (want : Bool) : List (Nat × Nat) → Nat
  | [] => 0
  | (g, i) :: t => if g.testBit c = want then i + runLen c want t else 0

/-- First start of list l's cycle at or after global time g, on a grid that runs before the base time too (R116; DESIGN CHOICE,
log entry 245). -/
def cycleStart (s : State) (l g : Nat) : Nat :=
  let cyc := rd s (R.GATE_LIST_CYCLE l)
  if cyc = 0 then g else
  let base := cnt s (R.GATE_LIST_BASE l)
  g + ((base : Int) - g).toNat % cyc + (if base < g then (cyc - (g - base) % cyc) % cyc else 0)

/-- The entries of a list in order from the one after `e`, through one whole cycle. -/
def entriesFrom (l : List (Nat × Nat)) (e : Nat) : List (Nat × Nat) := l.drop (e + 1) ++ l.take (e + 1)

/-- Entry of a list that lies `off` ns into its cycle: index, offset of its start, length. -/
def entryAt : List (Nat × Nat) → Nat → Nat → Nat → Nat × Nat × Nat
  | [], i, st, _ => (i, st, 0)
  | (_, n) :: t, i, st, off =>
    if off < st + n ∨ t = [] then (i, st, n) else entryAt t (i + 1) (st + n) off

/-- How far global time g lies in list l's cycle (R116). -/
def cycleOff (s : State) (l g : Nat) : Nat :=
  let cyc := rd s (R.GATE_LIST_CYCLE l)
  if cyc = 0 then 0 else (((g : Int) - cnt s (R.GATE_LIST_BASE l)) % cyc).toNat

/-- Gate states and lengths that follow an entry in its order: the list round and round, or, with a switch pending, the rest
of its cycle, the last entry extended, and what comes after it (R118). -/
def gateFollow (s : State) (l : Nat) (g : GateRun) : List (Nat × Nat) :=
  let es := gateEntries s l
  match g.pend with
  | none => entriesFrom es g.entry
  | some x =>
    let rest := es.drop (g.entry + 1)
    let fin := rest.foldl (fun n e => n + e.2) g.endNs
    let last := ((es.getLast?).map Prod.fst).getD 0xFF
    match x with
    | some m => rest ++ [(last, cycleStart s m fin - fin)] ++ gateEntries s m
    | none => rest ++ [(0xFF, 1)]

/-- Gate states and lengths that follow the entry in force: after a step of global time, those from the entry that its end
falls in (R119). -/
def gateAhead (s : State) (l : Nat) (g : GateRun) : List (Nat × Nat) :=
  if g.find then
    let es := gateEntries s l
    let off := cycleOff s l g.endNs
    let e := entryAt es 0 0 off
    let left := e.2.1 + e.2.2 - off
    ((es[e.1]?.map Prod.fst).getD 0xFF, left) :: gateFollow s l { g with entry := e.1, endNs := g.endNs + left }
  else gateFollow s l g

/-- Global time at which the open run of class c that is under way ends; none: it never closes (R120). -/
def gateClose (s : State) (p c : Nat) : Option Nat :=
  match s.sched.gates.get? p with
  | none => none
  | some g => match g.list with
    | none => none
    | some l =>
      let es := gateAhead s l g
      if es.all (fun x => x.1.testBit c) then none else some (g.endNs + runLen c true es)

/-- Start of the next open run of class c, or now while the gate is open; none: the list never opens it (R121). -/
def gateNextOpen (s : State) (p c : Nat) : Option Nat :=
  if gateOpen s p c then some s.globalNs else
  match s.sched.gates.get? p with
  | none => none
  | some g => match g.list with
    | none => some s.globalNs
    | some l =>
      let es := gateAhead s l g
      if es.any (fun x => x.1.testBit c) then some (g.endNs + runLen c false es) else none

/-- Longest run over the starts of a doubled list. -/
def longestFrom (c : Nat) : List (Nat × Nat) → List (Nat × Nat) → Nat
  | [], _ => 0
  | _ :: t, whole => max (runLen c true whole) (longestFrom c t (whole.drop 1))

/-- Longest unbroken open run of class c in the operative list of p; none: no list or never closing (R121). -/
def longestOpen (s : State) (p c : Nat) : Option Nat :=
  match gateListOf s p with
  | none => none
  | some l =>
    let es := gateEntries s l
    if es.all (fun x => x.1.testBit c) then none else some (longestFrom c es (es ++ es))

/-- Bit rate of rate code r (SCH_PORT_STATE RATE). -/
def rateBps (r : Nat) : Nat :=
  match r with
  | 1 => 10000000 | 2 => 100000000 | 3 => 1000000000 | 4 => 2500000000 | 5 => 5000000000 | 6 => 10000000000
  | 7 => 25000000000 | _ => 0

/-- Present speed of port p. -/
def portBps (s : State) (p : Nat) : Nat := rateBps (rdf s (R.SCH_PORT_STATE p) 11 8)

/-- Maximum frame length of port p; ports without one count at 9,216 (R79). -/
def maxFrame (s : State) (p : Nat) : Nat :=
  if p ≤ 18 then rdf s (R.LKU_PORT_CFG p) 13 0 else 9216

/-- Port p's SecY protects what it sends (R318). -/
def secyOn (s : State) (p : Nat) : Bool := isEthPort p && rdb s (R.CIP_SECY_CFG p) 31

/-- `n` frames pass port p's uncontrolled port: IN_BYPASS (8) or OUT_BYPASS (12) where its SecY is enabled (R318). -/
def bypass (p k n : Nat) (s : State) : State := if secyOn s p then addCnt s (R.CIP_PORT_CNT p k) n else s

/-- Frames that pass the uncontrolled port (R318): MAC control, gPTP (R274) and EAPOL. -/
def secBypass (b : List Byte) : Bool :=
  [0x8808, 0x888E].contains (beAt b 12 2) || ((beAt b 12 2 == 0x88F7) && (beAt b 0 6 == 0x0180C200000E))

/-- Bytes that MACSEC_OUT adds: SecTAG 8 or 16, ICV 16 (R112, R317). -/
def secyBytes (s : State) (p : Nat) : Nat :=
  if secyOn s p then (if rdb s (R.CIP_SECY_CFG p) 28 then 32 else 24) else 0

/-- Wire length W of a frame of `len` bytes on port p (R112). -/
def wireLen (s : State) (p len : Nat) : Nat := len + secyBytes s p + 20

/-- Transmit time in ns of w wire bytes at `bps`. -/
def txNs (w bps : Nat) : Nat := if bps = 0 then 0 else ceilDiv (w * 8 * 1000000000) bps

/-- The port is in low-power idle towards its partner (PORT_ETH_STATE LPI_TX). -/
def inLpi (s : State) (p : Nat) : Bool := isEthPort p && rdb s (R.PORT_ETH_STATE p) 22

/-- An Ethernet port's run-time record. -/
def ethPort (s : State) (p : Nat) : EthPort := s.ports.eth.getD p ⟨0, 0, 0, none, none, false, 0, 0, 0, 0, 0, 0, 0, 0, false, false⟩

def setEth (p : Nat) (c : EthPort) (s : State) : State := { s with ports := { s.ports with eth := s.ports.eth.put p c } }

/-- The port leaves low-power idle in transmit: for a copy, a MAC control frame, a step, or with its link (R229, R235). -/
def lpiExit (p : Nat) (s : State) : State :=
  if inLpi s p then
    let s := addCnt s (R.PORT_ETH_CNT p 13) (s.devNs - (ethPort s p).lpiSince)
    setEth p { ethPort s p with idleNs := s.devNs } (wrf s (R.PORT_ETH_STATE p) 22 22 0)
  else s

/-- The partner leaves low-power idle: receive-side low-power idle follows it (R229). -/
def lpiRxExit (p : Nat) (s : State) : State :=
  if isEthPort p && rdb s (R.PORT_ETH_STATE p) 21 then
    let s := addCnt s (R.PORT_ETH_CNT p 15) (s.devNs - (ethPort s p).lpiRxSince)
    wrf s (R.PORT_ETH_STATE p) 21 21 0
  else s

/-- The fit rule of ports 0 to 17 (R120). A port without a list has every gate open, unless an error in list memory closed
them (R139). -/
def fits (s : State) (p c w : Nat) : Bool :=
  match gateListOf s p with
  | none => gateOpen s p c
  | some _ =>
    if !gateOpen s p c then false else
    match gateClose s p c with
    | none => true
    | some close =>
      decide (s.globalNs + (if inLpi s p then rdf s (R.PORT_ETH_WAKE p) 15 0 else 0) + txNs w (portBps s p) ≤ close)

/-- First instant base + k × period after global time g (`strict`) or at or after it. -/
def nextInstant (base period g : Nat) (strict : Bool) : Nat :=
  if period = 0 then g + 1
  else if g < base then base - (base - g) / period * period + (if strict && (base - g) % period == 0 then period else 0)
  else
    let k := (g - base) / period
    if (g - base) % period = 0 ∧ strict = false then g else base + (k + 1) * period

/-- Clapper instants of channel n: BASE + OFFSET_US + k × PERIOD_MS, BASE a whole global second (R279). -/
def clapInstant (s : State) (n g : Nat) (strict : Bool) : Nat :=
  nextInstant (rdf s (R.TIM_CLAP_OFFSET n) 23 0 * 1000) (rdf s (R.TIM_CLAP_PERIOD n) 15 0 * 1000000) g strict

end Sys2Proof.Machine
end

