-- ==== Sys2Proof/Machine/Pool.lean ====
section
/-! DEFINITION. The cell pool (chapter 3): partitions and charges, admission of a copy, release and discard, watermark
units, XOFF, deep queues and flushes. -/

namespace Sys2Proof.Machine

/-- Cells of a frame of B bytes (R85). -/
def cellsOf (b : Nat) : Nat := ceilDiv b 128

/-- B of a pool frame: its bytes, header included for a bus frame (R85). -/
def PFrame.len (f : PFrame) : Nat := f.data.length

/-- A fabric word (R82): its 32 bytes and its tag. -/
structure FabricWord where
  bytes : List Byte
  /-- [7] LAST, [6] TAIL_MARK, [4:0] VALID -/
  tag : Nat
  deriving DecidableEq, Repr

/-- Tag of a fabric word with `n` valid bytes, 1 to 32 (R82). -/
def fabricTag (last mark : Bool) (n : Nat) : Nat := (if last then 128 + (if mark then 64 else 0) else 0) + n % 32

/-- The fabric words of `n` or fewer words of data: every one but the last full, the last filled up with zeros (R82);
`closed`: the frame's last word has been written. -/
def fabricWords (closed mark : Bool) : Nat → List Byte → List FabricWord
  | 0, _ => []
  | _, [] => []
  | n + 1, b =>
    let rest := b.drop 32
    ⟨padTo (b.take 32) 32, fabricTag (rest.isEmpty && closed) mark (min 32 b.length)⟩ :: fabricWords closed mark n rest

/-- A frame as the pool's cells hold it (R82, R85). -/
def PFrame.words (f : PFrame) : List FabricWord := fabricWords f.tailWritten f.tailMark f.data.length f.data

/-- Index of a partition in CPL_PART_USE. -/
def partIdx : Part → Nat
  | .reserve => 1 | .guaranteed => 2 | .headroom => 3 | .shared => 4

/-- Code of a partition in a descriptor (R87). -/
def partCode : Part → Nat
  | .guaranteed => 0 | .reserve => 1 | .shared => 2 | .headroom => 3

/-- The egress port a queue belongs to: p for Q0 to Q383, 18 for rings, 19 for control queues (R6). -/
def portOfQ (q : Nat) : Nat := if q < 384 then q / 8 else if q < 448 then 18 else 19

/-- Queue q is a reserve queue (R89): Q152 to Q159, Q448 to Q511, and any queue marked RESERVE. -/
def isReserveQ (s : State) (q : Nat) : Bool :=
  (152 ≤ q && q ≤ 159) || (448 ≤ q && q ≤ 511) || rdb s (R.CPL_Q_CFG q) 30

/-- Cells of queue q's copies charged to SHARED. -/
def qSharedUse (s : State) (q : Nat) : Nat :=
  ((s.pool.copies.filter (fun x => x.2.q = q ∧ x.2.part = .shared)).map (fun x => x.2.cells)).foldl (· + ·) 0

/-- First descriptor not in use, from `i` (log entry 9). -/
def firstFree : SMap Copy → Nat → Nat
  | [], i => i
  | (k, _) :: t, i => if k = i then firstFree t (i + 1) else if k < i then firstFree t i else i

/-- The level a watermark unit of kind `k` and index `i` watches (R95). -/
def wmLevel (s : State) (k i : Nat) : Nat :=
  match k with
  | 1 => rd s (R.CPL_PART_USE i)
  | 2 => rd s (R.CPL_PORT_GUAR i)
  | 3 => rd s (R.CPL_PORT_LOGICAL i)
  | 4 => rd s (R.CPL_Q_CELLS i)
  | 5 => 0x10000 - rd s R.CPL_FREE_DESC
  | 6 => rd s R.CPL_SPILL_USE
  | 7 => rd s (R.CPL_PORT_HELD i)
  | _ => 0

/-- One watermark unit's update (R95, R96). -/
def wmUnit (w : Nat) (s : State) : State :=
  let level := wmLevel s (rdf s (R.CPL_WM_CFG w) 31 28) (rdf s (R.CPL_WM_CFG w) 8 0)
  let s := wr s (R.CPL_WM_LIVE w) level
  let s := if rd s (R.CPL_WM_PEAK w) < level then wr s (R.CPL_WM_PEAK w) level else s
  let n := R.CPL_WM_NOTICE w
  let cross (b : Nat) (above : Nat) (s : State) : State :=
    let was := rdb s n b
    let s := wrf s n 16 16 above
    let s := wrf s n 15 0 (min 0xFFFF (rdf s n 15 0 + 1))
    let s := setBits n (2 ^ b) s
    let s := wr s (R.CPL_WM_PEND (w / 32)) (rd s (R.CPL_WM_PEND (w / 32)) ||| 2 ^ (w % 32))
    if was then s else raise 96 s
  if rdb s n 16 then
    if level ≤ rd s (R.CPL_WM_DOWN w) then cross 30 0 s else s
  else if rd s (R.CPL_WM_UP w) ≤ level then cross 31 1 s else s

/-- All active watermark units (R95). -/
def wmUpdate (s : State) : State := forEach s.pool.wmUnits wmUnit s

/-- Cells held by frames from port p in class c (R94). -/
def heldClass (s : State) (p c : Nat) : Nat :=
  ((s.pool.frames.filter (fun x => x.2.src = p ∧ x.2.tc = c)).map (fun x => x.2.cells)).foldl (· + ·) 0

/-- The MAC control frame of R129, FCS included: PAUSE for the class 0 pair or PFC for class c, with `quanta`. -/
def pauseFrame (s : State) (p c quanta : Nat) : List Byte :=
  let mac := rd s (R.PORT_ETH_MAC_LO p) + 0x100000000 * rdf s (R.PORT_ETH_MAC_HI p) 15 0
  let hdr := beBytes 0x0180C2000001 6 ++ beBytes mac 6 ++ beBytes 0x8808 2
  if rdf s (R.SCH_PORT_CFG p) 27 26 = 1 then withFcs (padTo (hdr ++ beBytes 1 2 ++ beBytes quanta 2) 60)
  else withFcs (padTo (hdr ++ beBytes 0x0101 2 ++ beBytes (2 ^ c) 2 ++
    ((List.range 8).map (fun i => beBytes (if i = c then quanta else 0) 2)).flatten) 60)

/-- Send the generated pause frames that wait on port p, at a frame boundary with a gate open for 84 wire bytes; after a step
that is under way, and not on a link that is not UP (R129, R235, R379). -/
def pauseFlush (p : Nat) (s : State) : State :=
  match s.sched.pauseOut.get? p with
  | none => s
  | some l =>
    if (s.sched.service.get? p).any InService.started || rdf s (R.PORT_ETH_STATE p) 31 28 != 2 || linkState s p != 0 ||
        (ethPort s p).stepWant.isSome || (inSafe s && isVehiclePort p) then s
    else if !(List.range 8).any (fun c => fits s p c 84) then s
    else
      let s := forEach l (fun f s => raise 166 (bypass p 12 1 (inc (emit (.wire p f false) s) (R.SCH_PORT_CNT p 10)))) (lpiExit p s)
      let s := activity (if isEthPort p then setEth p { ethPort s p with idleNs := s.devNs } s else s)
      { s with sched := { s.sched with pauseOut := s.sched.pauseOut.del p } }

/-- Generate a pause frame on port p for class c (R129); the port is silent in safe state (R378). -/
def pauseGenerate (p c quanta : Nat) (s : State) : State :=
  if !isEthPort p || rdf s (R.SCH_PORT_CFG p) 27 26 = 0 then s else
  let q := s.sched.pauseOut.getD p []
  let s := if inSafe s && isVehiclePort p then s else { s with sched := { s.sched with pauseOut := s.sched.pauseOut.put p (q ++ [pauseFrame s p c quanta]) } }
  let half := if portBps s p = 0 then 0 else quanta * 512 * 1000000000 / portBps s p / 2
  let s := { s with sched := { s.sched with xoffRepeat :=
    if quanta = 0 then s.sched.xoffRepeat.del (8 * p + c) else s.sched.xoffRepeat.put (8 * p + c) (s.devNs + half) } }
  pauseFlush p s

/-- Judge XOFF of port p and class c against its pair after a change of ING_HELD (R94, R129). -/
def xoffCheck (p c0 : Nat) (s : State) : State :=
  if 18 < p then s else
  let whole := rdf s (R.SCH_PORT_CFG p) 27 26 = 1
  let c := if whole then 0 else c0
  let held := if whole then rd s (R.CPL_PORT_HELD p) else heldClass s p c
  let xoff := rdf s (R.CPL_PFC p c) 15 0
  let xon := rdf s (R.CPL_PFC p c) 31 16
  let st := R.CPL_PORT_STATE p
  if xoff = 0 then s
  else if rdb s st c then
    if held ≤ xon then pauseGenerate p c 0 (wrf s st c c 0) else s
  else if xoff ≤ held then
    let s := inc (wrf s st c c 1) (R.CPL_PORT_CNT p 1)
    pauseGenerate p c (rdf s (R.SCH_PORT_PAUSE p) 31 16) (raise 109 s)
  else s

/-- Add `n` to a level register (`n` may be negative). -/
def bump (a : Nat) (n : Int) (s : State) : State := wr s a ((rd s a : Int) + n).toNat

/-- Words of a frame descriptor (R87). -/
def writeDesc (d : Nat) (c : Copy) (f : PFrame) (s : State) : State :=
  let len := if f.tailWritten then f.len % 0x4000 else 0
  let s := wr s (R.CPL_DESC d) (f.headCell % 0x20000 * 2 ^ 15 + (if (f.tailMark && f.tailWritten) || c.marked then 2 ^ 14 else 0) + len)
  let s := wr s (R.CPL_DESC d + 4) (f.src * 2 ^ 26 + c.tc % 8 * 2 ^ 23 + c.dp * 2 ^ 21 + partCode c.part * 2 ^ 19 +
    (if c.spilled then 2 ^ 18 else 0) + (if c.seq.isSome then 2 ^ 17 else 0) + c.seq.getD 0)
  let s := wr s (R.CPL_DESC d + 8) (c.stream.getD 0 * 2 ^ 20 + c.maxAge)
  wr s (R.CPL_DESC d + 12) (c.admitNs / 1000 % 0x100000000)

/-- Charge and uncharge the levels a copy is counted in: sign 1 or -1 (R88, R90). -/
def chargeLevels (q : Nat) (part : Part) (n : Nat) (src tc : Nat) (sign : Int) (s : State) : State :=
  let p := portOfQ q
  let s := bump (R.CPL_PART_USE (partIdx part)) (sign * n) s
  let s := if part = .guaranteed then bump (R.CPL_PORT_GUAR p) (sign * n) s else s
  if part = .headroom then wrf s (R.CPL_PFC_HDRM src tc) 31 16 ((rdf s (R.CPL_PFC_HDRM src tc) 31 16 : Int) + sign * n).toNat else s

/-- Levels of what is queued: Q_CELLS and the port's LOGICAL. -/
def queueLevels (q n : Nat) (sign : Int) (s : State) : State :=
  bump (R.CPL_PORT_LOGICAL (portOfQ q)) (sign * n) (bump (R.CPL_Q_CELLS q) (sign * n) s)

/-- Deep index of queue q, if it is deep. -/
def deepOf (s : State) (q : Nat) : Option Nat :=
  if q < 384 ∧ rdb s (R.CPL_Q_CFG q) 31 then some (rdf s (R.CPL_Q_CFG q) 29 24) else none

/-- Cells of a deep queue's head. -/
def headCells (s : State) (q : Nat) : Nat :=
  ((s.pool.queues.getD q []).map (fun d => ((s.pool.copies.get? d).map Copy.cells).getD 0)).foldl (· + ·) 0

/-- Queue q holds no copy in any of its sections. -/
def qEmpty (s : State) (q : Nat) : Bool :=
  (s.pool.queues.getD q []).isEmpty &&
  match deepOf s q with
  | none => true
  | some k => (s.pool.deepMid.getD k []).isEmpty && (s.pool.deepTail.getD k []).isEmpty

/-- Append descriptor d to its queue: a deep queue's head while the middle is empty and it has room, and the tail is empty too
(DEDUCED, log entry 176), else its tail. -/
def enqueue (q d n : Nat) (s : State) : State :=
  let l := s.pool.queues.getD q []
  match deepOf s q with
  | none => { s with pool := { s.pool with queues := s.pool.queues.put q (l ++ [d]) } }
  | some k =>
    if (s.pool.deepMid.getD k []).isEmpty && (s.pool.deepTail.getD k []).isEmpty &&
        headCells s q + n ≤ rdf s (R.CPL_DEEP_CFG k) 12 0 then
      { s with pool := { s.pool with queues := s.pool.queues.put q (l ++ [d]) } }
    else { s with pool := { s.pool with deepTail := s.pool.deepTail.put k (s.pool.deepTail.getD k [] ++ [d]) } }

/-- Tag a is no later than tag b: 64-bit values compared by their signed difference (R114). -/
def tagLe (a b : Nat) : Bool := decide ((b + 0x10000000000000000 - a % 0x10000000000000000) % 0x10000000000000000 < 0x8000000000000000)

/-- Finish tag bookkeeping when queue q goes from empty to non-empty (R114). -/
def onNonEmpty (q : Nat) (s : State) : State :=
  let v := cnt s (R.SCH_VTIME (q / 8))
  let t := s.sched.tags.getD q (0, 0)
  { s with sched := { s.sched with tags := s.sched.tags.put q (if tagLe v t.2 then t.2 else v, t.2) } }

/-- The copy of port p that is selected or sent under descriptor d. -/
def serviceOf (s : State) (p d : Nat) : Option InService :=
  ((s.sched.service.get? p).toList ++ (s.sched.next.get? p).toList).find? (fun x => x.desc == d)

/-- The copy in service on port p is discarded unsent: the tags of its queue and the port's virtual time are again what they
were before it was charged (R111). -/
def unserve (p d : Nat) (s : State) : State :=
  match s.sched.undo.get? p, s.pool.copies.get? d with
  | some (start, fin, v), some c =>
    if (s.sched.service.get? p).any (fun x => x.desc == d) then
      wrq { s with sched := { s.sched with tags := s.sched.tags.put c.q (start, fin), undo := s.sched.undo.del p } } (R.SCH_VTIME p) v
    else s
  | _, _ => s

/-- Take the selected copy d of port p out of service; what was selected behind it moves up. -/
def serviceEnd (p d : Nat) (s : State) : State :=
  if (s.sched.next.get? p).any (fun x => x.desc == d) then { s with sched := { s.sched with next := s.sched.next.del p } }
  else
    let service := match s.sched.next.get? p with
      | some y => s.sched.service.put p y
      | none => s.sched.service.del p
    { s with sched := { s.sched with service := service, next := s.sched.next.del p, undo := s.sched.undo.del p } }

/-- Queue q has a copy in service whose completion is not charged yet. -/
def serving (s : State) (q : Nat) : Bool :=
  ((s.sched.service.get? (q / 8)).toList ++ (s.sched.next.get? (q / 8)).toList).any
    (fun x => !x.charged && (s.pool.copies.get? x.desc).any (fun c => c.q == q))

/-- Reasons a copy is refused (R91): counters 2 to 5 of CPL_Q_CNT. -/
def refuse (q k : Nat) (s : State) : State := raise 97 (inc s (R.CPL_Q_CNT q k))

/-- What admission decides for a copy of n cells (R90): a partition, or the counter of its refusal. -/
def admitDecide (s : State) (p tc src dp n : Nat) (q : Nat) : Except Nat Part :=
  if linkState s p ≠ 0 then .error 4 else
  let gw := rdf s (R.CPL_Q_WAIT q) 31 16
  let late := match gateNextOpen s p tc with
    | some o => decide (s.globalNs + gw * 1000000 < o)
    | none => true
  if gw ≠ 0 ∧ !gateOpen s p tc ∧ late = true then .error 5 else
  if rd s R.CPL_FREE_DESC = 0 then .error 3 else
  if rd s (R.CPL_PORT_GUAR (portOfQ q)) + n ≤ rdf s (R.CPL_PORT_CFG (portOfQ q)) 16 0 then .ok .guaranteed else
  if isReserveQ s q ∧ rd s (R.CPL_PART_USE 1) + n ≤ rd s (R.CPL_PART_SIZE 1) then .ok .reserve else
  if rdf s (R.CPL_Q_CFG q) 17 0 < qSharedUse s q + n then .error 3 else
  let limit := if dp = 0 then rd s (R.CPL_PART_SIZE 4) else if dp = 1 then rd s R.CPL_SHARED_T1 else rd s R.CPL_SHARED_T2
  if rd s (R.CPL_PART_USE 4) + n ≤ limit then .ok .shared else
  if src ≤ 18 ∧ rdb s (R.CPL_PORT_STATE src) tc ∧
      rdf s (R.CPL_PFC_HDRM src tc) 31 16 + n ≤ rdf s (R.CPL_PFC_HDRM src tc) 15 0 then .ok .headroom
  else .error 2

/-- What a verdict gives each of its copies. -/
structure CopyAttr where
  dp : Nat
  maxAge : Nat
  seq : Option Nat
  stream : Option Nat
  encrypt : Bool
  tsReq : Option Nat
  deriving DecidableEq, Repr

/-- Admit one copy of frame `fid` to queue q of port p (R90). Answers the descriptor, or the refusal's counter. -/
def admitCopy (fid p tc q : Nat) (a : CopyAttr) (s : State) : Except Nat Nat × State :=
  match s.pool.frames.get? fid with
  | none => (.error 3, s)
  | some f =>
    let n := if f.cutThrough && !f.tailWritten then cellsOf (maxFrame s f.src) else cellsOf f.len
    match admitDecide s p tc f.src a.dp n q with
    | .error k => (.error k, refuse q k s)
    | .ok part =>
      let d := firstFree s.pool.copies 0
      let c : Copy := {
        frame := fid, q := q, tc := tc, part := part, cells := n, dp := a.dp, admitNs := s.devNs, maxAge := a.maxAge
        seq := a.seq, stream := a.stream, spilled := false, encrypt := a.encrypt, queued := false, popped := false, tsReq := a.tsReq }
      let s := { s with pool := { s.pool with
        copies := s.pool.copies.put d c, frames := s.pool.frames.put fid { f with refs := f.refs + 1 } } }
      let s := chargeLevels q part n f.src f.tc 1 s
      let s := bump R.CPL_FREE_DESC (-1) s
      let s := if part = .reserve then raise 99 s else s
      (.ok d, wmUpdate (writeDesc d c f s))

/-- Link an admitted copy to its queue: it counts in Q_CELLS and Q_FRAMES from now on, and a queue that was empty gets
its start tag (R86, R114, R142); one with a copy in service is not empty (DESIGN CHOICE, log entry 246). -/
def joinQueue (q d : Nat) (s : State) : State :=
  match s.pool.copies.get? d with
  | none => s
  | some c =>
    let s := if qEmpty s q && !serving s q && q < 384 then onNonEmpty q s else s
    let s := { s with pool := { s.pool with copies := s.pool.copies.put d { c with queued := true } } }
    let s := queueLevels q c.cells 1 s
    let s := inc (bump (R.CPL_Q_FRAMES q) 1 s) (R.CPL_Q_CNT q 0)
    wmUpdate (enqueue q d c.cells s)

/-- Free a frame's cells once its last copy has gone and its last word is written (R93). -/
def freeFrame (fid : Nat) (s : State) : State :=
  match s.pool.frames.get? fid with
  | none => s
  | some f =>
    if f.refs = 0 && f.tailWritten then
      let s := { s with pool := { s.pool with frames := s.pool.frames.del fid } }
      let s := bump R.CPL_FREE_CELLS f.cells s
      let s := bump (R.CPL_PORT_HELD f.src) (-(f.cells : Int)) s
      wmUpdate (xoffCheck f.src f.tc s)
    else s

/-- Release a copy: its charge, its descriptor and its frame's reference (R92, R93). -/
def releaseCopy (d : Nat) (s : State) : State :=
  match s.pool.copies.get? d with
  | none => s
  | some c =>
    let f := s.pool.frames.get? c.frame
    let src := (f.map PFrame.src).getD 0
    let tc := (f.map PFrame.tc).getD 0
    let s := { s with pool := { s.pool with copies := s.pool.copies.del d } }
    let s := chargeLevels c.q c.part c.cells src tc (-1) s
    let s := bump R.CPL_FREE_DESC 1 s
    let s := if c.queued then queueLevels c.q c.cells (-1) (bump (R.CPL_Q_FRAMES c.q) (-1) s) else s
    let s := { s with cip := { s.cip with jobs := s.cip.jobs.filter (fun j => j.desc != some d) } }
    let s := match f with
      | some f => { s with pool := { s.pool with frames := s.pool.frames.put c.frame { f with refs := f.refs - 1 } } }
      | none => s
    wmUpdate (freeFrame c.frame s)

/-- Frame fid holds `data` and takes no more cells than that (R85); its copies keep their charge until its tail is written. -/
def reshape (fid : Nat) (data : List Byte) (s : State) : State :=
  match s.pool.frames.get? fid with
  | none => s
  | some f =>
    let n : Int := (f.cells : Int) - cellsOf data.length
    let s := { s with pool := { s.pool with frames := s.pool.frames.put fid { f with data := data, cells := cellsOf data.length } } }
    wmUpdate (xoffCheck f.src f.tc (bump (R.CPL_PORT_HELD f.src) (-n) (bump R.CPL_FREE_CELLS n s)))

/-- Put a new frame into the pool; answers its number. Its cells are held (ING_HELD, R94) from now on and not while they are
staged (DESIGN CHOICE, log entry 226), in a chain whose first cell is a free
value (R85, R86, R87). -/
def newFrame (g : PFrame) (s : State) : Nat × State :=
  let cell := free s
  let s := cell.2
  let f := { g with headCell := cell.1 % 0x20000 }
  let fid := s.pool.nextFrame
  let s := { s with pool := { s.pool with nextFrame := fid + 1, frames := s.pool.frames.put fid f } }
  let s := bump R.CPL_FREE_CELLS (-(f.cells : Int)) s
  let s := bump (R.CPL_PORT_HELD f.src) f.cells s
  (fid, xoffCheck f.src f.tc s)

/-- Take a descriptor out of whatever section of its queue holds it. -/
def unqueue (d q : Nat) (s : State) : State :=
  let s := { s with pool := { s.pool with queues := s.pool.queues.set q (removeFirst d (s.pool.queues.getD q [])) [] } }
  match deepOf s q with
  | none => s
  | some k => { s with pool := { s.pool with deepTail := s.pool.deepTail.set k (removeFirst d (s.pool.deepTail.getD k [])) [] } }

/-- A copy leaves its queue for service or a pop, keeping its charge: DEQUEUED is counted (R93, R103). -/
def dequeue (d : Nat) (s : State) : State :=
  match s.pool.copies.get? d with
  | none => s
  | some c =>
    if !c.queued then s else
    let s := unqueue d c.q s
    let s := { s with pool := { s.pool with copies := s.pool.copies.put d { c with queued := false } } }
    wmUpdate (inc (queueLevels c.q c.cells (-1) (bump (R.CPL_Q_FRAMES c.q) (-1) s)) (R.CPL_Q_CNT c.q 1))

/-- The selected copy d of port p is discarded before its first byte: it costs no virtual time (R111). -/
def dropServed (p d : Nat) (s : State) : State := releaseCopy d (serviceEnd p d (unserve p d s))

/-- A copy that left for service waits again as the head of its queue (R128). -/
def requeue (d : Nat) (s : State) : State :=
  match s.pool.copies.get? d with
  | none => s
  | some c =>
    if c.queued then s else
    let s := { s with pool := { s.pool with
      copies := s.pool.copies.put d { c with queued := true }
      queues := s.pool.queues.put c.q (d :: s.pool.queues.getD c.q []) } }
    let n := cnt s (R.CPL_Q_CNT c.q 1)
    wmUpdate (wrq (queueLevels c.q c.cells 1 (bump (R.CPL_Q_FRAMES c.q) 1 s)) (R.CPL_Q_CNT c.q 1) (n - 1))

/-- Discard a queued copy, counted in CPL_Q_CNT[q][k] (6 AGE_DISCARD, 7 FLUSHED). -/
def discardCopy (d k : Nat) (s : State) : State :=
  match s.pool.copies.get? d with
  | none => s
  | some c =>
    let s := inc (unqueue d c.q s) (R.CPL_Q_CNT c.q k)
    let s := if k = 6 then raise 102 s else s
    releaseCopy d s

/-- A copy is older than its maximum age (R100). -/
def tooOld (s : State) (c : Copy) : Bool := c.maxAge != 0 && decide (c.maxAge * 1000000 < s.devNs - c.admitNs)

/-- Spill blocks of 64 KiB that a deep queue's middle takes: its copies' cells of 128 bytes packed, the sum rounded up (DESIGN
CHOICE, log entry 223). -/
def midBlocks (l : List Spilled) : Nat := ceilDiv ((l.map (fun x => x.copy.cells * 128)).foldl (· + ·) 0) 0x10000

/-- Update the spill registers of deep queue k after a change of its middle (R98). -/
def deepRegs (k : Nat) (s : State) : State :=
  let l := s.pool.deepMid.getD k []
  let old := rd s (R.CPL_DEEP_USE k)
  let s := wr s (R.CPL_DEEP_USE k) (midBlocks l)
  let s := wr s (R.CPL_DEEP_FRAMES k) l.length
  wmUpdate (bump R.CPL_SPILL_USE ((midBlocks l : Int) - old) s)

/-- Deep queue k's middle has shrunk: its next quota filling raises event 103 again (R98). -/
def deepShrink (k : Nat) (s : State) : State :=
  deepRegs k { s with pool := { s.pool with deepFull := s.pool.deepFull.filter (· != k) } }

/-- A corrected error met by a reader of the pool (R105). -/
def poolEcc (e : PoolEcc) (s : State) : State := if e = .corrected then raise 105 (inc s R.CPL_ECC_COUNT) else s

-- Collator contexts (R140 to R157) -------------------------------------------------------------------------------

/-- Context c's run, with what it holds after reset. -/
def ctx (s : State) (c : Nat) : Ctx := s.col.getD c ⟨[], 0, 0, 0, s.survey.loadNs, s.survey.loadNs, false, false⟩

def setCtx (c : Nat) (x : Ctx) (s : State) : State := { s with col := s.col.put c x }

/-- Descriptor and arrival of a slot's copy. -/
def Slot.held : Slot → Option (Nat × Nat)
  | .copy d a => some (d, a)
  | _ => none

/-- Copies held by a context. -/
def Ctx.heldCopies (x : Ctx) : List (Nat × Nat) := x.slots.filterMap Slot.held

/-- Write context c's HELD, TIMER_RUN and DEADLINE after a change of its window, and the total held (R145). -/
def ctxRegs (c : Nat) (s : State) : State :=
  let h := (ctx s c).heldCopies
  let old := rdf s (R.COL_CTX_STATE c) 13 7
  let s := wrf s (R.COL_CTX_STATE c) 13 7 h.length
  let s := wr s R.COL_HELD_TOTAL (rd s R.COL_HELD_TOTAL + h.length - old)
  match h with
  | [] => wrf (wr s (R.COL_CTX_DEADLINE c) 0) (R.COL_CTX_STATE c) 14 14 0
  | a :: t =>
    let m := (t.foldl (fun m x => min m x.2) a.2) / 1000 + rdf s (R.COL_CTX_TIMERS c) 31 18
    wrf (wr s (R.COL_CTX_DEADLINE c) m) (R.COL_CTX_STATE c) 14 14 1

/-- Flush context c: held copies discarded and counted as FLUSHED, TAKE_ANY with an empty history (R155). -/
def ctxFlush (c : Nat) (s : State) : State :=
  let x := ctx s c
  let s := forEach x.heldCopies (fun h s => releaseCopy h.1 (inc s (R.COL_CTX_CNT c 10))) s
  let s := setCtx c { x with slots := [] } s
  let s := wrq (wrf s (R.COL_CTX_STATE c) 15 15 1) (R.COL_CTX_HIST c) 0
  let s := ctxRegs c s
  if x.heldCopies.isEmpty then s else raise 198 s

/-- Contexts that the call sheet may have defined: every index once COUNT is not 0 (R158). -/
def ctxIds (s : State) : List Nat := if rdf s R.COL_CTX_COUNT 10 0 = 0 then [] else List.range 1024

/-- Contexts in use on port p. -/
def ctxsOfPort (s : State) (p : Nat) : List Nat :=
  (ctxIds s).filter (fun c => rdb s (R.COL_CTX_CFG c) 31 && rdf s (R.COL_CTX_CFG c) 24 19 == p)

/-- Flush the contexts of port p (R155). -/
def ctxFlushPort (p : Nat) (s : State) : State := forEach (ctxsOfPort s p) ctxFlush s

/-- Descriptor d waits in a CAN buffer of queue q's channel (R122, R124). -/
def inCanBuf (s : State) (q d : Nat) : Bool :=
  isCanPort (q / 8) && (s.sched.canPq.getD (q / 8 - 20) [] ++ s.sched.canTxb.getD (q / 8 - 20) []).any (fun e => e.desc == d)

/-- Flush one queue, its deep sections and its copies in CAN buffers included; each copy counts as FLUSHED (R101). -/
def flushQueue (q : Nat) (s : State) : State :=
  let onAir := if isCanPort (q / 8) then (s.sched.canTx.get? (q / 8 - 20)).bind CanAir.desc? else none
  let ds := (s.pool.copies.filter (fun x => x.2.q = q ∧ (x.2.queued || inCanBuf s q x.1) ∧ !x.2.popped ∧ (serviceOf s (q / 8) x.1).isNone = true ∧ some x.1 ≠ onAir)).map Prod.fst
  let s := forEach ds (fun d s => discardCopy d 7 s) s
  match deepOf s q with
  | none => s
  | some k =>
    let n := (s.pool.deepMid.getD k []).length
    let s := addCnt s (R.CPL_Q_CNT q 7) n
    deepShrink k { s with pool := { s.pool with deepMid := s.pool.deepMid.del k } }

/-- Drop the CAN buffer entries of channel n but the frame on the bus. -/
def clearCanBuffers (n : Nat) (s : State) : State :=
  let s := { s with sched := { s.sched with canPq := s.sched.canPq.del n, canTxb := s.sched.canTxb.del n } }
  wr s (R.SCH_CAN_STATE n) (if (s.sched.canTx.get? n).isSome then 1 else 0)

/-- Flush every queue of port p (R101 FLUSH). -/
def flushPort (p : Nat) (s : State) : State :=
  let s := ctxFlushPort p (forEach (List.range 8) (fun c s => flushQueue (qOf p c) s) s)
  if isCanPort p then clearCanBuffers (p - 20) s else s

/-- A frame found no room in its island's receive buffer (R84). -/
def stageOverrun (p : Nat) (s : State) : State := raise 98 (inc s (R.CPL_PORT_CNT p 0))

/-- A link-loss hold of port p runs (R101). In safe state its link state reads DOWN (R379). -/
def holding (s : State) (p : Nat) : Bool := (s.pool.holdSince.get? p).isSome

/-- The pool's link state of port p becomes DOWN or HOLD by its link-loss policy (R101), which reads DOWN on a vehicle port
while safe state is in force (R379); gated classes, all of a port that runs a
gate list (DESIGN CHOICE, log entry 182), always flush, with the contexts that lead to it (DESIGN CHOICE, log entry 247). -/
def linkLoss (p : Nat) (s : State) : State :=
  if linkState s p = 2 then s else
  let down := if inSafe s && isVehiclePort p then 2 else 1
  if rdb s (R.CPL_PORT_CFG p) 31 ∧ linkState s p = 0 then
    let s := wrf s (R.CPL_PORT_STATE p) 9 8 down
    let s := raise 100 (inc s (R.CPL_PORT_CNT p 2))
    let s := { s with pool := { s.pool with holdSince := s.pool.holdSince.put p s.devNs } }
    if (gateListOf s p).isSome then flushPort p s else s
  else if linkState s p = 1 then wrf s (R.CPL_PORT_STATE p) 9 8 down
  else flushPort p (wrf s (R.CPL_PORT_STATE p) 9 8 2)

/-- Spilled copies of queue q that are stale are discarded as AGE_DISCARD (R102). -/
def midAge (q : Nat) (stale : Copy → Bool) (s : State) : State :=
  match deepOf s q with
  | none => s
  | some k =>
    let l := s.pool.deepMid.getD k []
    let keep := l.filter (fun x => !stale x.copy)
    if keep.length = l.length then s
    else raise 102 (addCnt (deepShrink k { s with pool := { s.pool with deepMid := s.pool.deepMid.set k keep [] } })
      (R.CPL_Q_CNT q 6) (l.length - keep.length))

/-- Drop the CAN buffer entries whose copies are gone. -/
def canPrune (n : Nat) (s : State) : State :=
  let keep (l : List CanEntry) : List CanEntry := l.filter (fun e => (s.pool.copies.get? e.desc).isSome)
  let pq := keep (s.sched.canPq.getD n [])
  let txb := keep (s.sched.canTxb.getD n [])
  let s := { s with sched := { s.sched with canPq := s.sched.canPq.set n pq [], canTxb := s.sched.canTxb.set n txb [] } }
  wr s (R.SCH_CAN_STATE n) (pq.length * 0x10000 + txb.length)

/-- The port's link is up: DOWN becomes UP; a return within its hold discards copies older than the lesser of their
maximum age and HOLD_AGE_MS (R102). -/
def linkReturn (p : Nat) (s : State) : State :=
  let was := linkState s p
  let s := wrf s (R.CPL_PORT_STATE p) 9 8 0
  let s := if was = 0 then s else { s with pool := { s.pool with upNs := s.pool.upNs.put p s.devNs } }
  if holding s p then
    let s := { s with pool := { s.pool with holdSince := s.pool.holdSince.del p } }
    let lim := rdf s (R.CPL_PORT_CFG p) 23 17
    let stale (y : Copy) : Bool := tooOld s y || decide (lim * 1000000 < s.devNs - y.admitNs)
    let old := (s.pool.copies.filter (fun x => x.2.q < 384 && x.2.q / 8 == p && (x.2.queued || inCanBuf s x.2.q x.1) &&
      (serviceOf s p x.1).isNone && stale x.2)).map Prod.fst
    let s := forEach old (fun d s => discardCopy d 6 s) s
    let s := forEach (List.range 8) (fun c s => midAge (qOf p c) stale s) s
    if isCanPort p then canPrune (p - 20) s else s
  else s

/-- Flush every queue of the module, spilled sections included (R106). A copy that has been popped, or is in service, goes
with the pool's power too and counts as FLUSHED (DESIGN CHOICE, log entry 227). -/
def flushAll (s : State) : State :=
  let s := forEach (ctxIds s) ctxFlush s
  let s := forEach (s.pool.copies.map Prod.fst) (fun d s => discardCopy d 7 s) s
  let s := forEach (s.pool.deepMid.map Prod.fst) (fun k s =>
    let n := (s.pool.deepMid.getD k []).length
    let s := addCnt s (R.CPL_Q_CNT (rdf s (R.CPL_DEEP_CFG k) 24 16) 7) n
    deepShrink k { s with pool := { s.pool with deepMid := s.pool.deepMid.del k } }) s
  let s := forEach ((s.sched.canPq ++ s.sched.canTxb).map Prod.fst) clearCanBuffers s
  { s with sched := { s.sched with service := [], next := [], canTx := [] }, pool := { s.pool with frozen := [] } }

end Sys2Proof.Machine
end

