-- ==== Sys2Proof/Machine/Parse.lean ====
section
/-! DEFINITION. The parser and lookup (R56 to R69), policing (R72 to R75) and numbering (R76): pure functions of a
frame's bytes and the tables. -/

namespace Sys2Proof.Machine

/-- What the parser extracts from an Ethernet frame (R56 to R60). -/
structure Parsed where
  dst : Nat
  srcMac : Nat
  tagged : Bool
  /-- VID of the outer tag; 0 untagged or priority-tagged -/
  vid : Nat
  pcp : Nat
  dei : Bool
  etype : Nat
  /-- offset of the first byte after the EtherType -/
  off : Nat
  /-- 40-byte TUPLE key, where there is one -/
  tuple : Option (List Byte)
  streamId : Option (List Byte)
  parseErr : Bool
  /-- R-TAG sequence number (R60) -/
  rtag : Option Nat
  /-- length the headers declare (R73) -/
  declared : Option Nat
  deriving DecidableEq, Repr

/-- `n` bytes at offset `o` lie within the frame and the parser's 128 bytes. -/
def inReach (b : List Byte) (o n : Nat) : Bool := o + n ≤ min 128 b.length

/-- TUPLE key of an IPv4 or IPv6 header at `o`, with a parse error where R57 names one; the declared length (R73). -/
def parseIp (b : List Byte) (o etype : Nat) : Option (List Byte) × Bool × Option Nat :=
  if etype = 0x0800 then
    let ver := byteAt b o / 16
    let ihl := byteAt b o % 16
    let total := beAt b (o + 2) 2
    if ver ≠ 4 ∨ ihl < 5 ∨ b.length - 4 - o < total then (none, true, none)
    else if !inReach b o 20 then (none, false, none)
    else
      let frag := beAt b (o + 6) 2
      let isFrag := frag % 0x4000 ≠ 0
      let udp := byteAt b (o + 9) = 17 ∧ ¬ isFrag ∧ inReach b (o + 4 * ihl) 4
      let ports := if udp then slice b (o + 4 * ihl) 4 else [0, 0, 0, 0]
      (some (List.replicate 12 0 ++ slice b (o + 12) 4 ++ List.replicate 12 0 ++ slice b (o + 16) 4 ++
        slice b (o + 9) 1 ++ [0] ++ ports ++ [0, 0]), false, some (o + total + 4))
  else if etype = 0x86DD then
    if !inReach b o 40 then (none, false, none)
    else
      let udp := byteAt b (o + 6) = 17 ∧ inReach b (o + 40) 4
      let ports := if udp then slice b (o + 40) 4 else [0, 0, 0, 0]
      (some (slice b (o + 8) 16 ++ slice b (o + 24) 16 ++ slice b (o + 6) 1 ++ [0] ++ ports ++ [0, 0]), false,
        some (o + 40 + beAt b (o + 4) 2 + 4))
  else (none, false, none)

/-- IEEE 1722 subtypes taken to carry stream_data_length (log entry 10). -/
def hasStreamLen (st : Nat) : Bool := [0x00, 0x02, 0x03, 0x05, 0x06, 0x07, 0x6F].contains st

/-- stream_id and declared length of an IEEE 1722 frame whose AVTPDU begins at `o` (R58, R73). -/
def parse1722 (b : List Byte) (o : Nat) : Option (List Byte) × Option Nat :=
  let st := byteAt b o
  let sid := if inReach b (o + 4) 8 then some (slice b (o + 4) 8) else none
  let len := if st = 0x82 then some (o + 12 + (byteAt b (o + 1) % 8 * 256 + byteAt b (o + 2)))
    else if hasStreamLen st then some (o + 24 + beAt b (o + 20) 2) else none
  (sid, len)

/-- Parse what follows the last recognised tag: R-TAG, then IP or 1722 (R57, R58, R60). -/
def parseInner (b : List Byte) (o : Nat) (p : Parsed) : Parsed :=
  let et := beAt b o 2
  let rt := et = 0xF1C1
  let o2 := if rt then o + 6 else o
  let et2 := if rt then beAt b o2 2 else et
  let p := { p with etype := et2, off := o2 + 2, rtag := if rt ∧ inReach b (o + 4) 2 then some (beAt b (o + 4) 2) else none }
  if et2 = 0x22F0 then
    let r := parse1722 b (o2 + 2)
    { p with streamId := r.1, declared := r.2 }
  else
    let r := parseIp b (o2 + 2) et2
    { p with tuple := r.1, parseErr := r.2.1, declared := r.2.2 }

/-- Parse an Ethernet frame: up to two VLAN tags (R56); a third tag leaves it to layer 2 and is no parse error (DESIGN CHOICE,
log entry 181). -/
def parseEth (b : List Byte) : Parsed :=
  let t0 := beAt b 12 2
  let outer := t0 = 0x8100 ∨ t0 = 0x88A8
  let t1 := beAt b 16 2
  let inner := outer ∧ t1 = 0x8100
  let o := if inner then 20 else if outer then 16 else 12
  let third := inner ∧ (beAt b 20 2 = 0x8100 ∨ beAt b 20 2 = 0x88A8)
  let tci := beAt b 14 2
  let p : Parsed := {
    dst := beAt b 0 6, srcMac := beAt b 6 6, tagged := outer, vid := if outer then tci % 0x1000 else 0
    pcp := if outer then tci / 0x2000 else 0, dei := outer ∧ (tci / 0x1000) % 2 = 1, etype := beAt b o 2, off := o + 2
    tuple := none, streamId := none, parseErr := false, rtag := none, declared := none }
  if third then p else if beAt b o 2 = 0x88E5 then p else parseInner b o p

/-- The frame's VLAN: the outer VID, or the port's default VID (R56). -/
def vlanOf (s : State) (port : Nat) (p : Parsed) : Nat :=
  if p.vid = 0 then rdf s (R.LKU_PORT_KEY port) 27 16 else p.vid

-- Bus frame header (R197) ---------------------------------------------------------------------------------------

/-- Word w of a bus frame's header. -/
def hdrWord (b : List Byte) (w : Nat) : Nat := leAt b (4 * w) 4
def busFormat (b : List Byte) : Nat := hdrWord b 0 / 2 ^ 29
def busIdent (b : List Byte) : Nat := hdrWord b 0 % 2 ^ 29
def busRtr (b : List Byte) : Bool := (hdrWord b 1).testBit 31
def busBrs (b : List Byte) : Bool := (hdrWord b 1).testBit 30
def busVcid (b : List Byte) : Nat := fld (hdrWord b 1) 27 20
def busSdt (b : List Byte) : Nat := fld (hdrWord b 1) 19 12
def busLen (b : List Byte) : Nat := hdrWord b 1 % 0x1000
def busData (b : List Byte) : List Byte := b.drop 16

/-- A bus frame: header (R197) and data. RX_TIME is `t`, 0 for frames built inside the module. -/
def busFrame (fmt ident : Nat) (rtr brs esi sec : Bool) (vcid sdt af t : Nat) (data : List Byte) : List Byte :=
  let f (b : Bool) (i : Nat) : Nat := if b then 2 ^ i else 0
  leBytes (fmt * 2 ^ 29 + ident) 4 ++
  leBytes (f rtr 31 + f brs 30 + f esi 29 + f sec 28 + vcid * 2 ^ 20 + sdt * 2 ^ 12 + data.length) 4 ++
  leBytes af 4 ++ leBytes t 4 ++ data

/-- Accepted data lengths by format (R54). -/
def busLenOk (fmt n : Nat) (rtr : Bool) : Bool :=
  match fmt with
  | 0 => if rtr then n = 0 else n ≤ 8
  | 1 => if rtr then n = 0 else n ≤ 8
  | 2 => n ≤ 8 || [12, 16, 20, 24, 32, 48, 64].contains n
  | 3 => n ≤ 8 || [12, 16, 20, 24, 32, 48, 64].contains n
  | 4 => 1 ≤ n && n ≤ 2048
  | 5 => 1 ≤ n && n ≤ 8
  | _ => false

-- Lookup (R61 to R65) -------------------------------------------------------------------------------------------

/-- 40-byte flow key of a type from a parsed Ethernet frame; none where the frame has no such field. -/
def flowKey (s : State) (port kt : Nat) (p : Parsed) : Option (List Byte) :=
  match kt with
  | 1 => some (padTo (beBytes p.dst 6 ++ leBytes (vlanOf s port p) 2) 40)
  | 2 => p.streamId.map (fun x => padTo x 40)
  | 3 => p.tuple.map (fun x => padTo x 40)
  | _ => none

/-- 40-byte CANSRC key of a bus frame. -/
def canSrcKey (port : Nat) (b : List Byte) : List Byte :=
  padTo (leBytes port 1 ++ leBytes (busFormat b) 1 ++ [0, 0] ++ leBytes (busIdent b) 4 ++
    leBytes (if busFormat b = 4 then busVcid b else 0) 1) 40

/-- The entry takes part in lookup under scene `sc` (R62). -/
def inScene (v : Verdict) (sc : Nat) : Bool := v.scenes.testBit sc

/-- A flow entry hit. -/
def flowHit (s : State) (sc kt : Nat) (key : Option (List Byte)) : Option Verdict :=
  match key with
  | none => none
  | some k => (s.lku.flows.find? (fun e => e.keyType == kt && e.key == k && inScene e.v sc)).map FlowEntry.v

/-- A forwarding hit. -/
def fwdHit (s : State) (sc vid mac : Nat) : Option Verdict :=
  (s.lku.fwd.find? (fun e => e.vid == vid && e.mac == mac && inScene e.v sc)).map FwdEntry.v

/-- A CAN route key match under the route's mask bits. -/
def routeMatch (r : CanRoute) (src fmt ident vcid sdt : Nat) : Bool :=
  (src ^^^ r.src) &&& r.mSrc == 0 && (fmt ^^^ r.fmt) &&& r.mFmt == 0 && (ident ^^^ r.ident) &&& r.mIdent == 0 &&
  (vcid ^^^ r.vcid) &&& r.mVcid == 0 && (sdt ^^^ r.sdt) &&& r.mSdt == 0

/-- CAN route lookup, exact then masked, lowest index first (R63). -/
def routeHit (s : State) (sc src : Nat) (b : List Byte) : Option Verdict :=
  let fmt := busFormat b
  let vcid := if fmt = 4 then busVcid b else 0
  let hit (r : CanRoute) : Bool := routeMatch r src fmt (busIdent b) vcid (busSdt b) && inScene r.v sc
  match s.lku.exact.find? hit with
  | some r => some r.v
  | none => (s.lku.masked.find? hit).map CanRoute.v

/-- What lookup answers: a verdict, or the drop counter of LKU_PORT_CNT (8 FILTER_DROP, 9 MISS_DROP). -/
abbrev LookupResult := Except Nat Verdict

/-- First hit of two. -/
def firstHit (a b : Option Verdict) : Option Verdict :=
  match a with
  | some v => some v
  | none => b

/-- Lookup of an Ethernet frame from ports 0 to 19 (R56, R63, R64). -/
def lookupEth (s : State) (port sc : Nat) (p : Parsed) : LookupResult :=
  let vid := vlanOf s port p
  let vl := s.lku.vlans.getD vid ⟨0, 0⟩
  if rdb s (R.LKU_PORT_CFG port) 16 && !vl.members.testBit port then .error 8 else
  let k1 := rdf s (R.LKU_PORT_KEY port) 3 0
  let k2 := rdf s (R.LKU_PORT_KEY port) 11 8
  match firstHit (flowHit s sc k1 (flowKey s port k1 p))
      (firstHit (flowHit s sc k2 (flowKey s port k2 p)) (fwdHit s sc vid p.dst)) with
  | some v => .ok v
  | none =>
    match vl.miss with
    | 1 => .ok { dest := vl.members &&& (0x1FFFFFFFFFFF - 2 ^ port), tc := 8 }
    | 2 => .ok { dest := 2 ^ 19 }
    | _ => .error 9

/-- Lookup of a bus frame (R63, R64); KEY1 enables the CANSRC lookup of a port (DESIGN CHOICE, log entry 243). -/
def lookupBus (s : State) (port sc : Nat) (b : List Byte) : LookupResult :=
  let flow := if isBusPort port && rdf s (R.LKU_PORT_KEY port) 3 0 == 4 then flowHit s sc 4 (some (canSrcKey port b)) else none
  match firstHit flow (routeHit s sc port b) with
  | some v => .ok v
  | none => .error 9

/-- Early release is carried out as held where R69 says so. -/
def effectiveEarly (v : Verdict) : Bool :=
  v.early && v.dest &&& 0xFFFFFF80000 == 0 && v.cipher != .doSeal && v.cipher != .verify && v.cipher != .reseal

/-- The class of a verdict's copies (R68). -/
def classOf (s : State) (port : Nat) (v : Verdict) (p : Option Parsed) : Nat :=
  if v.tc < 8 then v.tc else
  match p with
  | some x => if rdb s (R.LKU_PORT_CFG port) 23 && x.tagged then x.pcp else rdf s (R.LKU_PORT_CFG port) 22 20
  | none => rdf s (R.LKU_PORT_CFG port) 22 20

/-- The forwarding decision: cut-through (R70). -/
def cutThroughOk (s : State) (port : Nat) (v : Verdict) : Bool :=
  isEthPort port && rdb s (R.LKU_PORT_CFG port) 17 && v.bridge == .none && v.dest &&& 0xFFFFFF80000 == 0 &&
  (v.cipher == .none || v.cipher == .encrypt || (v.cipher == .decrypt && effectiveEarly v))

-- Policing (R72 to R75) -----------------------------------------------------------------------------------------

/-- Count an ingress drop or mark of port p and raise its source (R55, R80). -/
def lkuCount (p k : Nat) (s : State) : State :=
  let s := inc s (R.LKU_PORT_CNT p k)
  match k with
  | 1 => raise 128 s
  | 2 => raise 129 s
  | 3 => raise 129 s
  | 4 => raise 136 s
  | 6 => raise 130 s
  | 7 => raise 131 s
  | 8 => raise 132 s
  | 9 => raise 132 s
  | 10 => raise 133 s
  | _ => s

/-- A meter's buckets after refill up to now; one byte is 10⁶ units and a rate unit of 8 kbit/s gives one per ns. -/
def meterRefill (m : MeterCfg) (st : MeterState) (now : Nat) : MeterState :=
  let dt := now - st.atNs
  let tc := st.tc + (m.cir * dt : Nat)
  let cap : Int := (m.cbs * 1000000 : Nat)
  let spill := if cap < tc then tc - cap else 0
  let te := st.te + (m.eir * dt : Nat) + (if m.coupled then spill else 0)
  let capE : Int := (m.ebs * 1000000 : Nat)
  ⟨min tc cap, min te capE, now⟩

/-- Colour 0 green, 1 yellow, 2 red and the bucket that pays (R72). -/
def meterColour (st : MeterState) (preYellow : Bool) (len : Nat) : Nat × MeterState :=
  let c : Int := (len * 1000000 : Nat)
  if !preYellow && decide (c ≤ st.tc) then (0, { st with tc := st.tc - c })
  else if c ≤ st.te then (1, { st with te := st.te - c })
  else (2, st)

/-- Police by meter m: drop precedence and paying bucket, or none where guillotine drops (R72 to R74). The red bytes of a
cut-through frame count its charge length (DESIGN CHOICE, log entry 219). -/
def police (m len : Nat) (preYellow : Bool) (s : State) : Option (Nat × Nat) × State :=
  match s.lku.meters.get? m with
  | none => (some (0, 0), s)
  | some cfg =>
    let st := meterRefill cfg (s.lku.meterState.getD m ⟨(cfg.cbs * 1000000 : Nat), (cfg.ebs * 1000000 : Nat), s.devNs⟩) s.devNs
    let r := meterColour st (cfg.aware && preYellow) len
    let s := { s with lku := { s.lku with meterState := s.lku.meterState.put m r.2 } }
    let s := inc s (R.LKU_MTR_CNT m r.1)
    if r.1 = 2 then
      let s := addCnt s (R.LKU_MTR_CNT m 3) len
      if cfg.guillotine then (none, s) else (some (2, 0), raise 134 s)
    else (some (r.1, r.1 + 1), s)

/-- The tail's adjustment of the bucket that paid (R73): actual less charged, not below minus `floor` bytes. What a credit
brings beyond CBS goes to the excess bucket in coupled mode (R72). -/
def meterAdjust (m paid : Nat) (actual charge floor : Nat) (s : State) : State :=
  match s.lku.meters.get? m, s.lku.meterState.get? m with
  | some cfg, some st0 =>
    let st := meterRefill cfg st0 s.devNs
    let d : Int := ((actual : Int) - charge) * 1000000
    let low : Int := -(floor * 1000000 : Nat)
    let cap : Int := (cfg.cbs * 1000000 : Nat)
    let capE : Int := (cfg.ebs * 1000000 : Nat)
    let tc := max low (st.tc - d)
    let spare := if cfg.coupled then max 0 (tc - cap) else 0
    let st := if paid = 1 then { st with tc := min tc cap, te := min (st.te + spare) (max capE st.te) }
      else if paid = 2 then { st with te := min (max low (st.te - d)) capE } else st
    { s with lku := { s.lku with meterState := s.lku.meterState.put m st } }
  | _, _ => s

/-- The limiter that CAN route index r names: exact routes, then masked from 16,384 (R68, R75). -/
def limiterOf (s : State) (r : Nat) : Option Limiter :=
  if r < 16384 then (s.lku.exact[r]?).map CanRoute.lim else (s.lku.masked[r - 16384]?).map CanRoute.lim

/-- The CAN flood limiter (R75) for a frame that ended at device time `endNs`: admit, or drop and count on the limiter; event
135 after a quiet second, and at a limiter's very first drop (DESIGN CHOICE, log entry 172). -/
def floodLimit (r endNs : Nat) (s : State) : Bool × State :=
  match limiterOf s r with
  | none => (true, s)
  | some l =>
    let st := s.lku.floodState.getD r ⟨l.burst * 1000000000, s.devNs, none, none⟩
    let tokens := min (l.burst * 1000000000) (st.tokens + l.rateFps * (s.devNs - st.atNs))
    let spaced := match st.lastAdmit with
      | some t => decide (l.spacingUs * 1000 ≤ endNs - t)
      | none => true
    let put (x : FloodState) (s : State) : State :=
      { s with lku := { s.lku with floodState := s.lku.floodState.put r x } }
    if 1000000000 ≤ tokens ∧ spaced = true then
      (true, put ⟨tokens - 1000000000, s.devNs, some endNs, st.lastDrop⟩ s)
    else
      let s := inc s (R.LKU_FLOOD_CNT r)
      let fresh := match st.lastDrop with
        | some t => decide (1000000000 < s.devNs - t)
        | none => true
      let s := if fresh then raise 135 s else s
      (false, put ⟨tokens, s.devNs, st.lastAdmit, some s.devNs⟩ s)

/-- Sequence number of a frame of stream n (R76): none where TAKE_RTAG finds no R-TAG. -/
def numberFrame (n : Nat) (rtag : Option Nat) (s : State) : Option Nat × State :=
  if rdb s (R.LKU_SEQ n) 30 then (rtag, s)
  else
    let v := rdf s (R.LKU_SEQ n) 15 0
    (some v, wrf s (R.LKU_SEQ n) 15 0 (v + 1))

end Sys2Proof.Machine
end

