-- ==== Sys2Proof/Machine/Convert.lean ====
section
/-! DEFINITION. Rebuilding frames: a bus frame's header after its data changed (R197), the
identifiers and lengths of R166 and R167. -/

namespace Sys2Proof.Machine

/-- A bus frame with other data: LENGTH follows (R197). -/
def busWithData (f data : List Byte) : List Byte :=
  f.take 4 ++ leBytes (hdrWord f 1 / 0x1000 * 0x1000 + data.length % 0x1000) 4 ++ slice f 8 8 ++ data

/-- Formats with a 29-bit identifier. -/
def is29 (fmt : Nat) : Bool := fmt == 1 || fmt == 3

/-- Egress identifier in COPY mode (R166); none: NO_FIT. -/
def convCopyId (fmt ident out : Nat) : Option Nat :=
  if is29 fmt then
    if is29 out then some ident else if ident % 0x40000 = 0 then some (ident / 0x40000) else none
  else
    let i := if fmt = 5 then ident % 64 else ident % 0x800
    if is29 out then some (i * 0x40000) else some i

/-- Smallest CAN FD length that holds n bytes. -/
def fdLen (n : Nat) : Nat := ([0, 1, 2, 3, 4, 5, 6, 7, 8, 12, 16, 20, 24, 32, 48, 64].find? (fun x => n ≤ x)).getD 0

/-- Bytes of padding that a data field of n bytes takes in a format (R167); none: NO_FIT. -/
def convPad (out n : Nat) (padEn : Bool) : Option Nat :=
  if out ≤ 1 then (if n ≤ 8 then some 0 else none)
  else if out ≤ 3 then
    (if 64 < n then none else if fdLen n = n then some 0 else if padEn then some (fdLen n - n) else none)
  else if out = 4 then
    (if 2048 < n then none else if n = 0 then (if padEn then some 1 else none) else some 0)
  else none

/-- Egress identifier that conversion record r gives, before SA_REPLACE (R166). -/
def convId (s : State) (r : Nat) (f : List Byte) : Option Nat :=
  let cfg := R.SGE_CONV_CFG r
  if rdb s cfg 27 then some (rdf s (R.SGE_CONV_ID r) 28 0)
  else convCopyId (busFormat f) (busIdent f) (rdf s cfg 30 28)

end Sys2Proof.Machine
end

