-- ==== Sys2Proof/Machine/Reaction.lean ====
section
/-! DEFINITION. The reaction unit's shared operations (chapter 15): alarms, shadows, storms, safe state, resets and
fences; and the port operations they rest on. -/

namespace Sys2Proof.Machine

-- Port enables and link state -----------------------------------------------------------------------------------

/-- START_DONE (R42). -/
def startDone (s : State) : Bool := rdb s R.SVY_STATUS 1

/-- ENABLE_SCENES of port p, the first register of every port block. -/
def enableScenes (s : State) (p : Nat) : Nat := rdf s (R.PORT_ETH_CFG p) 31 16

/-- Port p may be UP: enabled in the scene in force, past its start, not held off, fenced, or OFF (R203, R222, R228, R254); in
LOADER_ONLY C0 alone (R444). -/
def portEnabled (s : State) (p : Nat) : Bool :=
  if rdb s R.UPD_STATUS 3 then p == 20 else
  (enableScenes s p).testBit (scene s) && !s.ports.keptOff.testBit p && !s.ports.fenced.testBit p &&
  (if isCanPort p then rdf s (R.PORT_CAN_CFG p) 2 0 != 0 else true) &&
  (if isVehiclePort p then startDone s else sheetLive s)

/-- A CAN channel's run-time record, with what it holds before anything happened. -/
def canChan (s : State) (n : Nat) : CanChan := s.ports.can.getD n ⟨0, 0, false, false, 0, [], false, false, 0, 0, 0, none, 0, 0, none, none⟩

def setCan (n : Nat) (c : CanChan) (s : State) : State := { s with ports := { s.ports with can := s.ports.can.put n c } }

/-- A LIN channel's run-time record. -/
def linChan (s : State) (m : Nat) : LinChan := s.ports.lin.getD m ⟨none, [], 0, 0, 0, none, 0, false, false, none, false⟩

def setLin (m : Nat) (c : LinChan) (s : State) : State := { s with ports := { s.ports with lin := s.ports.lin.put m c } }

/-- The copy selected behind the one on port p's wire goes with the port's queues. -/
def abortNext (p : Nat) (s : State) : State :=
  match s.sched.next.get? p with
  | none => s
  | some y =>
    let s := { s with sched := { s.sched with next := s.sched.next.del p } }
    match s.pool.copies.get? y.desc with
    | some c => releaseCopy y.desc (inc s (R.CPL_Q_CNT c.q 7))
    | none => s

/-- Cut off what port p has on the wire: the copy is released, not retried, counted as TX_ABORT, event 169 (R135). -/
def txAbort (p : Nat) (s : State) : State :=
  match s.sched.service.get? p with
  | none => s
  | some x =>
    let s := if x.started then s else unserve p x.desc s
    let s := abortNext p { s with sched := { s.sched with service := s.sched.service.del p, undo := s.sched.undo.del p } }
    let s := if 0 < x.slots then wr s R.SCH_CT_SLOTS (rd s R.SCH_CT_SLOTS - x.slots) else s
    let s := wrf s (R.SCH_PORT_STATE p) 7 7 0
    let data := ((s.pool.copies.get? x.desc).bind (fun c => s.pool.frames.get? c.frame)).map PFrame.data
    let s := if x.started then raise 169 (inc (emit (.wire p (data.getD []) true) s) (R.SCH_PORT_CNT p 6))
      else match s.pool.copies.get? x.desc with
        | some c => inc s (R.CPL_Q_CNT c.q 7)
        | none => s
    releaseCopy x.desc s

/-- The transceiver of channel n leaves fast mode with its frame (R194). -/
def trcvIdle (n : Nat) (s : State) : State :=
  let a := R.PORT_CAN_STATE (20 + n)
  if rdf s a 27 24 = 4 ∨ rdf s a 27 24 = 5 then wrf s a 27 24 3 else s

/-- Cut off what CAN channel n has on the bus: a copy is released as TX_ABORT (R135, R202). -/
def canAbort (n : Nat) (s : State) : State :=
  match s.sched.canTx.get? n with
  | none => s
  | some a =>
    let s := trcvIdle n { s with sched := { s.sched with canTx := s.sched.canTx.del n } }
    let s := setCan n { canChan s n with integrating := true } s
    match a.desc? with
    | none => match a with
      | .safe b => if (s.rxu.frames.get? b).isSome then wrf s (R.RXU_SAFE_STATE b) 31 28 1 else s
      | _ => s
    | some d =>
      let rest := (s.sched.canTxb.getD n []).filter (fun e => e.desc != d)
      let s := { s with sched := { s.sched with canTxb := s.sched.canTxb.set n rest [] } }
      releaseCopy d (raise 169 (inc s (R.SCH_PORT_CNT (20 + n) 6)))

/-- Stop a port's transmitter at once, even mid-frame. A LIN receiver goes on: another node's response still comes in (R253). -/
def silence (p : Nat) (s : State) : State :=
  if isCanPort p then canAbort (p - 20) s
  else if isLinPort p then setLin (p - 36) { linChan s (p - 36) with reply := none, pulse := false } s
  else txAbort p { s with sched := { s.sched with pauseOut := s.sched.pauseOut.del p } }

-- Safe outputs --------------------------------------------------------------------------------------------------

/-- SAFE_LEVEL of output k (R260). -/
def soSafeLevel (s : State) (k : Nat) : Bool := rdb s (R.RXU_SO_CFG k) 31

/-- Output k is switched on. -/
def soIsOn (s : State) (k : Nat) : Bool :=
  let st := rdf s (R.RXU_SO_STATE k) 31 28
  st == 1 || st == 3 || (st == 2 && soSafeLevel s k)

/-- The level that commands output k now: OFF too while a move to Sleep or below is under way (R259). -/
def soWanted (s : State) (k : Nat) : Bool :=
  if inSafe s then soSafeLevel s k else startDone s && decide (rung s ≤ 2) && !savesForSleep s && rdb s R.RXU_SO_SET k

/-- Drive output k ON or OFF; state code 2 SAFE while safe state holds it. A driver in THERMAL_OFF or LATCHED_OFF stays
off, and a fenced one is OFF (R260, R262, R263, R374). -/
def soDrive (k : Nat) (on : Bool) (safe : Bool) (s : State) : State :=
  let a := R.RXU_SO_STATE k
  let st := rdf s a 31 28
  if st = 4 ∨ st = 5 then s else
  let fenced := rdb s (R.RXU_FENCED_LINES 2) (8 + k)
  let on := on && !fenced
  let safe := safe && !fenced
  let was := soIsOn s k
  let s := if on && !was then inc s (R.RXU_SO_CNT k 0) else s
  let s := if !on && was && Config.inductiveLoad k then inc s (R.RXU_SO_CNT k 3) else s
  -- one that stays on at its current limit stays in LIMIT (R261)
  if on && decide (st = 3) then s else wrf s a 31 28 (if safe then 2 else if on then 1 else 0)

-- Alarms and shadows (R376, R388) -------------------------------------------------------------------------------

/-- Update the latest record of source `l` in a list; answers whether there was one opened since `since`. -/
def coalesceInto (l since now : Nat) : List Rec → Bool × List Rec
  | [] => (false, [])
  | r :: t =>
    let rest := coalesceInto l since now t
    if rest.1 then (true, r :: rest.2)
    else if r.kind = 1 ∧ r.source = l ∧ since ≤ r.devNs then
      (true, { r with body := patch (patch r.body 0 (leBytes (leAt r.body 0 4 + 1) 4)) 4 (leBytes now 8) } :: t)
    else (false, r :: t)

/-- Alarm record of line l (R388): coalesced or new. -/
def alarm (l act phase outcome : Nat) (shadowed : Bool) (s : State) : State :=
  if !recOn s then s else
  let ring := s.recd.rings.getD 0 []
  let since := tickTime s - rdf s R.REC_CFG 15 0 * 1000000
  let has := ring.any (fun r => r.kind == 1 && r.source == l)
  let full := has && decide (recRingBytes s 0 - 0x10000 < recsBytes (ring.filter (fun r => r.kind == 1)) + 64 * 257)
  let c := coalesceInto l (if full then 0 else since) (tickTime s) ring
  if c.1 then
    let s := inc { s with recd := { s.recd with rings := s.recd.rings.put 0 c.2 } } (R.REC_CNT 1)
    if full then raise 453 s else s
  else
    let body := leBytes 1 4 ++ leBytes (tickTime s) 8 ++ leBytes act 1 ++ leBytes phase 1 ++ leBytes outcome 1 ++ List.replicate 17 0
    let x := slate s 1 (if shadowed then 2 else 0) l l body
    inc (recStore 0 x s).2 (R.REC_CNT 0)

/-- Bit l of a register array of 32-bit words. -/
def lineBit (s : State) (a : Nat → Nat) (l : Nat) : Bool := rdb s (a (l / 32)) (l % 32)

def setLineBit (a : Nat → Nat) (l v : Nat) (s : State) : State := wrf s (a (l / 32)) (l % 32) (l % 32) v

/-- Recompute RXU_SHADOW_NOW and the count of actions from the actions in force (R376). -/
def shadowRegs (s : State) : State :=
  let s := forEach [0, 1, 2, 3] (fun i s =>
    wr s (R.RXU_SHADOW_NOW i) (s.rxu.actions.foldl (fun m a => m ||| rd s (R.RXU_ENTRY_SHADOW a.line i)) 0)) s
  wrf s R.RXU_STATUS 23 16 (min 255 s.rxu.actions.length)

/-- End the settle of actions whose settle time has passed (R376, R385). -/
def settleEnd (s : State) : State :=
  let ended (a : Reaction) : Bool := match a.doneNs with
    | some d => decide (d + rdf s (R.RXU_ENTRY_SETTLE a.line) 15 0 * 1000000 ≤ s.devNs)
    | none => false
  let gone := s.rxu.actions.filter ended
  if gone.isEmpty then s else
  let s := { s with rxu := { s.rxu with actions := s.rxu.actions.filter (fun a => !ended a) } }
  shadowRegs (forEach gone (fun a s =>
    wr s (R.RXU_ENTRY_STATE a.line) (if lineBit s R.RXU_FENCED_LINES a.line then 3 * 2 ^ 28 else 0)) s)

-- Safe state (R378 to R380) -------------------------------------------------------------------------------------

/-- Make every active safe-state buffer due, DELAY_US from t2 (R378, R384). -/
def safeFramesDue (s : State) : State :=
  forEach (List.range 32) (fun b s =>
    if rdb s (R.RXU_SAFE_FRAME b) 31 then
      let run : SafeFrameRun := ⟨s.devNs + 2000 + rdf s (R.RXU_SAFE_FRAME b) 15 0 * 1000, rdf s (R.RXU_SAFE_FRAME_4 b) 31 24⟩
      let s := { s with rxu := { s.rxu with frames := s.rxu.frames.put b run } }
      wr s (R.RXU_SAFE_STATE b) (3 * 2 ^ 28 + run.left)
    else s) s

/-- Latch the safe state in force (R377). -/
def latchSafe (s : State) : State :=
  let s := wrf s R.RXU_STATUS 31 28 2
  let s := wr s R.RXU_LATCH_COUNT (rd s R.RXU_LATCH_COUNT + 1)
  let s := wrq s R.RXU_REL_CHAL (Config.drbg s.drawn % 0x10000000000000000)
  raise 419 { s with drawn := s.drawn + 1 }

/-- The module is back in Run from rung `from0`: HOST_EN and HOST_WAKE high, dwells restart, source 384 (R361, R366). -/
def runAgain (from0 : Nat) (s : State) : State :=
  let s := wrf (wrf s R.GAF_RUNG 2 0 0) R.GAF_START 6 4 from0
  let s := wrf (wrf s R.GAF_RUNG 9 8 0) R.GAF_RUNG 6 4 0
  let s := wrf s R.GAF_HOST 1 0 3
  raise 384 { s with gaf := { s.gaf with dwellNs := s.devNs, idleNs := s.devNs, hostWakeNs := s.devNs, latched := false } }

/-- Doze is left for Run: a continuation; HX0 and HX1 start again (R356, R366). Clapper instants that passed in Doze are not
served (DESIGN CHOICE, log entry 252). -/
def dozeExit (s : State) : State :=
  let s := if rdf s R.HDMA_STATUS 31 28 = 4 then raise 501 (wrf s R.HDMA_STATUS 31 28 2) else s
  let s := forEach [16, 17] (fun p s =>
    if portEnabled s p && rdf s (R.PORT_ETH_STATE p) 31 28 == 0 then wrf s (R.PORT_ETH_STATE p) 31 28 1 else s) s
  let at_ (x : Nat × Nat) : Nat := if x.2 < s.globalNs then clapInstant s x.1 s.globalNs false else x.2
  let s := { s with tim := { s.tim with clapNext := List.map (fun (x : Nat × Nat) => (x.1, at_ x)) s.tim.clapNext } }
  -- the signal engine's rules start afresh (R186)
  runAgain 2 { s with sge := { s.sge with freshNs := s.devNs } }

/-- Enter safe state with cause 1 TABLE, 2 ESCALATION, 3 STORM, 4 TABLE_FAULT, 5 HOST (R378, R379); one that is in force
is only latched where the new cause latches and it was not (R377). -/
def enterSafe (cause line : Nat) (latched : Bool) (s : State) : State :=
  let st := rdf s R.RXU_STATUS 31 28
  if st ≠ 0 then
    if latched ∧ st = 1 then latchSafe (wr s R.RXU_CAUSE (cause * 256 + line)) else s
  else
    let s := wrf s R.RXU_STATUS 31 28 1
    let s := wrf s R.RXU_STATUS 1 1 1
    let s := wr s R.RXU_CAUSE (cause * 256 + line)
    let s := wr s R.RXU_FAULTN 1
    let s := { s with rxu := { s.rxu with safeSince := some (s.devNs + 2000) } }
    let s := inc s (R.RXU_CNT 1)
    -- an entry for a cause other than HOST in a trial rules out automatic confirmation (R432)
    let s := if cause ≠ 5 ∧ rdf s R.UPD_STATUS 15 12 = 4 then { s with upd := { s.upd with trialSafe := true } } else s
    let s := forEach (List.range 16 ++ (List.range 24).map (· + 20)) (fun p s =>
      let s := silence p s
      if linkState s p = 2 then s else linkLoss p s) s
    let s := forEach (List.range 4) (fun k s => soDrive k (soSafeLevel s k) true s) s
    let s := safeFramesDue s
    let s := if rung s = 2 then dozeExit s else s
    let s := raise 417 s
    let s := trigger 3 line s
    if latched then latchSafe s else s

-- Units (R373, R374) --------------------------------------------------------------------------------------------

/-- Channel n holds and claims no J1939 address until it starts again (R185). -/
def j1939Off (n : Nat) (s : State) : State :=
  let s := { s with sge := { s.sge with j1939 := match s.sge.j1939.get? n with
    | some j => s.sge.j1939.put n { j with candidate := 0xFE, taken := [] }
    | none => s.sge.j1939 } }
  wrf (wrf s (R.SGE_J1939 n) 30 28 0) (R.SGE_J1939 n) 7 0 0xFE

/-- Port p reads FENCED and is out of service until restart. An Ethernet port leaves low-power idle, and its link is lost:
what else ends with a link does so in the next cycle (R135, R222, R229, R275; log entry 200). -/
def fencePort (p : Nat) (s : State) : State :=
  let held := holding s p
  let s := silence p s
  let s := { s with ports := { s.ports with fenced := s.ports.fenced ||| 2 ^ p }
                    pool := { s.pool with holdSince := s.pool.holdSince.del p } }
  let s := if isEthPort p then
      let s := wrf (lpiRxExit p (lpiExit p s)) (R.PORT_ETH_STATE p) 31 28 5
      setEth p { ethPort s p with phyReset := true } s
    else if isLinPort p then wrf (setLin (p - 36) { linChan s (p - 36) with ident := none } s) (R.PORT_LIN_STATE p) 31 28 4
    else if isCanPort p then j1939Off (p - 20) (wrf s (R.PORT_CAN_STATE p) 31 28 0)
    else s
  let s := if isEthPort p then wrf s (R.SCH_PORT_STATE p) 11 8 0 else s
  -- a hold that runs in safe state reads DOWN and ends with the fence too (R101, R379)
  if linkState s p = 2 && !held then s else flushPort p (wrf s (R.CPL_PORT_STATE p) 9 8 2)

/-- Take the unit of line l out of service (R374 FENCE). -/
def fenceUnit (l : Nat) (s : State) : State :=
  let s := setLineBit R.RXU_FENCED_LINES l 1 s
  let s := raise 420 (inc s (R.RXU_CNT 4))
  if l ≤ 17 ∨ (20 ≤ l ∧ l ≤ 43) then fencePort l s
  else if l = 18 then
    let s := forEach (List.range 64) (fun k s =>
      if ringRunning s k then wrf (wrf s (R.HDMA_RING_CTRL k) 31 31 0) (R.HDMA_RING_STATE k) 31 28 0 else s) s
    let s := { s with host := { s.host with wait := [], unsig := [] } }
    let s := if rdb s R.HDMA_STATUS 1 then portCause 18 1 true s else s
    let s := wrf (wrf (wr s R.PORT18_HP_STATE 0) R.HDMA_STATUS 1 1 0) (R.SCH_PORT_STATE 18) 11 8 0
    if linkState s 18 = 2 then s else flushPort 18 (wrf s (R.CPL_PORT_STATE 18) 9 8 2)
  else if l = 44 then
    flushPort 44 (wrf (wrf s R.REC_STATUS 31 28 0) (R.CPL_PORT_STATE 44) 9 8 2)
  else if 72 ≤ l ∧ l ≤ 75 then
    wrf (soDrive (l - 72) false false s) (R.RXU_SO_STATE (l - 72)) 31 28 0
  else s

/-- Reset and restart the unit of line l (R374 RESET_UNIT). -/
def resetUnit (l : Nat) (s : State) : State :=
  if l ≤ 17 then
    let s := txAbort l s
    setEth l { ethPort s l with downMs := 0, stepTo := none, phyReset := true } s
  else if isCanPort l then
    let s := canAbort (l - 20) s
    let s := wrf (wrf s (R.PORT_CAN_ERRCNT l) 8 0 0) (R.PORT_CAN_ERRCNT l) 23 16 0
    let s := wrf s (R.PORT_CAN_ERRCNT l) 31 27 0
    let s := setCan (l - 20) { canChan s (l - 20) with off := 0 } s
    if rdf s (R.PORT_CAN_STATE l) 31 28 = 0 ∨ rdf s (R.PORT_CAN_STATE l) 31 28 = 9 then s
    else wrf s (R.PORT_CAN_STATE l) 31 28 1
  else if isLinPort l then
    setLin (l - 36) { linChan s (l - 36) with ident := none, resume := [], next := 0 } s
  else if 72 ≤ l ∧ l ≤ 75 then
    let k := l - 72
    -- a driver that cools down stays off for its time (R262)
    if rdf s (R.RXU_SO_STATE k) 31 28 = 4 then s else
    -- the driver turns off, with its clamp pulse, and then takes the level that commands it (R259, R263)
    let s := wrf (soDrive k false false s) (R.RXU_SO_STATE k) 31 28 0
    let s := { s with ports := { s.ports with soRetries := s.ports.soRetries.del k } }
    soDrive k (soWanted s k) (inSafe s) s
  else s

-- Assertions (R374 to R377) -------------------------------------------------------------------------------------

/-- Level lines (R373). -/
def isLevelLine (l : Nat) : Bool := (64 ≤ l && l ≤ 71) || l == 76 || l == 78

/-- A level line whose service action is SAFE_STATE is asserted (R380, R381). -/
def levelHeld (s : State) : Bool :=
  (List.range 128).any (fun l => isLevelLine l && lineBit s R.RXU_LINE_STATE l && rdf s (R.RXU_ENTRY_CFG l) 31 30 == 3)

/-- FAULT_N is low (R35, R365, R380, R444): no power or reset, start-up, safe state, limp, a FAULT start condition, a level
line, LOADER_ONLY. -/
def faultNLow (s : State) : Bool :=
  s.gaf.inReset || rdb s R.UPD_STATUS 3 || s.rxu.startHold || s.rxu.limpHold || s.rxu.condHold || rdb s R.RXU_STATUS 1 || levelHeld s

/-- Line l's unit is under a RESET_UNIT reaction and l lies outside its shadow (R375 RECOVERY). -/
def inRecovery (s : State) (l : Nat) : Bool :=
  s.rxu.actions.any (fun a => a.line == l && a.act == 1 && a.doneNs.isNone &&
    !(rd s (R.RXU_ENTRY_SHADOW l (l / 32))).testBit (l % 32))

/-- Phase 0 START, 1 SERVICE, 2 RECOVERY of line l now (R375). -/
def phaseOf (s : State) (l : Nat) : Nat :=
  if rdf s R.RXU_STATUS 27 24 = 0 then 0 else if inRecovery s l then 2 else 1

/-- Reactions begun in service in the last 1,000 ms, this one included (R377). -/
def stormPush (s : State) : State :=
  let l := (s.rxu.storm.filter (fun t => decide (s.devNs < t + 1000000000))) ++ [s.devNs]
  wrf { s with rxu := { s.rxu with storm := l } } R.RXU_STATUS 15 8 (min 255 l.length)

/-- The storm test after a reaction of line l has been pushed (R377). -/
def stormCheck (l : Nat) (s : State) : State :=
  if 8 < s.rxu.storm.length then raise 424 (inc (enterSafe 3 l true s) (R.RXU_CNT 3)) else s

/-- Begin action act (1 RESET_UNIT, 2 FENCE, 3 SAFE_STATE) for line l, with its shadow (R376). -/
def startAction (act l : Nat) (s : State) : State :=
  let done := if act = 1 then none else if act = 3 then some (s.devNs + 20000) else some s.devNs
  let s := { s with rxu := { s.rxu with actions := (s.rxu.actions.filter (fun a => a.line != l)) ++ [⟨l, act, s.devNs, done⟩] } }
  let s := shadowRegs s
  let s := if act = 1 then wr s (R.RXU_ENTRY_STATE l) (2 ^ 28 + rdf s (R.RXU_ENTRY_CFG l) 15 0)
    else wr s (R.RXU_ENTRY_STATE l) (2 * 2 ^ 28 + rdf s (R.RXU_ENTRY_SETTLE l) 15 0)
  let s := raise 416 (inc s (R.RXU_CNT 0))
  if act = 1 then resetUnit l s else if act = 2 then fenceUnit l s else enterSafe 1 l false s

/-- The action that line l's assertion takes in a phase: 0 LOG, 1 RESET_UNIT, 2 FENCE, 3 SAFE_STATE (R374, R375). -/
def lineAct (s : State) (l phase : Nat) : Nat :=
  let cfg := rd s (R.RXU_ENTRY_CFG l)
  if phase ≠ 1 ∧ lineFenceable l = true then (if cfg.testBit 29 then 2 else 0) else fld cfg 31 30

/-- A fault line asserts (R373 to R377). A fault of the safety pair takes its right to release safe state (R385). -/
def assertLine (l : Nat) (s : State) : State :=
  if !lineListed l then s else
  if isLevelLine l && lineBit s R.RXU_LINE_STATE l then s else
  let s := settleEnd s
  let s := if l = 78 ∨ l = 79 then { s with rxu := { s.rxu with pairFault := true } } else s
  let s := if isLevelLine l then setLineBit R.RXU_LINE_STATE l 1 s else s
  let s := inc s (R.RXU_LINE_CNT l)
  let cfg := rd s (R.RXU_ENTRY_CFG l)
  let phase := phaseOf s l
  let fenced := lineBit s R.RXU_FENCED_LINES l
  let masked := lineBit s R.RXU_SHADOW_NOW l
  let act := lineAct s l phase
  let s := alarm l (if fenced || masked then 0 else act) phase 0 (masked && !fenced) s
  if fenced then s else
  if masked then raise 422 (inc s (R.RXU_CNT 6)) else
  let s := if cfg.testBit 28 then trigger 1 l s else s
  let s := if s.rxu.actions.isEmpty then s else raise 423 (inc s (R.RXU_CNT 7))
  if act = 0 then s else
  let s := if phase = 1 then stormCheck l (stormPush s) else s
  startAction act l s

/-- A level line's condition ends. -/
def deassertLine (l : Nat) (s : State) : State := setLineBit R.RXU_LINE_STATE l 0 s

/-- A port cause that is also the port's fault line at every occurrence (R218, R247, R267). -/
def portFault (p b : Nat) (s : State) : State := assertLine p (portCause p b true s)

/-- An assertion of line l at this instant would take SAFE_STATE: it is listed, new, neither fenced nor masked (R374 to R376). -/
def wouldSafe (s : State) (l : Nat) : Bool :=
  lineListed l && !(isLevelLine l && lineBit s R.RXU_LINE_STATE l) && !lineBit s R.RXU_FENCED_LINES l &&
  !lineBit s R.RXU_SHADOW_NOW l && lineAct s l (phaseOf s l) == 3

/-- A scene switch that waits has come to its tick boundary: the scene it switches to (R414). -/
def sceneAt (s : State) : Option Nat :=
  if rdb s R.UPD_SCENE 8 && decide (s.upd.sceneNs ≤ s.devNs) then some (rdf s R.UPD_SCENE 7 4) else none

/-- Port p's link returns at this instant (R102, R348): an Ethernet port's comes up, port 18's last condition is met, or a bus
port is enabled again by its scene or woken. -/
def linkUpWaits (s : State) (p : Nat) : Bool :=
  let wakes (src : WakeSource) : Option Nat := match src with
    | .canWup n => some (20 + n)
    | .canWuf n _ => some (20 + n)
    | .lin m _ => some (36 + m)
    | _ => none
  let toHost (k : Nat) : Bool := p == 18 && dmaUp s && rdf s (R.HDMA_RING_CFG k) 31 28 == 8
  s.pending.any (fun c => match c with
    | .linkUp q _ _ _ _ _ => q == p && rdf s (R.PORT_ETH_STATE p) 31 28 == 1
    | .pcieLinkUp _ _ bme => p == 18 && bme && anyToHost s
    | .ringEnable _ k _ => toHost k
    | .registerWrite _ a be v => be == 15 && v.toNat.testBit 31 && (List.range 64).any (fun k => a == R.HDMA_RING_CTRL k && toHost k)
    | .sceneSwitch => isBusPort p && (sceneAt s).any (fun n => (enableScenes s p).testBit n && !(enableScenes s p).testBit (scene s))
    | .wakeDetected src => wakes src == some p && rdf s (R.GAF_NM_SEG_STATE p) 31 28 == 0
    | _ => false)

/-- The hold of port p ends before its link returns: flushed, event 101; a link that returns at the same instant wins
(R102). -/
def holdExpire (p : Nat) (s : State) : State :=
  if holding s p = true ∧ linkUpWaits s p = false ∧ rdf s (R.CPL_PORT_CFG p) 30 24 * 1000000 ≤ s.devNs - s.pool.holdSince.getD p 0 then
    let s := { s with pool := { s.pool with holdSince := s.pool.holdSince.del p } }
    raise 101 (flushPort p (wrf s (R.CPL_PORT_STATE p) 9 8 2))
  else s

/-- A flush of port p's queues comes at this instant, by a link that is lost, a scene that disables the port, an entry to safe
state or a hold that ends: it is applied before what arrives (R157). -/
def flushWaits (s : State) (p : Nat) : Bool :=
  let lost := linkState s p == 0 && (!rdb s (R.CPL_PORT_CFG p) 31 || (gateListOf s p).isSome)
  let safe := lost && isVehiclePort p && !inSafe s
  s.pending.any (fun c => match c with
    | .linkDown q => q == p && lost
    | .sceneSwitch => lost && (sceneAt s).any (fun n => (enableScenes s p).testBit (scene s) && !(enableScenes s p).testBit n)
    | .enterSafe _ => safe
    | .faultLineAssert l => safe && wouldSafe s l
    | .linkHoldExpire q => q == p && holding s p && !linkUpWaits s p &&
        decide (rdf s (R.CPL_PORT_CFG p) 30 24 * 1000000 ≤ s.devNs - s.pool.holdSince.getD p 0)
    | _ => false)

/-- A raised source that is also fault line l. -/
def raiseLine (src l : Nat) (s : State) : State := assertLine l (raise src s)

/-- A descriptor or link of queue q has a multi-bit error: the queue is frozen, the pool fault line asserts (R105). -/
def freezeQueue (q : Nat) (s : State) : State :=
  raiseLine 106 49 { s with pool := { s.pool with frozen := s.pool.frozen ++ [q] } }

end Sys2Proof.Machine
end

