-- ==== Sys2Proof/Machine/Collator.lean ====
section
/-! DEFINITION. The collator (chapter 5): release rules of its contexts, withdrawal notices, timeouts and latent error
detection. -/

namespace Sys2Proof.Machine

/-- Drop precedence, function, window and the other settings of context c. -/
def ctxFn (s : State) (c : Nat) : Nat := rdf s (R.COL_CTX_CFG c) 30 28
def ctxWin (s : State) (c : Nat) : Nat := rdf s (R.COL_CTX_CFG c) 18 12
def ctxNext (s : State) (c : Nat) : Nat := rdf s (R.COL_CTX_STATE c) 31 16

/-- The context of a stream and port, if there is one (R140). -/
def ctxFind (s : State) (stream p : Nat) : Option Nat :=
  (ctxsOfPort s p).find? (fun c => rdf s (R.COL_CTX_CFG c) 11 0 == stream)

/-- Release a copy to its queue: PASSED is counted (R142, R147). -/
def ctxRelease (c d : Nat) (s : State) : State :=
  let x := ctx s c
  let s := inc (setCtx c { x with pa := x.pa + 1 } s) (R.COL_CTX_CNT c 0)
  match s.pool.copies.get? d with
  | some y => joinQueue y.q d s
  | none => s

/-- Discard a copy, counted under k (R147). -/
def ctxDiscard (c d k : Nat) (s : State) : State :=
  let x := ctx s c
  let s := if k = 1 then setCtx c { x with du := x.du + 1 } s else s
  let s := releaseCopy d (inc s (R.COL_CTX_CNT c k))
  if k = 2 then raise 195 s else if k = 3 then raise 194 s else s

/-- Shift context c's history by n and set its low bits. -/
def ctxHist (c n low : Nat) (s : State) : State :=
  wrq s (R.COL_CTX_HIST c) ((cnt s (R.COL_CTX_HIST c) * 2 ^ n + low) % 0x10000000000000000)

/-- Move NEXT past slot 0 (R145 advance). -/
def ctxAdvance (c : Nat) (s : State) : State :=
  let x := ctx s c
  let s := setCtx c { x with slots := x.slots.drop 1 } s
  let s := match x.slots.headD .empty with
    | .copy d _ => ctxHist c 1 1 (ctxRelease c d s)
    | .gap => ctxHist c 1 0 (inc s (R.COL_CTX_CNT c 7))
    | .empty => ctxHist c 1 0 (inc s (R.COL_CTX_CNT c 6))
  wrf s (R.COL_CTX_STATE c) 31 16 (ctxNext s c + 1)

/-- `n` advances. -/
def ctxAdvanceN (c : Nat) : Nat → State → State
  | 0, s => s
  | n + 1, s => ctxAdvanceN c n (ctxAdvance c s)

/-- Advance by `k`: one by one while the window can hold something, the empty rest at once. -/
def ctxJump (c k : Nat) (s : State) : State :=
  let s := ctxAdvanceN c (min k 64) s
  let r := k - 64
  if r = 0 then s else
  let s := ctxHist c (min r 64) 0 (addCnt s (R.COL_CTX_CNT c 6) r)
  wrf s (R.COL_CTX_STATE c) 31 16 (ctxNext s c + r)

/-- Release from the front while slot 0 is not empty, then set the deadline (R145 drain). -/
def ctxDrainN (c : Nat) : Nat → State → State
  | 0, s => s
  | n + 1, s =>
    match (ctx s c).slots.headD .empty with
    | .empty => s
    | _ => ctxDrainN c n (ctxAdvance c s)

def ctxDrain (c : Nat) (s : State) : State := ctxRegs c (ctxDrainN c 64 s)

/-- Put a slot at offset d of a window, filling up with empty slots. -/
def slotPut (l : List Slot) (d : Nat) (x : Slot) : List Slot := setNth (l ++ List.replicate (d + 1 - l.length) .empty) d x

/-- Distance from NEXT, modulo 65,536. -/
def seqDist (a b : Nat) : Nat := (a + 0x10000 - b) % 0x10000

/-- A copy of number n reaches an ORDER or ELIM_ORDER context (R145). -/
def ctxOrderCopy (c d n : Nat) (s : State) : State :=
  let s := if rdb s (R.COL_CTX_STATE c) 15 then
      wrq (wrf (wrf s (R.COL_CTX_STATE c) 31 16 n) (R.COL_CTX_STATE c) 15 15 0) (R.COL_CTX_HIST c) 0
    else s
  let dist := seqDist n (ctxNext s c)
  if 0x8000 ≤ dist then
    let b := seqDist (ctxNext s c) n - 1
    let hist := cnt s (R.COL_CTX_HIST c)
    if b < 64 ∧ hist.testBit b = true then ctxDiscard c d 1 s
    else if rdb s (R.COL_CTX_CFG c) 25 then
      let s := raise 194 (inc (ctxRelease c d s) (R.COL_CTX_CNT c 4))
      if b < 64 then wrq s (R.COL_CTX_HIST c) (hist ||| 2 ^ b) else s
    else ctxDiscard c d 3 s
  else
    let w := ctxWin s c
    let s := if w ≤ dist then raise 193 (ctxJump c (dist + 1 - w) s) else s
    let o := seqDist n (ctxNext s c)
    let x := ctx s c
    match x.slots.getD o .empty with
    | .copy _ _ => ctxRegs c (ctxDiscard c d 1 s)
    | _ => ctxDrain c (setCtx c { x with slots := slotPut x.slots o (.copy d s.devNs) } s)

/-- A copy reaches an ELIMINATE context (R146). -/
def ctxElimCopy (c d n : Nat) (s : State) : State :=
  let st := R.COL_CTX_STATE c
  if rdb s st 15 then
    let s := wrf (wrf s st 31 16 (n + 1)) st 15 15 0
    ctxRelease c d (wrq s (R.COL_CTX_HIST c) 1)
  else
    let k := seqDist n (seqDist (ctxNext s c) 1)
    let w := ctxWin s c
    let hist := cnt s (R.COL_CTX_HIST c)
    if k < 0x8000 then
      if w ≤ k then ctxDiscard c d 2 s
      else if 0 < k then ctxRelease c d (wrf (ctxHist c k 1 s) st 31 16 (n + 1))
      else if hist.testBit 0 then ctxDiscard c d 1 s
      else ctxRelease c d (wrq s (R.COL_CTX_HIST c) (hist ||| 1))
    else
      let b := 0x10000 - k
      if w ≤ b then ctxDiscard c d 2 s
      else if hist.testBit b then ctxDiscard c d 1 s
      else ctxRelease c d (wrq s (R.COL_CTX_HIST c) (hist ||| 2 ^ b))

/-- An admitted copy goes to its context, or straight to its queue (R140). -/
def collate (p d : Nat) (s : State) : State :=
  match s.pool.copies.get? d with
  | none => s
  | some y =>
    match y.stream, y.seq with
    | some m, some n =>
      match ctxFind s m p with
      | none => joinQueue y.q d s
      | some c =>
        let s := setCtx c { ctx s c with lastNs := s.devNs } s
        if ctxFn s c = 0 then joinQueue y.q d s
        else if ctxFn s c = 2 then ctxElimCopy c d n s
        else ctxOrderCopy c d n s
    | _, _ => joinQueue y.q d s

/-- A withdrawal notice of number n of a stream on port p (R143); a context in TAKE_ANY ignores it (DESIGN CHOICE, log entry
249). -/
def withdraw (stream n p : Nat) (s : State) : State :=
  match ctxFind s stream p with
  | none => s
  | some c =>
    let o := seqDist n (ctxNext s c)
    let x := ctx s c
    if ctxFn s c = 1 ∧ rdb s (R.COL_CTX_STATE c) 15 = false ∧ o < ctxWin s c ∧ x.slots.getD o .empty = .empty then
      ctxDrain c (setCtx c { x with slots := slotPut x.slots o .gap } s)
    else s

/-- A notice to every port of a destination set. -/
def withdrawAll (stream seq : Option Nat) (dest : Nat) (s : State) : State :=
  match stream, seq with
  | some m, some n => forEach (bitsOf dest 20) (fun p s => withdraw m n p s) s
  | _, _ => s

/-- Index of the held copy that arrived first, of two the lower (R145; DESIGN CHOICE, log entry 250). -/
def oldestSlot : List Slot → Nat → Option (Nat × Nat)
  | [], _ => none
  | x :: t, i =>
    match x, oldestSlot t (i + 1) with
    | .copy _ a, some (j, b) => if a ≤ b then some (i, a) else some (j, b)
    | .copy _ a, none => some (i, a)
    | _, r => r

/-- The hole deadline of context c in µs of device time: the oldest held copy's arrival and HOLE_US (R145). -/
def ctxDeadline (s : State) (c : Nat) : Option Nat :=
  match oldestSlot (ctx s c).slots 0 with
  | some (_, a) => some (a / 1000 + rdf s (R.COL_CTX_TIMERS c) 31 18)
  | none => none

/-- The skip up to the oldest held copy (R145 on_deadline). -/
def holeSkip (c : Nat) (s : State) : State :=
  match oldestSlot (ctx s c).slots 0 with
  | some (o, _) => ctxDrain c (ctxAdvanceN c o (raise 192 (inc s (R.COL_CTX_CNT c 5))))
  | none => s

/-- The hole deadline of context c passes (R145). In the tick it falls into, a copy or a notice that comes in the same tick is
applied first, so the skip waits for the tick's end (R157, log entry 178). -/
def holeTimeout (c : Nat) (s : State) : State :=
  match ctxDeadline s c with
  | none => s
  | some t =>
    if s.devNs / 1000 < t then s
    else if s.devNs / 1000 = t then setCtx c { ctx s c with holeDue := true } s
    else holeSkip c s

/-- Context c runs a recovery reset time and still waits for a copy; the device time at which it runs out (R148). In
TAKE_ANY it runs none (DESIGN CHOICE, log entry 248). -/
def resetAt (s : State) (c : Nat) : Option Nat :=
  let ms := rdf s (R.COL_CTX_TIMERS c) 15 0
  if rdb s (R.COL_CTX_CFG c) 31 && ms != 0 && !rdb s (R.COL_CTX_STATE c) 15 then some ((ctx s c).lastNs + ms * 1000000) else none

/-- The recovery reset itself (R148). -/
def resetCtx (c : Nat) (s : State) : State :=
  let s := ctxRegs c (ctxAdvanceN c (ctx s c).slots.length s)
  let s := wrq (wrf s (R.COL_CTX_STATE c) 15 15 1) (R.COL_CTX_HIST c) 0
  raise 196 (inc s (R.COL_CTX_CNT c 8))

/-- Recovery reset of context c (R148): no copy for RESET_MS. A copy of the same tick comes first (R157, log entry 178). -/
def recoveryReset (c : Nat) (s : State) : State :=
  match resetAt s c with
  | none => s
  | some t =>
    if s.devNs < t then s
    else if s.devNs / 1000 = t / 1000 then setCtx c { ctx s c with resetDue := true } s
    else resetCtx c s

/-- The end of a tick: deadlines that fell into it and still stand act (R157). -/
def ctxTick (s : State) : State :=
  forEach (s.col.filter (fun x => x.2.holeDue || x.2.resetDue)) (fun x s =>
    let c := x.1
    let s := setCtx c { ctx s c with holeDue := false, resetDue := false } s
    let s := match ctxDeadline s c with
      | some t => if x.2.holeDue && decide (t ≤ s.devNs / 1000) then holeSkip c s else s
      | none => s
    match resetAt s c with
    | some t => if x.2.resetDue && decide (t ≤ s.devNs) then resetCtx c s else s
    | none => s) s

/-- A latent error test of context c (R154), one every TEST_MS. -/
def latentTest (c : Nat) (s : State) : State :=
  if rdb s (R.COL_CTX_CFG c) 31 && rdb s (R.COL_CTX_LATENT c) 31 &&
      decide ((ctx s c).testNs + rdf s (R.COL_CTX_LPER c) 31 16 * 1000000 ≤ s.devNs) then
    let x := ctx s c
    let s := setCtx c { x with testNs := s.devNs } s
    let diff : Int := (x.pa * (rdf s (R.COL_CTX_LATENT c) 30 27 - 1) : Nat) - (x.du : Int)
    if rdf s (R.COL_CTX_LATENT c) 15 0 < diff.natAbs then raise 197 (inc s (R.COL_CTX_CNT c 9)) else s
  else s

/-- HOLE_TIMEOUT. -/
def execHoleTimeout (c : Nat) (s : State) : Host.Outcome State Fault Refusal :=
  run s (.holeTimeout c)
    (holeTimeout c s)

/-- RECOVERY_RESET. -/
def execRecoveryReset (c : Nat) (s : State) : Host.Outcome State Fault Refusal :=
  run s (.recoveryReset c)
    (recoveryReset c s)

/-- LATENT_TEST. -/
def execLatentTest (c : Nat) (s : State) : Host.Outcome State Fault Refusal :=
  run s (.latentTest c)
    (latentTest c s)

/-- What execLatentReset does. -/
def latentResetDo (c : Nat) (s : State) : State :=
  setCtx c { ctx s c with pa := 0, du := 0, resetNs := s.devNs } s

/-- Context c's latent reset falls due, one every RESET_S (R154). -/
def latentResetDue (s : State) (c : Nat) : Bool :=
  rdb s (R.COL_CTX_CFG c) 31 && rdb s (R.COL_CTX_LATENT c) 31 &&
    decide ((ctx s c).resetNs + rdf s (R.COL_CTX_LPER c) 15 0 * 1000000000 ≤ s.devNs)

/-- LATENT_RESET: the latent counts are cleared (R154). -/
def execLatentReset (c : Nat) (s : State) : Host.Outcome State Fault Refusal :=
  run s (.latentReset c)
    (if latentResetDue s c then latentResetDo c s else s)

end Sys2Proof.Machine
end

