-- ==== Sys2Proof/Machine/PortOps.lean ====
section
/-! DEFINITION. Ports coming into and going out of service: gate lists that run (R116 to R119), segments asleep and
awake (chapter 13), and a port's start and stop (R203, R222, R254). -/

namespace Sys2Proof.Machine

-- Gate lists ----------------------------------------------------------------------------------------------------

/-- The list port p's scene selects (R116). -/
def sceneList (s : State) (p : Nat) : Option Nat :=
  if p ≤ 17 ∨ (20 ≤ p ∧ p ≤ 35) then
    let w := rd s (R.GATE_SCENE_LIST p (scene s))
    if w.testBit 6 then some (w % 64) else none
  else none

/-- Port p enters entry e of list l for the global times `st` to `en`. -/
def gateEnter (p l e st en : Nat) (pend : Option (Option Nat)) (s : State) : State :=
  let s := { s with sched := { s.sched with gates := s.sched.gates.put p ⟨some l, e, st, en, pend, none, false⟩ } }
  let s := wrf s (R.GATE_PORT p) 7 0 (rdf s (R.GATE_LIST_ENTRY l e) 7 0)
  let s := wrf s (R.GATE_PORT p) 21 16 l
  wrf s (R.GATE_PORT_ENTRY p) 7 0 e

/-- Port p enters the entry of list l that global time now falls in, for its rest (R116, R119). -/
def gateLocate (p l : Nat) (pend : Option (Option Nat)) (s : State) : State :=
  let off := cycleOff s l s.globalNs
  let e := entryAt (gateEntries s l) 0 0 off
  gateEnter p l e.1 (s.globalNs - (off - e.2.1)) (s.globalNs + (e.2.1 + e.2.2 - off)) pend s

/-- Port p runs no list: every gate is open (R116). -/
def gateStop (p : Nat) (s : State) : State :=
  if p ≤ 35 then
    let s := { s with sched := { s.sched with gates := s.sched.gates.del p } }
    let s := wrf (wrf s (R.GATE_PORT p) 7 0 0xFF) (R.GATE_PORT p) 21 16 0
    let s := wrf (wrf s (R.GATE_PORT p) 30 30 0) (R.GATE_PORT p) 13 8 0
    wr s (R.GATE_PORT_ENTRY p) 0
  else s

/-- Port p's list runs again once the port is in service. -/
def gateStart (p : Nat) (s : State) : State :=
  match sceneList s p with
  | some l => if (s.sched.gates.get? p).isNone then gateLocate p l none s else s
  | none => s

-- 10BASE-T1S: PLCA (R226) ---------------------------------------------------------------------------------------

/-- Port p's opportunity timer in ns. -/
def plcaTo (s : State) (p : Nat) : Nat := rdf s (R.PORT_ETH_PLCA p) 15 8 * 100

/-- Where the opportunities of port p's cycle are counted from: the end of its beacon, of 20 bit times, put off by what frames
have taken of the medium. -/
def plcaBase (s : State) (p : Nat) : Nat := (ethPort s p).beaconNs + 2000 + (ethPort s p).plcaBusy

/-- A frame that began at `start` ends now on port p: the next opportunity begins. A further frame of the module's own burst
puts it off by the time since the burst's last frame. -/
def plcaUse (p start : Nat) (burst : Bool) (s : State) : State :=
  let e := ethPort s p
  if !(12 ≤ p && p ≤ 15 && rdb s (R.PORT_ETH_STATE p) 18) then s
  else if burst then setEth p { e with plcaBusy := e.plcaBusy + (s.devNs - e.plcaEndNs) } s
  else
    let next := plcaBase s p + ((start - plcaBase s p) / max 1 (plcaTo s p) + 1) * plcaTo s p
    setEth p { e with plcaBusy := e.plcaBusy + (s.devNs - next) } s

-- Segments ------------------------------------------------------------------------------------------------------

/-- Ports with a segment (R332). -/
def isSeg (p : Nat) : Bool := isVehiclePort p

/-- STATE of segment p: 0 ASLEEP, 1 AWAKE_REQUEST, 2 AWAKE_HELD, 3 AWAKE_RELEASED, 4 WRAP. -/
def segState (s : State) (p : Nat) : Nat := rdf s (R.GAF_NM_SEG_STATE p) 31 28

/-- MODE of segment p: 0 KEEPALIVE, 1 SLAVED, 2 ALWAYS_ON. -/
def segMode (s : State) (p : Nat) : Nat := rdf s (R.GAF_NM_SEG_CFG p) 31 30

/-- Segment p is past its commit point. -/
def segCommitted (s : State) (p : Nat) : Bool := rdb s (R.GAF_NM_SEG_STATE p) 27

/-- Segment p is committed or ASLEEP (R341). -/
def segDown (s : State) (p : Nat) : Bool := isSeg p && (segState s p == 0 || segCommitted s p)

def seg (s : State) (p : Nat) : Seg := s.nm.segs.getD p ⟨0, 0, 0, false, 0, false, 0⟩

def setSeg (p : Nat) (x : Seg) (s : State) : State := { s with nm := { s.nm with segs := s.nm.segs.put p x } }

/-- Class policy of port p and class c: 0 DROP, 1 HOLD, 2 WAKE (R341). -/
def sleepPolicy (s : State) (p c : Nat) : Nat := rdf s (R.GAF_NM_POLICY p c) 31 30

/-- Copies in queue q. -/
def queueLen (s : State) (q : Nat) : Nat := rd s (R.CPL_Q_FRAMES q)

/-- A copy of queue q waits: in the queue, in a CAN buffer of its channel, or in the spilled middle of a deep queue. -/
def copyWaits (s : State) (q : Nat) : Bool :=
  queueLen s q != 0 || s.pool.copies.any (fun x => x.2.q == q && inCanBuf s q x.1) ||
  (deepOf s q).any (fun k => !(s.pool.deepMid.getD k []).isEmpty)

/-- A copy held for p under the WAKE policy waits (R333), until the port is UP. -/
def wakeHeld (s : State) (p : Nat) : Bool :=
  isSeg p && (segDown s p || linkState s p == 2) && (List.range 8).any (fun c => sleepPolicy s p c == 2 && copyWaits s (qOf p c))

/-- Need of segment p other than a coupling hold (R333). -/
def ownNeed (s : State) (p : Nat) : Bool :=
  (s.nm.needScenes.getD p 0).testBit (scene s) || rdb s (R.GAF_NM_NEED_HOST + 4 * (p / 32)) (p % 32) || wakeHeld s p

/-- A coupling hold of segment p runs (R342). -/
def coupled (s : State) (p : Nat) : Bool := s.devNs < (seg s p).coupleNs

/-- Segment p is needed (R333). -/
def segNeed (s : State) (p : Nat) : Bool := ownNeed s p || coupled s p

-- Start and stop ------------------------------------------------------------------------------------------------

/-- OP in force on CAN channel n: LISTEN until its polarity is settled, and while crossed without a swap (R47, R193). -/
def canOp (s : State) (n : Nat) : Nat :=
  if (canChan s n).polarity = 0 ∨ (canChan s n).polarity = 3 then 1 else rdf s (R.PORT_CAN_CFG (20 + n)) 5 4

/-- CAN channel n is error passive by its counters (R204). -/
def canPassive (s : State) (n : Nat) : Bool :=
  decide (127 < rdf s (R.PORT_CAN_ERRCNT (20 + n)) 8 0 ∨ 127 < rdf s (R.PORT_CAN_ERRCNT (20 + n)) 23 16)

/-- STATE of CAN channel n while it takes part in the bus: by its operating option, else by its error counters. -/
def canShow (n : Nat) (s : State) : State :=
  let op := canOp s n
  wrf s (R.PORT_CAN_STATE (20 + n)) 31 28 (if op = 1 then 7 else if op = 2 then 8 else if canPassive s n then 3 else 2)

/-- Bring STATE up to date after a change of the operating option in force. -/
def canRefresh (n : Nat) (s : State) : State :=
  if [2, 3, 7, 8].contains (rdf s (R.PORT_CAN_STATE (20 + n)) 31 28) then canShow n s else s

/-- CAN channel n leaves service: a bus-off, recovering or held, stays with it (R205, R206). -/
def canOffMark (n : Nat) (s : State) : State :=
  let st := rdf s (R.PORT_CAN_STATE (20 + n)) 31 28
  if st = 4 ∨ st = 5 then setCan n { canChan s n with off := st } s else s

/-- Line length of channel n is measured afresh (R46). -/
def canLenStart (n : Nat) (s : State) : State :=
  wr (setCan n { canChan s n with lenN := 0, lenNear := 0, lenFar := 0 } s) (R.SVY_CAN_LENGTH n) 0xFFFFFFFF

/-- The pool's link state of a vehicle port may be UP: not while safe state is in force (R379). -/
def poolUp (p : Nat) (s : State) : State :=
  if linkState s p = 0 ∨ (inSafe s && isVehiclePort p) = true then s else linkReturn p s

/-- A copy reaches the frame buffer of its identifier on LIN port p. -/
def linCopyIn (p : Nat) (f : List Byte) (s : State) : State :=
  let i := busIdent f % 64
  let a := R.PORT_LIN_FRAME p i
  if !(rdb s a 31 && rdb s a 30) then inc s (R.PORT_LIN_CNT p 10)
  else if busLen f ≠ rdf s a 3 0 then inc s (R.PORT_LIN_CNT p 11)
  else
    let s := if rdb s a 28 then inc s (R.PORT_LIN_CNT p 9) else s
    wrf (wrq s (R.PORT_LIN_DATA p i) (leAt (busData f) 0 8)) a 28 28 1

/-- An admitted copy of LIN port p leaves its queue for its frame buffer (R249), unless the queue is frozen; one past its
maximum age is discarded (R100). What its read finds (R105): a bad descriptor freezes the queue, and a copy with a bad cell
has a tail mark, and like any marked copy it is not sent (R134). -/
def linTake (p d : Nat) (s : State) : State :=
  match s.pool.copies.get? d with
  | none => s
  | some c =>
    match s.pool.frames.get? c.frame with
    | none => s
    | some f =>
      if s.pool.frozen.contains c.q then s
      else if tooOld s c then discardCopy d 6 s else
      let e := s.pool.readEcc
      let s := poolEcc e { s with pool := { s.pool with readEcc := .ok } }
      if e = .desc then freezeQueue c.q s
      else
        let s := dequeue d s
        releaseCopy d (if e = .cell || f.tailMark then raise 161 (inc s (R.SCH_PORT_CNT p 4))
          else if f.bus then linCopyIn p f.data s else inc s (R.PORT_LIN_CNT p 11))

/-- Copies that were held for LIN port p while it slept reach their frame buffers in their order (R249, R341). -/
def linDrain (p : Nat) (s : State) : State :=
  forEach ((List.range 8).map (fun c => qOf p (7 - c))) (fun q s =>
    forEach (s.pool.queues.getD q []) (linTake p) s) s

/-- Ports of a unit: PHY groups are bits 4 to 7, CAN groups bits 8 to 11 of GAF_UNITS (R363). -/
def unitPorts (u : Nat) : List Nat :=
  if 4 ≤ u ∧ u ≤ 7 then (List.range 3).map (· + 3 * (u - 4))
  else if 8 ≤ u ∧ u ≤ 11 then (List.range 4).map (· + 20 + 4 * (u - 8)) else []

/-- Time has passed since the last power step: 10 ms before a PHY group, 0.5 ms before a CAN group (R363). -/
def unitSpaced (s : State) (u : Nat) : Bool :=
  decide (s.gaf.unitNs = 0) || decide (s.gaf.unitNs + (if u ≤ 7 then 10000000 else 500000) ≤ s.devNs)

/-- Group u is powered now. -/
def groupOn (u : Nat) (s : State) : State :=
  let s := wrf s R.GAF_UNITS u u 1
  { s with gaf := { s.gaf with unitNs := s.devNs } }

/-- Port p's group waits for its power step. -/
def unitWaits (s : State) (p : Nat) : Bool := s.gaf.unitWant.any (fun u => (unitPorts u).contains p)

/-- Bring port p into service where it is enabled and its segment is awake: an Ethernet port starts its link, a CAN
channel integrates, a LIN channel runs (R203, R222, R254); not before its group has power (R363). -/
def portStart (p : Nat) (s : State) : State :=
  if !portEnabled s p || segDown s p || unitWaits s p then s
  else if isEthPort p then
    let l := rdf s (R.PORT_ETH_STATE p) 31 28
    if l = 0 ∨ l = 4 then wrf s (R.PORT_ETH_STATE p) 31 28 1 else s
  else if isCanPort p then
    let st := rdf s (R.PORT_CAN_STATE p) 31 28
    let s := if st = 0 ∨ st = 9 ∨ (st = 7 ∧ linkState s p = 2) then
        -- a channel that left service in bus-off comes back in it: only its recovery ends it (R205, R206)
        let first := if (canChan s (p - 20)).off = 0 then 1 else (canChan s (p - 20)).off
        let s := wrf (wrf s (R.PORT_CAN_STATE p) 31 28 first) (R.PORT_CAN_STATE p) 27 24 3
        let s := setCan (p - 20) { canChan s (p - 20) with integrating := false } s
        if st = 0 then canLenStart (p - 20) s else s
      else s
    poolUp p (gateStart p s)
  else if isLinPort p then
    let st := rdf s (R.PORT_LIN_STATE p) 31 28
    let s := if st = 0 ∨ st = 3 then
        let s := wrf (wrf s (R.PORT_LIN_STATE p) 31 28 1) (R.PORT_LIN_STATE p) 24 19 0
        let s := setLin (p - 36) { linChan s (p - 36) with next := 0, resume := [], ident := none, activeNs := s.devNs, slept := false, reply := none, pulse := false } s
        portCause p 0 false s
      else s
    linDrain p (poolUp p s)
  else s

/-- An Ethernet port's link is down: cause 1 with its fault line and LINK_DOWNS, its rate 0, R101 (R222, R247). -/
def ethLinkLost (p st : Nat) (s : State) : State :=
  let was := rdf s (R.PORT_ETH_STATE p) 31 28
  let s := lpiRxExit p (lpiExit p s)
  let s := wrf (wrf s (R.PORT_ETH_STATE p) 31 28 st) (R.PORT_ETH_STATE p) 27 24 0
  let s := wrf s (R.PORT_ETH_STATE p) 20 18 0
  let s := txAbort p s
  let s := wrf s (R.SCH_PORT_STATE p) 11 8 0
  let s := if was = 2 ∨ was = 3 then portFault p 1 (inc s (R.PORT_ETH_CNT p 7)) else s
  linkLoss p { s with sched := { s.sched with pauseOut := s.sched.pauseOut.del p } }

/-- Take port p out of service: disabled in its scene or by its segment's end (R101, R203). -/
def portStop (p : Nat) (s : State) : State :=
  if isEthPort p then
    if rdf s (R.PORT_ETH_STATE p) 31 28 = 5 then s else ethLinkLost p 0 s
  else if isCanPort p then
    let s := canOffMark (p - 20) (j1939Off (p - 20) (canAbort (p - 20) s))
    linkLoss p (wrf (wrf s (R.PORT_CAN_STATE p) 31 28 0) (R.PORT_CAN_STATE p) 27 24 0)
  else if isLinPort p then
    if rdf s (R.PORT_LIN_STATE p) 31 28 = 4 then s else
    let s := setLin (p - 36) { linChan s (p - 36) with ident := none, reply := none, pulse := false } s
    linkLoss p (wrf s (R.PORT_LIN_STATE p) 31 28 0)
  else s

-- Segment state changes (R334 to R342) --------------------------------------------------------------------------

/-- Time left on a segment's state timer, ms, 0 where none runs (GAF_NM_SEG_STATE TIMER_MS). -/
def segTimer (s : State) (p : Nat) : Nat :=
  let x := seg s p
  let left (since ms : Nat) : Nat := (since + ms * 1000000 - s.devNs) / 1000000
  match segState s p with
  | 1 => left x.sinceNs (rdf s (R.GAF_NM_TIMES p) 31 16)
  | 3 => left x.silenceNs (rdf s (R.GAF_NM_TIMES_4 p) 31 16)
  | 4 => if segCommitted s p then 0 else left x.sinceNs (rdf s (R.GAF_NM_TIMES_8 p) 15 0)
  | _ => 0

/-- Segment p enters a state. -/
def segEnter (p st : Nat) (s : State) : State :=
  let s := wrf (wrf s (R.GAF_NM_SEG_STATE p) 31 28 st) (R.GAF_NM_SEG_STATE p) 27 27 0
  let x := seg s p
  let s := setSeg p { x with sinceNs := s.devNs, silenceNs := if st = 3 ∧ segMode s p = 1 then s.devNs else x.silenceNs } s
  wrf s (R.GAF_NM_SEG_STATE p) 15 0 (segTimer s p)

/-- Start the coupling holds of segment p's COUPLE set (R342). -/
def coupleStart (p : Nat) (s : State) : State :=
  let set := cnt s (R.GAF_NM_SEG_COUPLE p)
  forEach (bitsOf set 44) (fun q s =>
    if isSeg q && portEnabled s q then
      let ms := rdf s (R.GAF_NM_TIMES_8 p) 31 16
      setSeg q { seg s q with coupleNs := s.devNs + ms * 1000000 } s
    else s) s

/-- A wake pulse of 1.0 ms on LIN port p (R254); its transmitter stays recessive in safe state (R378). -/
def linWakePulse (p : Nat) (s : State) : State :=
  if inSafe s then s else emit (.linWake p 1000) (inc s (R.PORT_LIN_CNT p 12))

/-- The group that holds port p is powered, unless it is fenced; one step at a time, so that a group may have to wait
(R363, R365). -/
def groupPower (p : Nat) (s : State) : State :=
  forEach ((List.range 8).map (· + 4)) (fun u s =>
    if !(unitPorts u).contains p || rdb s R.GAF_UNITS (16 + u) || rdb s R.GAF_UNITS u || s.gaf.unitWant.contains u then s
    else if s.gaf.unitWant.isEmpty && unitSpaced s u then groupOn u s
    else { s with gaf := { s.gaf with unitWant := s.gaf.unitWant ++ [u] } }) s

/-- Segment p leaves ASLEEP (R334, R342, R345): `why` is 0 a wake of its listener, 1 its own need, 2 a coupling hold, 3 the
start of an ALWAYS_ON segment. A TC10 link that the module itself wakes is sent a wake-up (R236). -/
def segRise (p why : Nat) (s : State) : State :=
  let s := segEnter p (if segMode s p = 0 then 1 else 2) s
  let s := setSeg p { seg s p with active := why == 1 || why == 2, latched := false, kaDueNs := s.devNs } (groupPower p s)
  let s := raise 352 (inc s (R.GAF_NM_CNT p 5))
  let s := wrf s R.GAF_NM_STATUS 1 1 0
  let s := if why = 1 ∨ why = 2 then setBits R.GAF_WAKE_REC 0x400 s else s
  let s := if why ≠ 0 ∧ p ≤ 11 ∧ rdb s (R.PORT_ETH_CFG p) 10 = true then inc s (R.PORT_ETH_CNT p 18) else s
  let s := if why = 2 then s else coupleStart p s
  let s := portStart p s
  if isLinPort p && (why == 1 || why == 2) && rdb s (R.PORT_LIN_CFG p) 15 then
    -- a commander woken by need or coupling: a wake pulse of 1 ms, its schedule 100 ms later (R254, R343)
    setLin (p - 36) { linChan s (p - 36) with slotNs := s.devNs + 101000000 } (linWakePulse p s)
  else s

/-- Latch a wake of segment p after its commit point (R338); a coupling hold gives way to any other reason. The record shows
it as LATCHED (R345). -/
def segLatch (p why : Nat) (s : State) : State :=
  let x := seg s p
  let s := if segCommitted s p then setBits R.GAF_WAKE_REC 0x100 s else s
  setSeg p { x with latched := true, latchWhy := if x.latched && x.latchWhy != 2 then x.latchWhy else why } s

/-- A wake request of segment p by the time of its arrival (R338); `why` as above. -/
def segWake (p why : Nat) (s : State) : State :=
  if !isSeg p || !portEnabled s p then s
  else if segState s p = 0 then segRise p why s
  else if segState s p = 4 then
    if segCommitted s p then segLatch p why s
    else
      let s := segEnter p 1 s
      let s := setSeg p { seg s p with active := why == 1 || why == 2, kaDueNs := s.devNs } s
      raise 355 (inc s (R.GAF_NM_CNT p 3))
  else s

/-- The copies that port p has selected and not started wait again as the heads of their queues (R340). -/
def segUnserve (p : Nat) (s : State) : State :=
  let waits := ((s.sched.next.get? p).toList ++ (s.sched.service.get? p).toList).filter (fun x => !x.started)
  forEach waits (fun x s => requeue x.desc (serviceEnd p x.desc (unserve p x.desc { s with
    cip := { s.cip with jobs := s.cip.jobs.filter (fun j => j.desc != some x.desc) } }))) s

/-- The commit point of segment p's wrap (R337, R340). -/
def segCommit (p : Nat) (s : State) : State :=
  let s := wrf s (R.GAF_NM_SEG_STATE p) 27 27 1
  let s := setSeg p { seg s p with latched := false, sinceNs := s.devNs } s
  let s := segUnserve p s
  let s := forEach (List.range 8) (fun c s => if sleepPolicy s p c = 0 then flushQueue (qOf p c) s else s) s
  let s := if isCanPort p then canPrune (p - 20) s else s
  let s := { s with pool := { s.pool with holdSince := s.pool.holdSince.del p } }
  let s := gateStop p (wrf s (R.CPL_PORT_STATE p) 9 8 2)
  if isEthPort p then wrf (lpiRxExit p (lpiExit p s)) (R.PORT_ETH_STATE p) 31 28 0 else s

/-- The medium of segment p reaches its low-power mode: ASLEEP, or awake at once on a latched wake (R337, R338). -/
def segAsleep (p : Nat) (s : State) : State :=
  let s := if isEthPort p then wrf (txAbort p s) (R.PORT_ETH_STATE p) 31 28 4
    else if isCanPort p then wrf (wrf (canOffMark (p - 20) (j1939Off (p - 20) (canAbort (p - 20) s))) (R.PORT_CAN_STATE p) 31 28 9) (R.PORT_CAN_STATE p) 27 24 1
    else wrf s (R.PORT_LIN_STATE p) 31 28 3
  let s := if isEthPort p then wrf s (R.SCH_PORT_STATE p) 11 8 0 else s
  let was := (seg s p).latched
  let why := (seg s p).latchWhy
  let s := segEnter p 0 s
  let s := setSeg p { seg s p with latched := false } s
  let s := raise 353 (inc s (R.GAF_NM_CNT p 4))
  if was then
    let s := raise 356 (inc s (R.GAF_NM_CNT p 6))
    segRise p why s
  else s

/-- A keep-alive is received on segment p: counted; the silence timer restarts; a wrap before its commit point falls
back to AWAKE_RELEASED (R334, R336). -/
def keepaliveIn (p : Nat) (s : State) : State :=
  let s := inc s (R.GAF_NM_CNT p 1)
  let s := if segState s p = 4 ∧ segCommitted s p = false then segEnter p 3 s else s
  setSeg p { seg s p with silenceNs := s.devNs } s

/-- Counted wake source of a segment (R346). -/
def fwSource (p : Nat) : Nat := if isCanPort p then p - 20 else if isLinPort p then 28 + (p - 36) else if p ≤ 11 then 16 + p else 63

-- Wake listeners of segments (R343, R344) --------------------------------------------------------------------------

/-- A CAN channel's nominal rate is one that a WUF listener decodes: 50 kbit/s to 1 Mbit/s, of 160 MHz (R344). -/
def wufRate (s : State) (n : Nat) : Bool :=
  let w := rd s (R.PORT_CAN_NBT (20 + n))
  let t := (fld w 30 22 + 1) * (fld w 21 14 + fld w 13 7 + 3)
  decide (160 ≤ t ∧ t ≤ 3200)

/-- A WUF listener's frame matches: identifier, IDE and DLC, and its data under the mask (R344). -/
def wufMatch (w : Wuf) (f : List Byte) : Bool :=
  let mask := leAt (padTo w.dataMask 8) 0 8
  decide (busFormat f ≤ 1) && (busFormat f == 1) == w.ext && (busIdent f &&& w.mask) == (w.ident &&& w.mask) &&
  hdrWord f 2 % 16 == w.dlc && (mask == 0 || (leAt (padTo ((busData f).take 8) 8) 0 8 &&& mask) != 0)

/-- What segment p's listener goes by: its SEG_CFG, and TC10_EN or the rate that WUF needs. During a resume the line die
still holds it (R354, R362). -/
def segListen (s : State) (p : Nat) : Option (Nat × Bool) :=
  if s.gaf.resuming then s.nm.listen.get? p
  else if portEnabled s p then
    some (rd s (R.GAF_NM_SEG_CFG p), if isCanPort p then wufRate s (p - 20) else p ≤ 11 && rdb s (R.PORT_ETH_CFG p) 10)
  else none

/-- The segment that a detection is on, where its listener is configured, powered at the present rung and watches; a dominant
level on a LIN bus wakes from 150 µs to 5 ms (R254, R343). -/
def segListens (s : State) (src : WakeSource) : Option Nat :=
  let on (p : Nat) (b : Nat → Bool → Bool) : Option Nat :=
    (segListen s p).bind (fun x =>
      let powered := decide (rung s ≤ 3) || (rung s == 4 && (isLinPort p || x.1.testBit 29))
      if b x.1 x.2 && powered && (segState s p == 0 || segState s p == 4) then some p else none)
  match src with
  | .canWup n => on (20 + n) (fun c _ => fld c 28 27 != 0)
  | .canWuf n f => on (20 + n) (fun c r => fld c 28 27 == 2 && r && wufMatch (s.nm.wuf.getD n ⟨0, 0, false, 0, []⟩) f)
  | .tc10 p => on p (fun _ t => t)
  | .lin m us => on (36 + m) (fun c _ => decide (150 ≤ us ∧ us ≤ 5000) && c.testBit 26)
  | _ => none

/-- A wake of segment p that is not suppressed waits at this instant: it comes before a commit point of the same instant
(R348). -/
def wakeWaits (s : State) (p : Nat) : Bool :=
  !(cnt s R.GAF_WAKE_SUPP).testBit (fwSource p) &&
  s.pending.any (fun c => match c with
    | .wakeDetected src => segListens s src == some p
    | _ => false)

/-- Lift every suppression: counts and windows of the lifted sources cleared, source 360 (R347). -/
def liftSuppress (s : State) : State :=
  let m := cnt s R.GAF_WAKE_SUPP
  let s := forEach (bitsOf m 36) (fun i s =>
    { (wr s (R.GAF_FW i) 0) with nm := { s.nm with window := s.nm.window.del i } }) s
  raise 360 (wrq s R.GAF_WAKE_SUPP 0)

/-- A valid frame on segment p within 500 ms of wakes under judgement: they are not false, and where one came from a
source that is not suppressed every suppression is lifted (R346, R347). -/
def validFrame (p : Nat) (s : State) : State :=
  let i := fwSource p
  let hit (x : Nat × Nat) : Bool := (x.1 == i || x.1 == 64) && decide (s.devNs ≤ x.2 + 500000000)
  if s.nm.judge.any hit then
    let s := { s with nm := { s.nm with judge := s.nm.judge.filter (fun x => !hit x) } }
    if cnt s R.GAF_WAKE_SUPP = 0 then s else liftSuppress s
  else s

end Sys2Proof.Machine
end

