-- ==== Sys2Proof/Machine/Wire.lean ====
section
/-! DEFINITION. Shapers, and the length of a copy as its port sends it (chapter 4). -/

namespace Sys2Proof.Machine

-- Shapers (R115) --------------------------------------------------------------------------------------------------

/-- Tokens of queue q now, in millionths of a byte. -/
def shaperLevel (s : State) (q : Nat) : Int :=
  let burst : Int := (rd s (R.SCH_Q_BURST q) * 1000000 : Nat)
  match s.sched.shaper.get? q with
  | none => burst
  | some x => min burst (x.1 + (rd s (R.SCH_Q_RATE q) * (s.devNs - x.2) : Nat))

def shaperOn (s : State) (q : Nat) : Bool := q < 152 && rdb s (R.SCH_Q_CFG q) 8

/-- Set queue q's tokens, with SCH_Q_TOKENS in 1/8 byte. -/
def shaperSet (q : Nat) (v : Int) (s : State) : State :=
  let s := { s with sched := { s.sched with shaper := s.sched.shaper.put q (v, s.devNs) } }
  wr s (R.SCH_Q_TOKENS q) (toU32 (v / 125000))

/-- Debit `w` wire bytes (a negative number credits, not above the burst). -/
def shaperDebit (q : Nat) (w : Int) (s : State) : State :=
  if shaperOn s q then
    let burst : Int := (rd s (R.SCH_Q_BURST q) * 1000000 : Nat)
    shaperSet q (min burst (shaperLevel s q - w * 1000000)) s
  else s

-- Lengths as sent (R112, R153) ------------------------------------------------------------------------------------

/-- Tag action of a copy's context on port p: 0 NONE, 1 INSERT, 2 STRIP (R153). -/
def tagAction (s : State) (p : Nat) (c : Copy) : Nat :=
  if 17 < p then 0 else
  match c.stream, c.seq with
  | some m, some _ => ((ctxFind s m p).map (fun k => rdf s (R.COL_CTX_CFG k) 27 26)).getD 0
  | _, _ => 0

/-- Offset of the EtherType that follows the VLAN tags (R56). -/
def tagOff (b : List Byte) : Nat :=
  let t := beAt b 12 2
  if t = 0x8100 ∨ t = 0x88A8 then (if beAt b 16 2 = 0x8100 then 20 else 16) else 12

def hasRtag (b : List Byte) : Bool := beAt b (tagOff b) 2 == 0xF1C1

/-- Bytes that the tag action adds or removes. -/
def tagDelta (s : State) (p : Nat) (c : Copy) (f : PFrame) : Int :=
  if f.bus then 0 else
  match tagAction s p c with
  | 1 => if hasRtag f.data then 0 else 6
  | 2 => if hasRtag f.data then -6 else 0
  | _ => 0

/-- Length of a copy before MACsec: a length still 0 counts as its ingress MAX_FRAME. -/
def sentLen (s : State) (p : Nat) (c : Copy) (f : PFrame) : Nat :=
  (((if f.tailWritten then f.len else maxFrame s f.src) : Int) + tagDelta s p c f).toNat

/-- MACsec protects this frame on port p. -/
def secOut (s : State) (p : Nat) (f : PFrame) : Bool := secyOn s p && !f.bus && !secBypass f.data

/-- W of a copy on port p. -/
def copyWire (s : State) (p : Nat) (c : Copy) (f : PFrame) : Nat :=
  sentLen s p c f + (if secOut s p f then secyBytes s p else 0) + 20

end Sys2Proof.Machine
end

