-- ==== Sys2Proof/Machine/Ingress.lean ====
section
/-! DEFINITION. The way of a frame from its verdict to the queues: captures (R386), what may be admitted where (R249,
R341, R390, R481), admission of each copy (R90 to R92), and frames built inside the module (R162). -/

namespace Sys2Proof.Machine

-- Timestamps and captures ---------------------------------------------------------------------------------------

/-- Ports with timestamp units (R277). -/
def hasStamps (p : Nat) : Bool := p ≤ 11 || p == 16 || p == 17

/-- gPTP event messages of port p that wait at this instant for unit u: they have first call on its stamps (R277). -/
def ptpWaits (s : State) (p u : Nat) : Nat :=
  (s.pending.filter (fun c => match c with
    | .syncReceived _ q .. => q == p && u % 2 == 0
    | .pdelayExchange q _ _ => q == p
    | _ => false)).length

/-- A capture's stamp from unit u (2p receive, 2p + 1 transmit) of port p: taken while at least two FIFO places are
free, else coarse, counted as TS_DEMOTED, source 261 (R277). Answers whether it is coarse. -/
def stampTake (p u : Nat) (s : State) : Bool × State :=
  if !hasStamps p then (true, s) else
  let n := s.sched.stamps.getD u 0 + ptpWaits s p u
  if n ≤ 2 then (false, { s with sched := { s.sched with stamps := s.sched.stamps.put u (s.sched.stamps.getD u 0 + 1) } })
  else (true, raise 261 (inc (inc s (R.TIM_CNT 6)) (R.TIM_PORT_CNT p (5 + u % 2))))

/-- A gPTP event message takes a stamp in unit u while its FIFO of four has a place (R277). -/
def ptpStamp (u : Nat) (s : State) : Bool × State :=
  let n := s.sched.stamps.getD u 0
  if 4 ≤ n then (false, s) else (true, { s with sched := { s.sched with stamps := s.sched.stamps.put u (n + 1) } })

/-- A timestamp unit's time within the 8 ns cycle that began at `t`: a free value (R268, log entry 12). -/
def stampNs (t : Nat) (s : State) : Nat × State := (t + (free s).1 % 8, (free s).2)

/-- The rushes-ring record of a frame with the capture flag (R386). Answers its stamp, where a timestamp unit took one. -/
def captureWrite (src : Nat) (data : List Byte) (len rxNs : Nat) (s : State) : Option Nat × State :=
  if !recOn s then (none, s) else
  let st := stampTake src (2 * src) s
  let s := st.2
  let x := slate s 3 0 src len (padTo (data.take 96) 96)
  let u := if st.1 then (rxNs / 1000 * 1000, s) else stampNs rxNs s
  let r := recStore 2 (x.dated s (!st.1) u.1) u.2
  (if st.1 then none else some u.1, inc r.2 (if r.1 then R.REC_CNT 4 else R.REC_CNT 5))

-- Fit of an unconverted bus copy (R481, R167) -------------------------------------------------------------------

/-- Highest FORMAT the mode of CAN port p sends, 0 when none (R192). -/
def canModeAllows (s : State) (p fmt : Nat) : Bool :=
  match rdf s (R.PORT_CAN_CFG p) 2 0 with
  | 1 => fmt ≤ 1
  | 2 => fmt ≤ 3
  | 3 => fmt ≤ 4
  | _ => fmt ≤ 1

/-- A frame fits CAN port p in its own format. -/
def canFits (s : State) (p : Nat) (bus : Bool) (f : List Byte) : Bool :=
  bus && busFormat f ≤ 4 && canModeAllows s p (busFormat f) && busLenOk (busFormat f) (busLen f) (busRtr f) &&
  (if busRtr f then busFormat f ≤ 1 else true)

/-- Count a NO_FIT copy of CAN port p (R168). -/
def convNoFit (p : Nat) (s : State) : State := raise 224 (inc s (R.SGE_CONV_CNT (p - 20) 1))

-- Traces (R390) -------------------------------------------------------------------------------------------------

/-- Bytes of the trace record of a frame (R386). -/
def traceBytes (f : PFrame) : Nat := 32 + ceilDiv f.data.length 32 * 32

/-- A copy for port 44 is sampled: answers whether it may be admitted. -/
def traceSample (src bytes : Nat) (s : State) : Bool × State :=
  let n := s.recd.traceSeen.getD src 0 + 1
  let s := { s with recd := { s.recd with traceSeen := s.recd.traceSeen.put src n } }
  if n % 2 ^ rdf s R.REC_STATUS 27 24 = 0 then (true, s)
  else
    let g := s.recd.gaps.getD 3 ⟨0, 0, 0, 0, 0⟩
    let s := { s with recd := { s.recd with gaps := s.recd.gaps.put 3 { g with sampled := g.sampled + 1, sampledBytes := g.sampledBytes + bytes } } }
    (false, inc s (R.REC_CNT 7))

-- Handover ------------------------------------------------------------------------------------------------------

/-- What a handed-over frame carries from its verdict. -/
structure Hand where
  dest : Nat
  tc : Nat
  attr : CopyAttr
  /-- the frame left its conversion engine: fit is already judged -/
  converted : Bool
  deriving DecidableEq, Repr

/-- A copy that port p did not take: withdrawal notice (R91, R143). -/
def copyLost (p : Nat) (a : CopyAttr) (s : State) : State :=
  match a.stream, a.seq with
  | some m, some n => if p ≤ 19 then withdraw m n p s else s
  | _, _ => s

/-- Admit a copy while its port sleeps under HOLD or WAKE: the link test of R90 passes (R341). -/
def admitAsleep (fid p tc q : Nat) (a : CopyAttr) (s : State) : Except Nat Nat × State :=
  let st := linkState s p
  let r := admitCopy fid p tc q a (wrf s (R.CPL_PORT_STATE p) 9 8 0)
  (r.1, wrf r.2 (R.CPL_PORT_STATE p) 9 8 st)

/-- What is to become of a judged copy once every copy of its frame has been judged (R92). -/
inductive Judged where
  /-- not for this port at all: no copy, no notice -/
  | gone
  /-- refused or not taken: a withdrawal notice (R91, R143) -/
  | lost
  /-- admitted: to the collator or its queue; a sleeping segment is woken where its policy is WAKE (R341) -/
  | admitted (d : Nat) (wakes : Bool)
  /-- admitted for a LIN frame buffer (R249) -/
  | lin (d : Nat)
  deriving DecidableEq, Repr

/-- An admission's answer as a judgement. -/
def judged (f : Nat → Judged) (r : Except Nat Nat × State) : Judged × State :=
  match r.1 with
  | .ok d => (f d, r.2)
  | .error _ => (.lost, r.2)

/-- Judge one copy of frame `fid` for port p (R90, R157, R249, R341, R390, R481). -/
def copyJudge (fid : Nat) (f : PFrame) (h : Hand) (p : Nat) (s : State) : Judged × State :=
  let q := qOf p h.tc
  if isCanPort p && !h.converted && !canFits s p f.bus f.data then (.gone, convNoFit p s)
  else if p = 44 then
    let t := traceSample f.src (traceBytes f) s
    if !t.1 then (.lost, t.2) else
    let r := admitCopy fid p h.tc q h.attr t.2
    match r.1 with
    | .ok d => (.admitted d false, r.2)
    -- a trace that the pool refuses is lost (R389)
    | .error _ => (.lost, noteLoss 3 0 (traceBytes f) (inc r.2 (R.REC_CNT 8)))
  else if flushWaits s p then (.lost, refuse q 4 (flushPort p s))
  else if isSeg p && portEnabled s p && segDown s p then
    let pol := sleepPolicy s p h.tc
    if pol = 0 then (.lost, raise 361 (inc (refuse q 4 s) (R.GAF_NM_CNT p 7)))
    else if rdf s (R.GAF_NM_POLICY p h.tc) 23 16 ≤ queueLen s q then
      (.lost, raise 362 (inc (refuse q 4 s) (R.GAF_NM_CNT p 8)))
    else judged (.admitted · (pol == 2)) (admitAsleep fid p h.tc q h.attr s)
  else if isLinPort p then judged .lin (admitCopy fid p h.tc q h.attr s)
  else judged (.admitted · false) (admitCopy fid p h.tc q h.attr s)

/-- What follows a copy's judgement. -/
def copyAfter (h : Hand) (p : Nat) (j : Judged) (s : State) : State :=
  match j with
  | .gone => s
  | .lost => copyLost p h.attr s
  | .admitted d wakes =>
    let s := collate p d s
    if wakes then segWake p 1 s else s
  | .lin d => linTake p d (joinQueue (qOf p h.tc) d s)

/-- One copy of frame `fid` for port p, judged and placed. -/
def copyTo (fid : Nat) (f : PFrame) (h : Hand) (p : Nat) (s : State) : State :=
  let r := copyJudge fid f h p s
  copyAfter h p r.1 r.2

/-- Judge a frame's copies one after another, nothing else in between (R92). -/
def judgeAllCopies (fid : Nat) (f : PFrame) (h : Hand) : List Nat → State → List (Nat × Judged) × State
  | [], s => ([], s)
  | p :: t, s =>
    let r := copyJudge fid f h p s
    let u := judgeAllCopies fid f h t r.2
    ((p, r.1) :: u.1, u.2)

/-- Hand a frame over to the pool: ADMITTED, every copy judged in one decision, then queued, and its cells freed where every
copy was refused (R68, R88, R90, R92). Answers the frame's number. -/
def handOver (f : PFrame) (h : Hand) (s : State) : Nat × State :=
  let r := newFrame f s
  let fid := r.1
  let s := wmUpdate (inc r.2 (R.LKU_PORT_CNT f.src 0))
  let u := judgeAllCopies fid ((s.pool.frames.get? fid).getD f) h (bitsOf h.dest 45) s
  (fid, freeFrame fid (forEach u.1 (fun x s => copyAfter h x.1 x.2 s) u.2))

-- Tails (R71, R83, R90) -------------------------------------------------------------------------------------------

/-- Refund copy d of a cut-through frame the difference between its charge and `n` cells, and write its final length and
mark (R87, R90). -/
def refundCopy (d n src tc len : Nat) (mark : Bool) (s : State) : State :=
  match s.pool.copies.get? d with
  | none => s
  | some c =>
    let k := c.cells - n
    let s := chargeLevels c.q c.part k src tc (-1) s
    let s := if c.queued then queueLevels c.q k (-1) s else s
    let s := { s with pool := { s.pool with copies := s.pool.copies.put d { c with cells := n } } }
    wrf s (R.CPL_DESC d) 14 0 ((if mark then 2 ^ 14 else 0) + len % 0x4000)

/-- A copy of frame `fid` that port p sends by cut-through is debited at its actual length from the tail on (R115). -/
def tailDebit (fid p : Nat) (s : State) : State :=
  match s.sched.service.get? p with
  | none => s
  | some x =>
    match s.pool.copies.get? x.desc, s.pool.frames.get? fid with
    | some y, some f =>
      if y.frame = fid ∧ x.started = true then
        let w := copyWire s p y f
        let s := shaperDebit y.q ((w : Int) - x.wire) s
        { s with sched := { s.sched with service := s.sched.service.put p { x with wire := w } } }
      else s
    | _, _ => s

/-- The last fabric word of frame `fid` is written with its tail mark; copies are refunded, and the frame is freed where
its last copy has gone (R83, R90, R93). -/
def closeTail (fid : Nat) (mark : Bool) (s : State) : State :=
  match s.pool.frames.get? fid with
  | none => s
  | some f =>
    if f.tailWritten then s else
    let s := { s with pool := { s.pool with frames := s.pool.frames.put fid { f with tailWritten := true, tailMark := mark } } }
    let ds := (s.pool.copies.filter (fun x => x.2.frame = fid)).map Prod.fst
    let s := forEach ds (fun d s => refundCopy d (cellsOf f.len) f.src f.tc f.len mark s) s
    let s := forEach (s.sched.service.map Prod.fst) (tailDebit fid) s
    wmUpdate (freeFrame fid s)

/-- Cells of the frames that wait to be handed over, in the ingress pipeline, a cipher job or before an engine, which frees
them once it has read them (R88 STAGING, R162). A clapper frame and a message for an encapsulation record never become pool
frames. -/
def stagedCells (s : State) : Nat :=
  ((s.ing ++ (s.cip.jobs.filter (fun j => j.clap.isNone && j.layout.isNone)).filterMap CipJob.x).map
    (fun x => if x.tail == .gone || x.decided.any (fun d => d.handed.isSome || d.spent) then 0 else cellsOf x.data.length)).foldl (· + ·) 0 +
  ((s.sge.jobs.flatMap Prod.snd).map (fun j =>
    if (j.frame.bind (fun k => s.pool.frames.get? k)).isSome then 0 else cellsOf (j.data.length + j.trailer.length))).foldl (· + ·) 0

/-- Bring STAGING and the free cells up to date. -/
def stageSync (s : State) : State :=
  let n := stagedCells s
  let old := rd s (R.CPL_PART_USE 0)
  if n = old then s
  else wmUpdate (bump R.CPL_FREE_CELLS ((old : Int) - n) (wr s (R.CPL_PART_USE 0) n))

/-- Hand a cut-through frame over before its tail (R70): answers its number. `data` is what has reached the pool, `cells`
what the whole takes. -/
def cutHand (x : Ing) (d : Decided) (data : List Byte) (cells : Nat) (s : State) : Nat × State :=
  let f : PFrame := {
    bus := x.bus, data := data, src := x.src, tc := d.tc, cutThrough := true, tailWritten := false
    tailMark := false, refs := 0, cells := cells, rxNs := x.rxNs, stamped := x.stamped }
  handOver f ⟨d.v.dest, d.tc, ⟨d.dp, d.v.maxAge, d.seq, d.v.stream, d.v.cipher == .encrypt, x.tsReq⟩, false⟩ s

/-- A frame built inside the module, handed over whole as a frame from port 19 (R162). -/
def builtFrame (bus : Bool) (data : List Byte) (dest tc maxAge : Nat) (converted encrypt : Bool) (s : State) : State :=
  let f : PFrame := {
    bus := bus, data := data, src := 19, tc := tc, cutThrough := false, tailWritten := true, tailMark := false
    refs := 0, cells := cellsOf data.length, rxNs := s.devNs }
  (handOver f ⟨dest, tc, ⟨0, maxAge, none, none, encrypt, none⟩, converted⟩ s).2

/-- A whole frame received at port x.src with its verdict: to the pool, and to its engine where it has a bridging action
(R161, R163). `data` is the frame as its cipher action left it; `padded`: RESEAL padded it for its conversion. -/
def deliver (x : Ing) (d : Decided) (data trailer : List Byte) (padded : Bool) (s : State) : State :=
  let f : PFrame := {
    bus := x.bus, data := data ++ trailer, src := x.src, tc := d.tc, cutThrough := false, tailWritten := true
    tailMark := false, refs := 0, cells := cellsOf (data.length + trailer.length), rxNs := x.rxNs, stamped := x.stamped }
  let h : Hand := ⟨d.v.dest, d.tc, ⟨d.dp, d.v.maxAge, d.seq, d.v.stream, d.v.cipher == .encrypt, x.tsReq⟩, false⟩
  let job (e : Nat) (frame : Option Nat) (s : State) : State :=
    let j : Job := ⟨x.bus, data, x.src, d.v, d.tc, x.rxNs, false, trailer, padded, frame⟩
    { s with sge := { s.sge with jobs := s.sge.jobs.put e (s.sge.jobs.getD e [] ++ [j]) } }
  match d.v.bridge with
  | .none => (handOver f h s).2
  | .canConvert => job 1 none (inc s (R.LKU_PORT_CNT x.src 0))
  | .encap1722 => job 2 none (inc s (R.LKU_PORT_CNT x.src 0))
  | .unpack1722 => job 3 none (inc s (R.LKU_PORT_CNT x.src 0))
  | .signal =>
    if d.v.dest = 0 then job 4 none (inc s (R.LKU_PORT_CNT x.src 0))
    else
      let r := handOver f h s
      job 4 (some r.1) r.2
  | .transport => job 5 none (inc s (R.LKU_PORT_CNT x.src 0))

end Sys2Proof.Machine
end

