-- ==== Sys2Proof/Machine/Capsule.lean ====
section
/-! DEFINITION. IEEE 1722 capsules that the module builds (R170 to R173): the messages of bus frames, and the frames that
carry them. -/

namespace Sys2Proof.Machine

/-- A memory error stopped record r of engine e (R187): 1 conversion, 2 capsule, 3 unpack, 4 a signal layout, 5 transport. -/
def recStopped (s : State) (e r : Nat) : Bool := s.sge.stoppedRecs.contains (e, r)

-- Capsules: messages (R170, R173) ---------------------------------------------------------------------------------

/-- Zeros up to a quadlet. -/
def padQuad (l : List Byte) : List Byte := padTo l (ceilDiv l.length 4 * 4)

/-- First four bytes of an ACF message (log entry 10). -/
def acfHead (ty quads b2 b3 : Nat) : List Byte := beBytes (ty * 512 + quads) 2 ++ beBytes b2 1 ++ beBytes b3 1

/-- The ACF message of a CAN, CAN FD or LIN frame (R170). -/
def acfMessage (brief : Bool) (bus : Nat) (f data : List Byte) (ns : Nat) : List Byte :=
  let b (x : Bool) (n : Nat) : Nat := if x then n else 0
  let pad := ceilDiv data.length 4 * 4 - data.length
  let time := beBytes (ns % 2 ^ 64) 8
  if busFormat f = 5 then
    acfHead 3 (3 + ceilDiv data.length 4) (pad * 64 + 32 + bus) (busIdent f % 64) ++ time ++ padQuad data
  else
    let flags := pad * 64 + b (!brief) 32 + b (busRtr f) 16 + b (is29 (busFormat f)) 8 + b (busBrs f) 4 +
      b (busFormat f == 2 || busFormat f == 3) 2 + b ((hdrWord f 1).testBit 29) 1
    let words := (if brief then 2 else 4) + ceilDiv data.length 4
    acfHead (if brief then 2 else 1) words flags bus ++ (if brief then [] else time) ++ beBytes (busIdent f) 4 ++ padQuad data

/-- The XL capsule entry of a CAN XL frame (R173). -/
def xlEntry (bus : Nat) (f data : List Byte) (ns : Nat) : List Byte :=
  let sec := if (hdrWord f 1).testBit 28 then 2 ^ 21 else 0
  beBytes (2 ^ 28 + bus * 2 ^ 23 + 2 ^ 22 + sec + (6 + ceilDiv data.length 4)) 4 ++
  beBytes (busIdent f % 0x800 * 2 ^ 21 + busVcid f * 2 ^ 11 + busSdt f * 8) 4 ++
  beBytes (hdrWord f 2) 4 ++ beBytes ((data.length - 1) % 0x800) 4 ++ beBytes (ns % 2 ^ 64) 8 ++ padQuad data

-- Capsules: frames (R171, R172) -----------------------------------------------------------------------------------

def encKind (s : State) (e : Nat) : Nat := rdf s (R.SGE_ENC_CFG e) 30 29

/-- The Ethernet frame of record e around a payload (R171; VSF fields per log entry 10). -/
def encFrame (s : State) (e firstNs : Nat) (payload : List Byte) : List Byte :=
  let x := s.sge.encX.getD e ⟨0, 0, 0xFFFF, 0, 0⟩
  let seq := rdf s (R.SGE_ENC_STATE e) 23 16
  let stream := beBytes (cnt s (R.SGE_ENC_STREAM e)) 8
  let n := payload.length
  let avtp := match encKind s e with
    | 0 => beBytes 0x82 1 ++ beBytes (0x8000 + n % 0x800) 2 ++ beBytes seq 1 ++ stream
    | 1 => [0x05, 0x81] ++ beBytes seq 1 ++ [0] ++ stream ++ beBytes ((firstNs + x.presentUs * 1000) % 0x100000000) 4 ++
        [0, 0, 0, 0] ++ beBytes n 2 ++ [0, 0]
    | _ => [0x6F, 0x80] ++ beBytes seq 1 ++ [0] ++ stream ++ [0, 0, 0, 0, 0, 0, 0, 0] ++ beBytes (n + 6) 2 ++ [0, 0] ++
        beBytes x.vendor 6
  let vlan := if x.vlan = 0xFFFF then [] else beBytes 0x8100 2 ++ beBytes x.vlan 2
  withFcs (padTo (beBytes x.dst 6 ++ beBytes x.src 6 ++ vlan ++ beBytes 0x22F0 2 ++ avtp ++ payload) 60)

/-- Send a payload of record e as one frame. -/
def encSend (e firstNs dest tc maxAge : Nat) (payload : List Byte) (s : State) : State :=
  let f := encFrame s e firstNs payload
  let s := wrf s (R.SGE_ENC_STATE e) 23 16 (rdf s (R.SGE_ENC_STATE e) 23 16 + 1)
  builtFrame false f dest tc maxAge false false (inc s (R.SGE_ENC_CNT e 1))

/-- Record e's state register after a change of its open frame. -/
def encReg (e : Nat) (s : State) : State :=
  match s.sge.encOpen.get? e with
  | none => wrf (wrf s (R.SGE_ENC_STATE e) 31 31 0) (R.SGE_ENC_STATE e) 10 0 0
  | some o => wrf (wrf s (R.SGE_ENC_STATE e) 31 31 1) (R.SGE_ENC_STATE e) 10 0 o.bytes.length

/-- Close record e's open frame, counted in SGE_ENC_CNT[e][k] (2 CLOSE_BYTES, 3 CLOSE_TIMER). -/
def encClose (e k : Nat) (s : State) : State :=
  match s.sge.encOpen.get? e with
  | none => s
  | some o =>
    let s := { s with sge := { s.sge with encOpen := s.sge.encOpen.del e } }
    encReg e (encSend e o.firstNs o.dest o.tc o.maxAge o.bytes (inc s (R.SGE_ENC_CNT e k)))

/-- A message that record e cannot carry. -/
def encNoFit (e : Nat) (s : State) : State := raise 224 (inc s (R.SGE_ENC_CNT e 4))

/-- A frame of record e around `msg` fits the MAX_FRAME of every destination port (R172). -/
def encAloneFits (s : State) (e dest : Nat) (msg : List Byte) : Bool :=
  (bitsOf dest 19).all (fun p => decide ((encFrame s e 0 msg).length ≤ maxFrame s p))

/-- WINDOW_US has passed since the first message of record e's open frame. -/
def encDue (s : State) (e : Nat) : Bool :=
  (s.sge.encOpen.get? e).any (fun o => decide (o.openNs + rdf s (R.SGE_ENC_WIN e) 13 0 * 1000 ≤ s.devNs))

/-- Add a message to record e; one that comes as the window ends is added where it fits, and the frame closes then (R172). -/
def encAdd (e dest tc maxAge ns : Nat) (msg : List Byte) (s : State) : State :=
  let maxB := rdf s (R.SGE_ENC_CFG e) 10 0
  if maxB < msg.length && !encAloneFits s e dest msg then encNoFit e s else
  let s := inc s (R.SGE_ENC_CNT e 0)
  let full := (s.sge.encOpen.get? e).any (fun o => decide (maxB < o.bytes.length + msg.length))
  let s := if full then encClose e 2 s else s
  if rdf s (R.SGE_ENC_WIN e) 13 0 = 0 ∨ maxB < msg.length then encSend e ns dest tc maxAge msg s
  else
    let o := s.sge.encOpen.getD e ⟨[], ns, s.devNs, dest, tc, maxAge⟩
    let s := encReg e { s with sge := { s.sge with encOpen := s.sge.encOpen.put e { o with bytes := o.bytes ++ msg } } }
    if encDue s e then encClose e 3 s else s

/-- The message of record e that a bus frame becomes. -/
def encMessage (s : State) (e bus : Nat) (f data : List Byte) (ns : Nat) : List Byte :=
  if busFormat f == 4 then xlEntry bus f data ns else acfMessage (rdb s (R.SGE_ENC_CFG e) 28) bus f data ns

/-- A bus frame becomes a message of record e: a CAN XL frame fits only a VSF record, any other only an ACF record. -/
def encBus (e bus dest tc maxAge : Nat) (f data : List Byte) (ns : Nat) (s : State) : State :=
  let xl := busFormat f == 4
  if recStopped s 2 e then s
  else if xl != (encKind s e == 2) then encNoFit e s
  else encAdd e dest tc maxAge ns (encMessage s e bus f data ns) s

end Sys2Proof.Machine
end

