-- ==== Sys2Proof/Machine/Vault.lean ====
section
/-! DEFINITION. The vault's key table and lifecycle (chapter 11): attributes, uses, derivation, subtrees, import and the
erase. -/

namespace Sys2Proof.Machine

/-- Lifecycle: 0 BLANK, 1 SEALED, 2 OPENED, 3 ERASED (R286). -/
def lifecycle (s : State) : Nat := rdf s R.VLT_STATUS 31 28

/-- Word w of entry i's attribute record (R289). -/
def ktAddr (i w : Nat) : Nat := R.VLT_KT_ATTR i + 4 * w

def ktValid (s : State) (i : Nat) : Bool := rdb s (ktAddr i 0) 31
def ktStale (s : State) (i : Nat) : Bool := rdb s (ktAddr i 0) 30
def ktVolatile (s : State) (i : Nat) : Bool := rdb s (ktAddr i 0) 29
def ktParent (s : State) (i : Nat) : Nat := rdf s (ktAddr i 0) 11 0
def ktGen (s : State) (i : Nat) : Nat := rd s (ktAddr i 1)
def ktUses (s : State) (i : Nat) : Nat := rd s (ktAddr i 3)

/-- Usage bits: 5 SEAL_GEN, 4 SEAL_VER, 3 SAK, 2 WRAP, 1 DERIVE, 0 IMPORT. -/
def ktUsage (s : State) (i b : Nat) : Bool := rdb s (ktAddr i 0) (18 + b)

/-- Counts of valid, volatile and stale entries (VLT_KT_COUNT, VLT_KT_STALE). -/
def ktCounts (s : State) : State :=
  let l := s.vault.keys.map Prod.fst
  let v := l.filter (ktValid s)
  let s := wr s R.VLT_KT_COUNT ((v.filter (ktVolatile s)).length * 0x1000 + v.length)
  wr s R.VLT_KT_STALE (l.filter (ktStale s)).length

/-- Entry i's attributes as its wrap key takes them: word 0, GEN and PARENT_GEN (R288). -/
def ktAttrs (s : State) (i : Nat) : Nat × Nat × Nat := (rd s (ktAddr i 0), rd s (ktAddr i 1), rd s (ktAddr i 2))

/-- Entry i's material is wrapped under its present attributes (R289, R291). -/
def ktWrap (i : Nat) (s : State) : State := { s with vault := { s.vault with bound := s.vault.bound.put i (ktAttrs s i) } }

/-- Put an entry: attributes and material; its record in NAND holds its USES, of which no reservation is taken yet (R290). -/
def ktPut (i w0 gen pgen uses key : Nat) (s : State) : State :=
  let s := ktWrap i (wr (wr (wr (wr s (ktAddr i 0) w0) (ktAddr i 1) gen) (ktAddr i 2) pgen) (ktAddr i 3) uses)
  { s with vault := { s.vault with
    keys := s.vault.keys.put i key
    committed := if w0.testBit 29 then s.vault.committed else s.vault.committed.put i uses } }

/-- Remove an entry. -/
def ktDrop (i : Nat) (s : State) : State :=
  let s := wr (wr (wr (wr s (ktAddr i 0) 0) (ktAddr i 1) 0) (ktAddr i 2) 0) (ktAddr i 3) 0
  { s with vault := { s.vault with keys := s.vault.keys.del i, bound := s.vault.bound.del i, committed := s.vault.committed.del i } }

/-- Entry k lies in the subtree below i. -/
def ktBelow (s : State) (i : Nat) : Nat → Nat → Bool
  | 0, _ => false
  | n + 1, k => let p := ktParent s k
                if p = 0xFFF then false else p == i || ktBelow s i n p

/-- Mark the descendants of entry i STALE; lanes holding them show STALE (R291, R293). -/
def ktStaleBelow (i : Nat) (s : State) : State :=
  let ds := (s.vault.keys.map Prod.fst).filter (ktBelow s i 2048)
  forEach ds (fun k s => wrf s (ktAddr k 0) 30 30 1) s

/-- One use of entry i (R290): answers OK 0, DENIED 2, KEY_STALE 7 or KEY_SPENT 8. USES is committed in reservations of
64, and event 327 is raised when it falls to USE_WARN. -/
def keyUse (i : Nat) (s : State) : Nat × State :=
  if lifecycle s ≠ 1 then (2, s)
  else if ktStale s i then (7, inc s (R.VLT_CNT 3))
  else if ktValid s i = false then (2, s)
  else if ktVolatile s i then (0, s)
  else if ktUses s i = 0 then (8, raise 326 (inc s (R.VLT_CNT 4)))
  else
    let u := ktUses s i
    let s := if u ≤ s.vault.committed.getD i 0 then
        inc { s with vault := { s.vault with committed := s.vault.committed.put i (u - 64) } } (R.VLT_CNT 9)
      else s
    let s := wr s (ktAddr i 3) (u - 1)
    (0, if u - 1 = rd s R.VLT_USE_WARN then raise 327 s else s)

/-- HMAC-SHA-256 of a message under a key of at most 64 bytes (FIPS 198-1; log entry 6). -/
def hmac (key msg : List Byte) : List Byte :=
  let k := padTo key 64
  Config.sha256 (k.map (· ^^^ 0x5C) ++ Config.sha256 (k.map (· ^^^ 0x36) ++ msg))

/-- The KDF of R288: NIST SP 800-108 in counter mode with HMAC-SHA-256, a 32-bit counter, the label, 0x00, the context and the
output length in bits, 32 bits. -/
def kdf (key : List Byte) (label : String) (context : List Byte) (bits : Nat) : List Byte :=
  let name := label.toList.map (fun c => BitVec.ofNat 8 c.toNat)
  ((List.range (ceilDiv bits 256)).flatMap (fun i =>
    padTo ((hmac key (beBytes (i + 1) 4 ++ name ++ [0] ++ context ++ beBytes bits 4)).take 32) 32)).take (bits / 8)

/-- A 256-bit key that the KDF derives from a 256-bit key. -/
def kdf256 (key : Nat) (label : String) (context : List Byte) : Nat := beAt (kdf (beBytes key 32) label context 256) 0 32

/-- Wrap key of entry i with attributes `a`, which it binds (R288, R289). -/
def wrapKey (s : State) (i : Nat) (a : Nat × Nat × Nat) : Nat :=
  kdf256 (s.vault.kek.getD 0) "XG9680-WRAP" (beBytes i 2 ++ beBytes a.1 4 ++ beBytes a.2.1 4 ++ beBytes a.2.2 4)

/-- The key material that entry i stores: its key under the wrap key of the attributes it was last wrapped with (R289). -/
def ktMaterial (s : State) (i : Nat) : Nat :=
  Config.aesWrap (wrapKey s i (s.vault.bound.getD i (ktAttrs s i))) (s.vault.keys.getD i 0)

/-- The value of key i as it unwraps: an entry whose attributes were altered unwraps to a different key (R289). -/
def keyVal (s : State) (i : Nat) : Nat :=
  if s.vault.bound.get? i = some (ktAttrs s i) then s.vault.keys.getD i 0
  else Config.aesUnwrap (wrapKey s i (ktAttrs s i)) (ktMaterial s i)

/-- Derived child key: KDF of the parent with index, word 0, parent GEN and derivation data (R288). -/
def childKey (s : State) (i w0 : Nat) : Nat :=
  let p := w0 % 0x1000
  kdf256 (keyVal s p) "XG9680-DRV"
    (beBytes i 2 ++ beBytes w0 4 ++ beBytes (ktGen s p) 4 ++ padTo (s.vault.deriv.getD i []) 16)

/-- ML-KEM seeds d and z of the present epoch (R288). -/
def kemSeeds (s : State) : List Byte :=
  kdf (beBytes (s.vault.root.getD 0) 32) "XG9680-KEM" (beBytes (rdf s R.VLT_STATUS 15 0) 2) 512

/-- Seed and identifier of a tree of the identity key: level 0 has tree 0 alone (R446). -/
def hssSeed (s : State) (level tree : Nat) : List Byte :=
  kdf (beBytes (s.vault.root.getD 0) 32) "XG9680-HSS" (beBytes level 1 ++ beBytes tree 4) 384

/-- Key material drawn from the DRBG (R291). -/
def drbgKey (s : State) : Nat × State := (Config.drbg s.drawn, { s with drawn := s.drawn + 1 })

/-- Report an operation's result in VLT_OP_STATUS; DENIED raises 332 (R291, R306). -/
def vltResult (op reqr i code : Nat) (s : State) : State :=
  let s := wr s R.VLT_OP_STATUS (code * 2 ^ 24 + op * 2 ^ 20 + reqr * 2 ^ 16 + i % 0x1000)
  if code = 2 then raise 332 s else s

/-- Requester of an operation: 0 safety pair, 1 cluster, 2 host. -/
def vltReq : Requester → Nat
  | .safetyPair => 0
  | .hostPcie => 2
  | .spi => 2
  | _ => 1

/-- DERIVE i (R291). -/
def vltDerive (reqr i : Nat) (s : State) : State :=
  let w0 := rd s (ktAddr i 0)
  let p := ktParent s i
  if lifecycle s ≠ 1 ∨ reqr = 2 ∨ ktValid s i = false ∨ p = 0xFFF ∨ ktUsage s p 1 = false then vltResult 0 reqr i 2 s
  else
    let u := keyUse p s
    if u.1 ≠ 0 then vltResult 0 reqr i u.1 u.2
    else
      let s := u.2
      let w := putFld (putFld w0 30 30 0) 28 27 2
      let uses := if w.testBit 29 then 0 else s.vault.defUses.getD i (ktUses s i)
      let s := ktPut i w (ktGen s i) (ktGen s p) uses (childKey s i w) s
      vltResult 0 reqr i 0 (ktCounts (inc s (R.VLT_CNT 1)))

/-- GENERATE i (R291): the entry must be volatile. -/
def vltGenerate (reqr i : Nat) (s : State) : State :=
  let w0 := rd s (ktAddr i 0)
  if lifecycle s ≠ 1 ∨ reqr = 2 ∨ ktValid s i = false ∨ ktVolatile s i = false then vltResult 1 reqr i 2 s
  else
    let k := drbgKey s
    let w := putFld (putFld w0 30 30 0) 28 27 3
    vltResult 1 reqr i 0 (ktCounts (ktPut i w (ktGen s i) 0 0 k.1 k.2))

/-- INVALIDATE i (R291): GEN advances and the material is wrapped anew, the subtree becomes STALE, event 325. -/
def vltInvalidate (reqr i : Nat) (s : State) : State :=
  if lifecycle s ≠ 1 ∨ ktValid s i = false then vltResult 2 reqr i 2 s
  else if ktGen s i = 0xFFFFFFFF then vltResult 2 reqr i 9 s
  else
    let s := ktWrap i (wr s (ktAddr i 1) (ktGen s i + 1))
    let s := ktCounts (ktStaleBelow i s)
    raise 325 (vltResult 2 reqr i 0 (inc s (R.VLT_CNT 2)))

/-- DELETE i (R291): the entry is made invalid; its descendants become STALE. -/
def vltDelete (reqr i : Nat) (s : State) : State :=
  if lifecycle s ≠ 1 ∨ reqr = 2 ∨ ktValid s i = false then vltResult 3 reqr i 2 s
  else vltResult 3 reqr i 0 (ktCounts (ktDrop i (ktStaleBelow i s)))

-- Import (R295, R296) -------------------------------------------------------------------------------------------

/-- Record r of a blob. -/
def blobRec (b : List Byte) (r : Nat) : List Byte := slice b (1104 + 80 * r) 80

/-- Import key of a blob: KDF of the decapsulated secret with the blob header (R288). -/
def importKey (s : State) (b : List Byte) : Nat :=
  beAt (kdf (Config.kemDecap (kemSeeds s) (slice b 16 1088)) "XG9680-IMPORT" (b.take 16) 256) 0 32

/-- A record's tag verifies. -/
def blobTagOk (ik : Nat) (b r : List Byte) : Bool :=
  Config.gcmTag ik (slice r 12 12) (b.take 16 ++ r.take 12) (slice r 24 32) % 2 ^ 128 == beAt r 56 16

/-- The key a record carries. -/
def blobKey (ik : Nat) (r : List Byte) : Nat :=
  beAt ((List.range 32).map (fun i => (r.getD (24 + i) 0) ^^^ Config.gcmStream ik (slice r 12 12) i)) 0 32

/-- A record of the form R295 asks for: ORIGIN 1, PARENT 0xFFF, an index of the table, STALE and the reserved bits of word 0
at 0, TYPE 0 or 1, USES 0 with VOLATILE, and its zero bytes. -/
def blobRecOk (r : List Byte) : Bool :=
  let w := beAt r 4 4
  decide (beAt r 0 2 ≤ 2047 ∧ beAt r 2 2 = 0 ∧ beAt r 72 8 = 0 ∧ fld w 28 27 = 1 ∧ w % 0x1000 = 0xFFF ∧ fld w 17 12 = 0 ∧
    fld w 26 24 ≤ 1) && !w.testBit 30 && (!w.testBit 29 || beAt r 8 4 == 0)

/-- Result of the import checks, in their order (R296); a blob that has not the form of R295 is DENIED (log entry 37). -/
def importCheck (s : State) (b : List Byte) : Nat :=
  let n := beAt b 12 2
  if beAt b 0 4 ≠ 0x58464B49 ∨ beAt b 4 2 ≠ 1 ∨ beAt b 8 4 ≤ rd s R.VLT_IMPORT_SEQ then 11
  else if beAt b 6 2 ≠ rdf s R.VLT_STATUS 15 0 then 2
  else if b.length ≠ 1104 + 80 * n ∨ n = 0 ∨ 64 < n ∨ beAt b 14 2 ≠ 0 ∨ (List.range n).all (fun r => blobRecOk (blobRec b r)) = false then 2
  else
    let ik := importKey s b
    if (List.range n).all (fun r => blobTagOk ik b (blobRec b r)) then 0 else 6

/-- Write the records of an accepted blob with GEN 1. -/
def importApply (b : List Byte) (s : State) : State :=
  let ik := importKey s b
  let s := forEach (List.range (beAt b 12 2)) (fun r s =>
    let x := blobRec b r
    ktPut (beAt x 0 2 % 2048) (beAt x 4 4 ||| 2 ^ 31) 1 0 (beAt x 8 4) (blobKey ik x) s) s
  ktCounts (wr s R.VLT_IMPORT_SEQ (beAt b 8 4))

/-- Check and apply a blob whole (R296): answers the status code. -/
def importBlob (b : List Byte) (s : State) : Nat × State :=
  let c := if lifecycle s ≠ 1 then 2 else importCheck s b
  let s := wrf s R.VLT_IMPORT_STATUS 31 24 c
  if c = 0 then (0, raise 328 (inc (importApply b s) (R.VLT_CNT 5)))
  else (c, raise 329 (inc s (R.VLT_CNT 6)))

/-- The part number, 8 bytes: ASCII "XG-9680" and 0x00, as images name it (R288, R401; log entry 6). -/
def targetPart : List Byte := [0x58, 0x47, 0x2D, 0x39, 0x36, 0x38, 0x30, 0x00]

-- Root and KEK --------------------------------------------------------------------------------------------------

/-- KEK derived from the root and the part number at a start or a wake; the encapsulation key can be read (R288, R295). -/
def kekDerive (s : State) : State :=
  match s.vault.root with
  | none => s
  | some r =>
    if lifecycle s = 1 then
      let s := { s with vault := { s.vault with kek := some (kdf256 r "XG9680-KEK" targetPart) } }
      let seeds := kemSeeds s
      forEach (List.range 296) (fun w s => wr s (R.VLT_KEM_EK w) (Config.kemEk seeds w % 0x100000000))
        (wrf s R.VLT_STATUS 26 26 1)
    else s

/-- Write a lifecycle state; event 320. -/
def setLifecycle (l : Nat) (s : State) : State := raise 320 (wrf s R.VLT_STATUS 31 28 l)

/-- First start (R287): up to three attempts at the entropy tests; a root, SEALED, event 321; or event 322. -/
def firstStart (entropyFails : Nat) (s : State) : State :=
  if 3 ≤ entropyFails then raiseLine 322 58 s
  else
    let k := drbgKey s
    let s := { k.2 with vault := { k.2.vault with root := some k.1 } }
    -- the debug port, open in BLANK, closes (R286)
    raise 321 (setLifecycle 1 (wrf (wrf s R.VLT_STATUS 27 27 1) R.VLT_STATUS 24 24 0))

/-- A multi-bit error in a key table entry: STALE and VALID 0, source 334, line 60 (R306). -/
def ktEccFault (i : Nat) (s : State) : State :=
  let s := wrf (wrf s (ktAddr i 0) 31 31 0) (ktAddr i 0) 30 30 1
  raiseLine 334 60 (ktCounts s)

/-- What ECC found in key table entry i: a corrected error is counted, source 333 (R306). -/
def ktEcc (e : Ecc) (i : Nat) (s : State) : State :=
  match e with
  | .ok => s
  | .corrected => raise 333 (inc s R.VLT_ECC_COUNT)
  | .multi => ktEccFault i s

/-- Zeroise the secrets (R299 steps 2 and 3). -/
def zeroise (s : State) : State :=
  let s := forEach (s.vault.keys.map Prod.fst) ktDrop s
  let s := forEach (List.range 296) (fun w s => wr s (R.VLT_KEM_EK w) 0) s
  let s := wrf (wrf s R.VLT_STATUS 27 27 0) R.VLT_STATUS 26 26 0
  ktCounts { s with vault := { s.vault with root := none, kek := none, keys := [], bound := [], committed := [] } }

end Sys2Proof.Machine
end

