-- ==== Sys2Proof/Machine/Cipher.lean ====
section
/-! DEFINITION. The cipher engine (chapter 12): jobs and lanes, MACsec, seals, freshness slots and resynchronisation. -/

namespace Sys2Proof.Machine

-- Lanes (R292, R307, R310) ----------------------------------------------------------------------------------------

def laneFenced (s : State) (l : Nat) : Bool := rdb s R.CIP_STATUS (9 + l)

/-- Jobs running or queued on lane l, in order of placement. -/
def laneJobs (s : State) (l : Nat) : List CipJob :=
  s.cip.jobs.filter (fun j => j.lane == some l || j.lane2 == some l)

/-- Lane l holds key k as the table has it now (R292). -/
def laneHolds (s : State) (l k : Nat) : Bool :=
  !laneFenced s l && rdb s (R.VLT_LANE l) 31 && rdf s (R.VLT_LANE l) 11 0 == k && ktValid s k && !ktStale s k &&
  s.vault.laneGen.get? l == some (ktGen s k) && rd s (R.VLT_LANE_GEN l) == rd s (ktAddr k 2)

def laneIdle (s : State) (l : Nat) : Bool := !laneFenced s l && (laneJobs s l).isEmpty

/-- Clear lane l's key register. -/
def laneClear (l : Nat) (s : State) : State :=
  let s := wr (wr s (R.VLT_LANE l) 0) (R.VLT_LANE_GEN l) 0
  { s with vault := { s.vault with laneGen := s.vault.laneGen.del l, laneKey := s.vault.laneKey.del l } }

/-- The job's frame length. -/
def CipJob.len (j : CipJob) : Nat := (j.x.map (fun x => x.data.length)).getD 0

/-- The job is of the held class: everything but early MACSEC_IN and MACSEC_OUT (R315). -/
def CipJob.held (j : CipJob) : Bool := !j.early && j.kind != 2

/-- Bytes of lane l's held buffer in use. -/
def laneHeld (s : State) (l : Nat) : Nat :=
  (((laneJobs s l).filter CipJob.held).map CipJob.len).foldl (· + ·) 0

/-- Lane l's registers after a change of its jobs or key; a lane whose key's hold has ended is cleared once idle
(R292, R293). -/
def laneReg (l : Nat) (s : State) : State :=
  let k := rdf s (R.VLT_LANE l) 11 0
  let ended := rdb s (R.VLT_LANE l) 31 && !laneHolds s l k
  let s := if ended && laneIdle s l then laneClear l s else s
  let s := if rdb s (R.VLT_LANE l) 31 then wrf s (R.VLT_LANE l) 30 30 (if ktStale s k then 1 else 0) else s
  let js := laneJobs s l
  let st := if laneFenced s l then 3 else if js.isEmpty then 0 else 2
  wr s (R.CIP_LANE l) (st * 2 ^ 28 + ((js.head?.map CipJob.kind).getD 0) * 2 ^ 25 + (js.length - 1) * 2 ^ 16 +
    min 0xFFFF (laneHeld s l))

/-- All lane registers and the jobs in flight (R309). -/
def cipRegs (s : State) : State :=
  let s := forEach (List.range 8) laneReg s
  let n := min 256 s.cip.jobs.length
  let s := wrf s R.CIP_JOBS 8 0 n
  if rdf s R.CIP_JOBS 24 16 < n then wrf s R.CIP_JOBS 24 16 n else s

-- MACsec (R317 to R320) -------------------------------------------------------------------------------------------

/-- The frame carries a SecTAG directly after its source address. -/
def hasSecTag (b : List Byte) : Bool := beAt b 12 2 == 0x88E5

/-- Bytes before the user data of a SecTAG frame. -/
def secOff (b : List Byte) : Nat := if (byteAt b 14).testBit 5 then 28 else 20

/-- Confidentiality of a SecTAG frame: its E and C bits. -/
def secConf (b : List Byte) : Bool := (byteAt b 14).testBit 3 && (byteAt b 14).testBit 2

/-- Short length of a SecTAG frame: its user data below 48 bytes, which padding may follow; 0 otherwise. -/
def secSl (b : List Byte) : Nat := byteAt b 15

/-- Bytes before the ICV: a short frame's stands where its SL says, any other's at its end (R317, IEEE 802.1AE). -/
def secEnd (b : List Byte) : Nat := if secSl b = 0 then b.length - 20 else secOff b + secSl b

/-- User data between SecTAG and ICV. -/
def secUser (b : List Byte) : List Byte := (b.take (secEnd b)).drop (secOff b)

/-- A SecTAG of a form that IEEE 802.1AE has a SecY validate: V 0, no SC bit beside ES or SCB, encryption with changed text
alone, SL below 48 and within the frame (R317; log entry 231). -/
def secTagOk (b : List Byte) : Bool :=
  let t := byteAt b 14
  !t.testBit 7 && !(t.testBit 5 && (t.testBit 6 || t.testBit 4)) && !(t.testBit 3 && !t.testBit 2) && decide (secSl b < 48) &&
  decide (secOff b + secSl b + 20 ≤ b.length)

/-- Packet number of the tag under an SA whose lowest acceptable number is `low` (IEEE 802.1AE, XPN). -/
def secPn (b : List Byte) (xpn : Bool) (low : Nat) : Nat :=
  let pn := beAt b 16 4
  if !xpn then pn
  else
    let hi := low / 0x100000000
    if 0x80000000 ≤ low % 0x100000000 ∧ pn < 0x80000000 then (hi + 1) * 0x100000000 + pn else hi * 0x100000000 + pn

/-- IV of a MACsec job (IEEE 802.1AE): SCI and packet number, or, with XPN, SSCI and packet number over the salt. -/
def secIv (xpn : Bool) (sci pn : Nat) (x : Nat × Nat) : List Byte :=
  if xpn then List.zipWith (· ^^^ ·) (beBytes x.1 4 ++ beBytes pn 8) (beBytes x.2 12) else beBytes sci 8 ++ beBytes pn 4

/-- IV of packet number pn under port p's receive SC c, SA slot a. -/
def rxIv (s : State) (p c a pn : Nat) : List Byte :=
  secIv (rdb s (R.CIP_SECY_CFG p) 29) (cnt s (R.CIP_RX_SCI p c)) pn (s.cip.xpn.getD (R.CIP_RX_SA p c a) (0, 0))

/-- IV of packet number pn under port p's transmit SA slot a. -/
def txIv (s : State) (p a pn : Nat) : List Byte :=
  secIv (rdb s (R.CIP_SECY_CFG p) 29) (cnt s (R.CIP_SECY_TXSCI p)) pn (s.cip.xpn.getD (R.CIP_TX_SA p a) (0, 0))

/-- Exclusive-or with the key stream. -/
def gcmXor (key : Nat) (iv : List Byte) (l : List Byte) : List Byte :=
  (List.range l.length).map (fun i => (l.getD i 0) ^^^ Config.gcmStream key iv i)

/-- The frame without SecTAG and ICV (R308 MACSEC_IN). -/
def secPlain (key : Nat) (iv b : List Byte) : List Byte :=
  withFcs (b.take 12 ++ (if secConf b then gcmXor key iv (secUser b) else secUser b))

/-- The ICV verifies. -/
def secIcvOk (key : Nat) (iv b : List Byte) : Bool :=
  let icv := beAt b (secEnd b) 16
  let t := if secConf b then Config.gcmTag key iv (b.take (secOff b)) (secUser b)
    else Config.gcmTag key iv (b.take (secEnd b)) []
  t % 2 ^ 128 == icv

/-- SecTAG of a sent frame (R317): ES 0, SCB 0, SC by INCLUDE_SCI, the short length below 48 bytes of user data. -/
def secTag (sci an pn user : Nat) (conf incSci : Bool) : List Byte :=
  beBytes 0x88E5 2 ++ beBytes ((if incSci then 32 else 0) + (if conf then 12 else 0) + an % 4) 1 ++
  beBytes (if user < 48 then user else 0) 1 ++ beBytes (pn % 0x100000000) 4 ++ (if incSci then beBytes sci 8 else [])

/-- The frame with SecTAG and ICV (R320 MACSEC_OUT) and a new FCS. -/
def secProtect (key : Nat) (iv : List Byte) (sci an pn : Nat) (conf incSci : Bool) (b : List Byte) : List Byte :=
  let user := (dropFcs b).drop 12
  let hdr := b.take 12 ++ secTag sci an pn user.length conf incSci
  let ct := if conf then gcmXor key iv user else user
  let icv := if conf then Config.gcmTag key iv hdr ct else Config.gcmTag key iv (hdr ++ user) []
  withFcs (hdr ++ ct ++ beBytes icv 16)

/-- Port p's current transmit SA slot. -/
def txSa (s : State) (p : Nat) : Option Nat :=
  [0, 1].find? (fun a => rdb s (R.CIP_TX_SA p a) 31 && rdb s (R.CIP_TX_SA p a) 30)

/-- Last packet number of port p's suite (R314). -/
def pnLast (s : State) (p : Nat) : Nat := if rdb s (R.CIP_SECY_CFG p) 29 then 0xFFFFFFFFFFFFFFFF else 0xFFFFFFFF

/-- SA slot a of port p is END: its next number is past the last one (0 after the 64-bit range). -/
def txEnd (s : State) (p a : Nat) : Bool := cnt s (R.CIP_TX_PN p a) == 0 || pnLast s p < cnt s (R.CIP_TX_PN p a)

/-- Take the next packet number of SA slot a, with its warning and end (R314). -/
def pnTake (p a : Nat) (s : State) : Nat × State :=
  let pn := cnt s (R.CIP_TX_PN p a)
  let s := wrq s (R.CIP_TX_PN p a) ((pn + 1) % 0x10000000000000000)
  let left := pnLast s p - pn
  let warn := cnt s R.CIP_PN_WARN
  let s := if left = warn ∨ (pn = 1 ∧ left ≤ warn) then raise 291 s else s
  (pn, if left = 0 then raise 292 s else s)

/-- The receive SC of a SecTAG frame on port p: by SCI, or SC 0 without one (R319). -/
def rxSc (s : State) (p : Nat) (b : List Byte) : Option Nat :=
  if (byteAt b 14).testBit 5 then
    [0, 1, 2, 3].find? (fun c => rdb s (R.CIP_RX_SC p c) 31 && cnt s (R.CIP_RX_SCI p c) == beAt b 20 8)
  else if rdb s (R.CIP_RX_SC p 0) 31 then some 0 else none

/-- The SA slot of receive SC c by association number. -/
def rxSa (s : State) (p c : Nat) (b : List Byte) : Option Nat :=
  [0, 1].find? (fun a => rdb s (R.CIP_RX_SA p c a) 31 && rdf s (R.CIP_RX_SA p c a) 29 28 == byteAt b 14 % 4)

-- Seals (R322 to R325) --------------------------------------------------------------------------------------------

def domF (s : State) (d : Nat) : Nat := rdf s (R.CIP_DOM_CFG d) 28 23
def domT (s : State) (d : Nat) : Nat := rdf s (R.CIP_DOM_CFG d) 22 15

/-- Trailer bytes of domain d. -/
def domTrailer (s : State) (d : Nat) : Nat := ceilDiv (domF s d + domT s d) 8

/-- Nonce of R323. -/
def sealNonce (id dom mark fv : Nat) : List Byte := beBytes id 4 ++ beBytes dom 1 ++ beBytes mark 1 ++ beBytes fv 6

/-- Authenticated data of R323; `f` is the bus frame whose header gives the XL field. -/
def sealAad (id dom fv : Nat) (f payload : List Byte) : List Byte :=
  let xl := if busFormat f = 4 then
      beBytes (busVcid f) 1 ++ beBytes (busSdt f) 1 ++ beBytes (if (hdrWord f 1).testBit 28 then 0x80 else 0) 1
    else [0, 0, 0]
  beBytes id 4 ++ beBytes dom 1 ++ xl ++ beBytes payload.length 2 ++ payload ++ beBytes fv 6

/-- First t bits of the GMAC. -/
def sealTag (s : State) (d key id fv : Nat) (f payload : List Byte) : Nat :=
  Config.gcmTag key (sealNonce id d 0 fv) (sealAad id d fv f payload) [] % 2 ^ 128 / 2 ^ (128 - domT s d)

/-- The trailer of a freshness value and tag (R322). -/
def trailerBytes (s : State) (d fv tag : Nat) : List Byte :=
  let n := domTrailer s d
  beBytes ((fv % 2 ^ domF s d * 2 ^ domT s d + tag) * 2 ^ (8 * n - domF s d - domT s d)) n

/-- A transmit (`tx`) or receive slot by its key. -/
def slotFind (s : State) (tx : Bool) (d id port : Nat) : Option Nat :=
  s.cip.slots.find? (fun k => let c := R.CIP_FV_CFG k
    rdb s c 31 && rdb s c 30 == tx && rdf s c 15 8 == d && rd s (R.CIP_FV_ID k) == id && (tx || rdf s c 27 22 == port))

/-- The key of slot k: its domain's KEY_GEN or KEY_VER. -/
def slotKeyOf (s : State) (k : Nat) : Nat :=
  let w := rd s (R.CIP_DOM_KEYS (rdf s (R.CIP_FV_CFG k) 15 8))
  if rdb s (R.CIP_FV_CFG k) 30 then w / 2 ^ 16 % 4096 else w % 4096

/-- Count the slot under its key: a change of the key's GEN or index returns it to 0 (R314). -/
def slotSync (k : Nat) (s : State) : State :=
  let key := slotKeyOf s k
  if 2048 ≤ key ∨ ktValid s key = false then s else
  let now := (key, ktGen s key)
  let was := s.cip.slotKey.get? k
  let s := { s with cip := { s.cip with slotKey := s.cip.slotKey.put k now } }
  match was with
  | some w =>
    if w = now then s
    else
      let s := wrf (wrq s (R.CIP_FV k) 0) (R.CIP_FV_CFG k) 29 28 0
      { s with cip := { s.cip with fvCommit := s.cip.fvCommit.put k 0, rxSince := s.cip.rxSince.del k } }
  | none => s

/-- Every slot counted under its key, after a change of the key table or of the sheet. -/
def slotsSync (s : State) : State := forEach s.cip.slots slotSync s

/-- Values committed at a time (COMMIT_EVERY). -/
def fvEvery (s : State) : Nat := max 1 (rdf s R.CIP_COMMIT 12 0)

/-- Commit a slot's value to NAND (R325). -/
def fvCommitTo (k v : Nat) (s : State) : State :=
  inc { s with cip := { s.cip with fvCommit := s.cip.fvCommit.put k v } } (R.VLT_CNT 9)

/-- Take the next freshness value of transmit slot k (R324, R325, R314): none at its end. -/
def fvTake (k : Nat) (s : State) : Option Nat × State :=
  if rdf s (R.CIP_FV_CFG k) 29 28 = 2 ∨ 0xFFFFFFFFFFFF ≤ cnt s (R.CIP_FV k) then (none, s)
  else
    let fv := cnt s (R.CIP_FV k) + 1
    let s := if s.cip.fvCommit.getD k 0 < fv then fvCommitTo k (min (fv - 1 + fvEvery s) 0xFFFFFFFFFFFF) s else s
    let s := wrq s (R.CIP_FV k) fv
    let s := if cnt s R.CIP_FV_WARN ≤ fv ∧ rdf s (R.CIP_FV_CFG k) 29 28 = 0 then raise 291 (wrf s (R.CIP_FV_CFG k) 29 28 1) else s
    (some fv, if fv = 0xFFFFFFFFFFFF then raise 292 (wrf s (R.CIP_FV_CFG k) 29 28 2) else s)

/-- Accept value fv on receive slot k (R324, R325). -/
def fvAccept (k fv : Nat) (s : State) : State :=
  let s := wrq s (R.CIP_FV k) fv
  let n := s.cip.rxSince.getD k 0 + 1
  if fvEvery s ≤ n then fvCommitTo k fv { s with cip := { s.cip with rxSince := s.cip.rxSince.del k } }
  else { s with cip := { s.cip with rxSince := s.cip.rxSince.put k n } }

/-- Seal a payload under domain d with key value kv: result code and trailer. The freshness is the slot's next value
(R324). -/
def sealUnder (d id kv : Nat) (f payload : List Byte) (s : State) : Nat × List Byte × State :=
  if busRtr f then (2, [], s) else
  match slotFind s true d id 0x3F with
  | none => (2, [], s)
  | some k =>
    let r := fvTake k (slotSync k s)
    match r.1 with
    | none => (9, [], inc r.2 (R.CIP_DOM_CNT d 7))
    | some fv =>
      let t := sealTag r.2 d kv id fv f payload
      (0, trailerBytes r.2 d fv t, inc r.2 (R.CIP_DOM_CNT d 0))

/-- Reconstruct the sender's freshness value (R324). -/
def fvCand (last f rx : Nat) : Nat :=
  if f = 0 then last + 1
  else
    let c := last / 2 ^ f * 2 ^ f + rx
    if c ≤ last then c + 2 ^ f else c

/-- Verify a PDU under domain d with key value kv: result code and payload without trailer (R324). -/
def verifyUnder (d id port kv : Nat) (f : List Byte) (s : State) : Nat × List Byte × State :=
  let data := busData f
  let n := domTrailer s d
  match slotFind s false d id port with
  | none => (2, [], s)
  | some k =>
    let s := slotSync k s
    let fail (s : State) : Nat × List Byte × State := (6, [], raise 288 (inc s (R.CIP_DOM_CNT d 2)))
    if data.length < n ∨ busRtr f = true then fail s else
    let payload := data.take (data.length - n)
    let tr := beAt data (data.length - n) n
    let rx := tr / 2 ^ (8 * n - domF s d)
    let tag := tr / 2 ^ (8 * n - domF s d - domT s d) % 2 ^ domT s d
    let last := cnt s (R.CIP_FV k)
    let cand := fvCand last (domF s d) rx
    if rdf s (R.CIP_FV_CFG k) 29 28 = 2 then (9, [], inc s (R.CIP_DOM_CNT d 7))
    else if rdf s (R.CIP_DOM_WIN d) 15 0 < cand - last then (6, [], raise 290 (inc s (R.CIP_DOM_CNT d 3)))
    else if 0xFFFFFFFFFFFF < cand then (9, [], inc s (R.CIP_DOM_CNT d 7))
    else if sealTag s d kv id cand f payload ≠ tag then fail s
    else (0, payload, inc (fvAccept k cand s) (R.CIP_DOM_CNT d 1))

/-- The egress header and padded data that the seal side of a RESEAL covers (R327): the conversion record's, or the
frame's own. -/
def resealForm (s : State) (v : Verdict) (f payload : List Byte) (trailer : Nat) : List Byte :=
  if v.bridge = .canConvert then
    let cfg := R.SGE_CONV_CFG v.bridgeIdx
    let out := rdf s cfg 30 28
    let id := (convId s v.bridgeIdx f).getD (busIdent f)
    let pad := (convPad out (payload.length + trailer) (rdb s cfg 25)).getD 0
    let sec := busFormat f == 4 && (hdrWord f 1).testBit 28
    busFrame out id false false false sec (if out = 4 then rdf s cfg 23 16 else 0) (if out = 4 then rdf s cfg 15 8 else 0)
      0 0 (payload ++ List.replicate pad (BitVec.ofNat 8 (rdf s cfg 7 0)))
  else busWithData f payload

-- Jobs ------------------------------------------------------------------------------------------------------------

/-- Drop the job's copy: it is released and its port selects again (R312 MACSEC_OUT). -/
def outDrop (j : CipJob) (s : State) : State :=
  match j.desc with
  | none => s
  | some d =>
    match serviceOf s j.port d with
    | none => s
    | some x =>
      if x.started then { s with sched := { s.sched with service := s.sched.service.put j.port { x with spoiled := true } } }
      else dropServed j.port d s

/-- A job ends before its frame's tail: what is left of the frame is its tail, which settles its charge and is counted (R71,
R73). -/
def jobSpent (j : CipJob) (s : State) : State :=
  match j.x, j.x.bind Ing.decided with
  | some x, some d => if x.tail == .open then { s with ing := s.ing ++ [{ x with decided := some { d with spent := true } }] } else s
  | _, _ => s

/-- A job returns a result other than OK (R311, R312): what becomes of its frame. -/
def cipFail (j : CipJob) (code : Nat) (s : State) : State :=
  let s := jobSpent j s
  let s := if code = 7 ∨ code = 8 then
      raise 299 (if j.kind ≤ 2 then inc s (R.CIP_PORT_CNT j.port 15) else s)
    else s
  if j.kind = 2 then outDrop j s
  else
    match j.x.bind Ing.decided with
    | none => s
    | some d =>
      match d.handed with
      | some fid =>
        let s := if code = 10 then withdrawAll d.v.stream d.seq d.v.dest s else s
        closeTail fid true s
      | none =>
        if code = 2 ∨ code = 15 then s else withdrawAll d.v.stream d.seq d.v.dest s

/-- Remove a job from the list. -/
def jobRemove (j : CipJob) (s : State) : State :=
  { s with cip := { s.cip with jobs := s.cip.jobs.erase j } }

/-- Request a job (R309, R313): refused while the lifecycle is not SEALED; it waits behind 256 in flight. -/
def cipRequest (j : CipJob) (s : State) : State :=
  if lifecycle s ≠ 1 then cipFail j 2 (raise 297 (inc s (R.CIP_CNT 7)))
  else
    let s := if 256 ≤ s.cip.jobs.length then raise 298 (inc s (R.CIP_CNT 2)) else s
    let s := inc { s with cip := { s.cip with jobs := s.cip.jobs ++ [j] } } (R.CIP_CNT 0)
    stageSync (cipRegs s)

/-- Layout l's frame becomes one message of its encapsulation record, with its bus_id (R180). -/
def msgSend (l : Nat) (f : List Byte) (dest tc : Nat) (s : State) : State :=
  let x := s.sge.pduX.getD l ⟨0, 0, none, 0, 0, []⟩
  encBus x.enc x.bus dest tc 0 f (busData f) s.globalNs s

/-- A seal job of frame `f` built inside the module for channel n's clapper, for a layout's message, or for a signal-engine
target (R180, R279). -/
def sealBuilt (clap layout : Option Nat) (f : List Byte) (dest tc dom : Nat) (s : State) : State :=
  let v : Verdict := { dest := dest, tc := tc, cipher := .doSeal, sealDomain := some dom }
  let x : Ing := {
    src := 19, bus := true, data := f, rxNs := s.devNs, scene := scene s, tail := .good
    decided := some ⟨v, 0, none, 0, 0, none, tc, false⟩, tsReq := none }
  cipRequest {
    kind := 3, port := 19, x := some x, desc := none, clap := clap, layout := layout, key := rdf s (R.CIP_DOM_KEYS dom) 27 16, key2 := 0xFFF
    dom := dom, early := false, sc := 0, sa := 0, pn := 0, lane := none, lane2 := none } s

-- Placement (R292, R310, R327) ------------------------------------------------------------------------------------

/-- Usage bit that a job's keys need: SAK, SEAL_GEN or SEAL_VER (R289). -/
def jobKeys (j : CipJob) : List (Nat × Nat) :=
  if j.kind ≤ 2 then [(j.key, 3)] else if j.kind = 3 then [(j.key, 5)] else if j.kind = 4 then [(j.key, 4)]
  else [(j.key, 4), (j.key2, 5)]

/-- The result a key's table entry gives without a lane: KEY_STALE of a STALE entry, one that a multi-bit error made so among
them, else DENIED (R293, R306). -/
def keyDeny (s : State) (k : Nat × Nat) : Option Nat :=
  if 2048 ≤ k.1 then some 2 else if ktStale s k.1 then some 7
  else if ktValid s k.1 = false ∨ ktUsage s k.1 k.2 = false then some 2 else none

/-- The lane that key k would take: the one that holds it, else the lowest idle one. -/
def laneFor (s : State) (k : Nat) (avoid : Option Nat) (needIdle : Bool) : Option Nat :=
  match (List.range 8).find? (fun l => some l != avoid && laneHolds s l k) with
  | some l => if needIdle && !laneIdle s l then none else some l
  | none => (List.range 8).find? (fun l => some l != avoid && laneIdle s l)

/-- Lanes of a job, where it can be placed now. -/
def jobLanes (s : State) (j : CipJob) : Option (Nat × Option Nat) :=
  if j.kind = 5 then
    match laneFor s j.key none true with
    | none => none
    | some a => if j.key2 = j.key then some (a, some a) else (laneFor s j.key2 (some a) true).map (fun b => (a, some b))
  else (laneFor s j.key none false).map (fun a => (a, none))

/-- A held job fits in what is left of its lane's held buffer (R310). -/
def jobRoom (s : State) (j : CipJob) (l : Nat × Option Nat) : Bool := !j.held || laneHeld s l.1 + j.len ≤ 0x8000

/-- The job would be placed, or refused by its key, now. -/
def placeable (s : State) (j : CipJob) : Bool :=
  j.lane.isNone && ((jobKeys j).any (fun k => (keyDeny s k).isSome) || (jobLanes s j).any (jobRoom s j))

/-- Bring key k into lane l: a hit, or a load at the cost of one use with its inverse check (R292, R311). -/
def laneTake (l k : Nat) (inverseOk : Bool) (ecc : Ecc) (s : State) : Nat × State :=
  if laneHolds s l k then
    if !ktVolatile s k && ktUses s k == 0 then (8, raise 326 (inc s (R.VLT_CNT 4)))
    else (0, inc s (R.CIP_CNT 1))
  else
    let s := ktEcc ecc k s
    let u := keyUse k s
    if u.1 ≠ 0 then u
    else
      let s := inc (laneClear l u.2) (R.VLT_CNT 0)
      if !inverseOk then (15, raiseLine 302 56 (inc s (R.CIP_CNT 5)))
      else
        let s := wr (wr s (R.VLT_LANE l) (2 ^ 31 + k)) (R.VLT_LANE_GEN l) (rd s (ktAddr k 2))
        (0, { s with vault := { s.vault with laneGen := s.vault.laneGen.put l (ktGen s k), laneKey := s.vault.laneKey.put l (keyVal s k) } })

/-- Put a placed job behind the others that are placed. -/
def jobPlaced (j j' : CipJob) (s : State) : State :=
  let l := s.cip.jobs.erase j
  let l := (l.filter (fun x => x.lane.isSome)) ++ (j' :: l.filter (fun x => x.lane.isNone))
  { s with cip := { s.cip with jobs := l } }

/-- What an early job releases of its frame in all: its plaintext, no byte beyond MAX_FRAME of the frame as received (R53,
R315). -/
def earlyPlain (s : State) (j : CipJob) (x : Ing) : List Byte :=
  let plain := secPlain j.kv j.iv x.data
  plain.take (plain.length - (x.data.length - (if 18 < x.src then x.data.length else maxFrame s x.src)))

/-- The early job that runs on lane l begins to release plaintext: its frame is handed over by cut-through (R70, R315). Its
blocks reach the pool as both cores agree on them. -/
def laneStart (l : Nat) (s : State) : State :=
  match (laneJobs s l).head? with
  | none => s
  | some j =>
    match j.x, j.x.bind Ing.decided with
    | some x, some d =>
      if j.early && d.handed.isNone then
        let h := cutHand x d [] (cellsOf (earlyPlain s j x).length) s
        let j' := { j with x := some { x with decided := some { d with handed := some h.1 } } }
        { h.2 with cip := { h.2.cip with jobs := h.2.cip.jobs.map (fun y => if y = j then j' else y) } }
      else s
    | _, _ => s

/-- The jobs at the head of their lanes run; then the lane registers follow. -/
def cipRun (s : State) : State := cipRegs (forEach (List.range 8) laneStart s)

/-- Both cores agree on some more blocks of the early frame fid, a free value: that much of it has reached the pool (R315). -/
def earlyAgree (fid : Nat) (f : PFrame) (plain : List Byte) (s : State) : State :=
  let fr := free s
  let was := f.data.length / 16
  let n := was + fr.1 % ((plain.length + 15) / 16 - was + 1)
  { fr.2 with pool := { fr.2.pool with frames := fr.2.pool.frames.put fid { f with data := plain.take (16 * n) } } }

/-- An aborted early frame keeps the blocks that the cores had agreed on, and takes no more cells than those (R85, R316). -/
def earlyBlocks (fid : Nat) (f : PFrame) (plain : List Byte) (s : State) : State :=
  let s := earlyAgree fid f plain s
  match s.pool.frames.get? fid with
  | some g => reshape fid g.data s
  | none => s

/-- More of the early frame fid, if it is one whose job still runs, has reached the pool by now (R130, R315). -/
def earlyMore (fid : Nat) (s : State) : State :=
  match s.cip.jobs.find? (fun j => j.early && ((j.x.bind Ing.decided).bind Decided.handed == some fid)), s.pool.frames.get? fid with
  | some j, some f => match j.x with
    | some x => if f.tailWritten then s else earlyAgree fid f (earlyPlain s j x) s
    | none => s
  | _, _ => s

/-- What of an early job's frame has been released when it ends: all of it, or as many blocks as the cores had agreed on when
it was aborted, a free value (R315, R316). -/
def earlyFill (j : CipJob) (aborted : Bool) (s : State) : State :=
  match j.x, (j.x.bind Ing.decided).bind Decided.handed with
  | some x, some fid =>
    match s.pool.frames.get? fid with
    | none => s
    | some f =>
      let plain := earlyPlain s j x
      if aborted then earlyBlocks fid f plain s
      else { s with pool := { s.pool with frames := s.pool.frames.put fid { f with data := plain } } }
  | _, _ => s

/-- A job refused by its key: counted and returned. -/
def jobRefuse (j : CipJob) (code : Nat) (s : State) : State :=
  let s := if code = 2 then inc s (R.VLT_CNT 8) else s
  cipFail j code (jobRemove j s)

/-- Place job j (R310, R327). -/
def jobPlace (j : CipJob) (inverseOk : Bool) (ecc : Ecc) (s : State) : State :=
  match (jobKeys j).filterMap (fun k => (keyDeny s k).map (fun c => (k.1, c))) with
  | (k, c) :: _ => jobRefuse j c (if c = 7 then (keyUse k s).2 else s)
  | [] =>
    match jobLanes s j with
    | none => s
    | some (a, b) =>
      let r := laneTake a j.key inverseOk ecc s
      if r.1 ≠ 0 then jobRefuse j r.1 r.2
      else
        let r2 := match b with
          | some b => if b = a then r else laneTake b j.key2 inverseOk ecc r.2
          | none => r
        if r2.1 ≠ 0 then jobRefuse j r2.1 r2.2
        else
          jobPlaced j { j with lane := some a, lane2 := b, kv := r2.2.vault.laneKey.getD a 0, kv2 := (b.map (r2.2.vault.laneKey.getD · 0)).getD 0 } r2.2

/-- Job j is the one that runs on its lane. -/
def jobRuns (s : State) (j : CipJob) : Bool := j.lane.any (fun l => (laneJobs s l).head? == some j)

/-- The jobs that wait under a key of which `hit` holds return KEY_STALE (R293). -/
def jobsStale (hit : Nat → Bool) (s : State) : State :=
  let gone := s.cip.jobs.filter (fun j => (jobKeys j).any (fun k => decide (k.1 < 2048) && hit k.1) && !jobRuns s j)
  forEach gone (fun j s => cipFail j 7 (inc (jobRemove j s) (R.VLT_CNT 3))) s

/-- The engine after a change of the key table: its slots and its lanes follow, and jobs that wait under a STALE entry return
KEY_STALE (R293, R314). -/
def cipSync (s : State) : State :=
  let s := slotsSync s
  cipRun (jobsStale (ktStale s) s)

/-- Before its next frame a lane compares its key with the table: a difference ends its hold, and the jobs on it are placed
again (R292). -/
def laneCompare (l : Nat) (s : State) : State :=
  let lost (j : CipJob) : Bool :=
    (j.lane == some l && !laneHolds s l j.key) || (j.lane2 == some l && !laneHolds s l (if j.lane == some l then j.key else j.key2))
  { s with cip := { s.cip with jobs := s.cip.jobs.map (fun j => if lost j then { j with lane := none, lane2 := none } else j) } }

/-- What execCipherJobPlace does. -/
def cipherJobPlaceDo (inverseOk : Bool) (ecc : Ecc) (s : State) : State :=
  let full (j : CipJob) : Bool := j.lane.isNone && !j.waited && j.held && (jobLanes s j).any (fun l => !jobRoom s j l)
  let n := ((s.cip.jobs.take 256).filter full).length
  let s := addCnt { s with cip := { s.cip with
    jobs := (s.cip.jobs.take 256).map (fun j => if full j then { j with waited := true } else j) ++ s.cip.jobs.drop 256 } } (R.CIP_CNT 3) n
  let waiting := (s.cip.jobs.take 256).filter (fun j => j.lane.isNone)
  let pick := (waiting.find? (fun j => j.held && placeable s j)).orElse (fun _ => waiting.find? (placeable s))
  match pick with
  | some j =>
    let s := jobPlace j inverseOk ecc s
    -- what waits under an entry that the load found lost returns KEY_STALE (R293, R306)
    stageSync (if ecc = .multi then cipSync s else cipRun s)
  | none => s

/-- CIPHER_JOB_PLACE: of the jobs in flight that wait, the first held one that can be placed, else the first early one. -/
def execCipherJobPlace (inverseOk : Bool) (ecc : Ecc) (s : State) : Host.Outcome State Fault Refusal :=
  run s (.cipherJobPlace inverseOk ecc)
    (cipherJobPlaceDo inverseOk ecc s)

-- Completion (R311 to R316) ---------------------------------------------------------------------------------------

/-- An Ethernet keep-alive of port p's segment: a UDP datagram to KA_GROUP and KA_UDP_PORT (R336). -/
def isKaEth (s : State) (p : Nat) (b : List Byte) : Bool :=
  let t := beAt b 12 2
  let o := if t = 0x8100 ∨ t = 0x88A8 then (if beAt b 16 2 = 0x8100 then 20 else 16) else 12
  let ip := o + 2
  let udp := ip + byteAt b ip % 16 * 4
  isEthPort p && isSeg p && segMode s p == 0 && (s.nm.kaGroup.get? p).isSome && beAt b o 2 == 0x0800 &&
  byteAt b ip / 16 == 4 && byteAt b (ip + 9) == 17 && beAt b (ip + 16) 4 == s.nm.kaGroup.getD p 0 &&
  beAt b (udp + 2) 2 == s.nm.kaUdp.getD p 0

/-- A MACSEC_IN job whose frame is whole returns (R315, R319). -/
def macsecInDone (j : CipJob) (x : Ing) (d : Decided) (s : State) : State :=
  let p := j.port
  if secIcvOk j.kv j.iv x.data then
    let a := R.CIP_RX_PN p j.sc j.sa
    let w := R.CIP_RX_SA p j.sc j.sa
    -- an SA retired while the job ran is no longer advanced (R321)
    let s := if rdb s w 31 && rdf s w 11 0 == j.key then
        wrq s a (min 0xFFFFFFFFFFFFFFFF (max (cnt s a) (j.pn + 1 - rd s (R.CIP_SECY_REPLAY p))))
      else s
    let s := addCnt (inc s (R.CIP_PORT_CNT p 0)) (R.CIP_PORT_CNT p 1) (secUser x.data).length
    match d.handed with
    | some fid => closeTail fid false (earlyFill j false s)
    | none =>
      let b := secPlain j.kv j.iv x.data
      if isKaEth s p b then keepaliveIn p s else deliver x d b [] false s
  else
    match d.handed with
    | some fid => closeTail fid true (raise 289 (inc (earlyFill j false s) (R.CIP_PORT_CNT p 7)))
    | none => cipFail j 6 (raise 288 (inc s (R.CIP_PORT_CNT p 6)))

/-- A seal job returns: SEAL, VERIFY or RESEAL (R324, R327). -/
def sealDone (j : CipJob) (x : Ing) (d : Decided) (s : State) : State :=
  if j.kind = 3 ∧ d.v.bridge = .canConvert then
    -- the trailer ends the egress data field, padding included, as it does under RESEAL (R167, R322; log entry 232)
    let e := resealForm s d.v x.data (busData x.data) (domTrailer s j.dom)
    let r := sealUnder j.dom (hdrWord x.data 0) j.kv x.data (busData e) s
    if r.1 ≠ 0 then cipFail j r.1 r.2.2
    else
      let g := busWithData x.data (busData e ++ r.2.1)
      deliver x d (g.take (g.length - r.2.1.length)) r.2.1 (decide ((busData x.data).length < (busData e).length)) r.2.2
  else if j.kind = 3 then
    let r := sealUnder j.dom (hdrWord x.data 0) j.kv x.data (busData x.data) s
    if r.1 ≠ 0 then cipFail j r.1 r.2.2
    else
      let f := busWithData x.data (busData x.data ++ r.2.1)
      match j.clap with
      | some n =>
        let s := r.2.2
        match (canChan s n).clap with
        | some c => setCan n { canChan s n with clap := some { c with frame := some f } } s
        | none => s
      | none =>
        match j.layout with
        | none => deliver x d f [] false r.2.2
        | some l => msgSend l f d.v.dest d.tc r.2.2
  else
    let v := verifyUnder j.dom (hdrWord x.data 0) x.src j.kv x.data s
    if v.1 ≠ 0 then cipFail j v.1 v.2.2
    else if j.kind = 4 then deliver x d (busWithData x.data v.2.1) [] false v.2.2
    else
      let s := v.2.2
      let onward := rdf s (R.CIP_DOM_CFG j.dom) 7 0
      let e := resealForm s d.v x.data v.2.1 (domTrailer s onward)
      let r := sealUnder onward (hdrWord e 0) j.kv2 e (busData e) s
      if r.1 ≠ 0 then cipFail j r.1 r.2.2
      else
        -- LENGTH counts the trailer that follows the payload
        let g := busWithData x.data (busData e ++ r.2.1)
        deliver x d (g.take (g.length - r.2.1.length)) r.2.1 (decide (v.2.1.length < (busData e).length)) r.2.2

/-- The cores of lane l disagree (R311): fenced, its register cleared, its queued jobs placed again. -/
def laneMismatch (l : Nat) (j : CipJob) (s : State) : State :=
  let s := earlyFill j true (jobRemove j s)
  let off (x : CipJob) : CipJob := if x.lane == some l || x.lane2 == some l then { x with lane := none, lane2 := none } else x
  let s := { s with cip := { s.cip with jobs := s.cip.jobs.map off } }
  let s := laneClear l (wrf s R.CIP_STATUS (9 + l) (9 + l) 1)
  cipFail j 15 (raiseLine 301 55 (inc s (R.CIP_CNT 4)))

/-- The slots that a seal job counts: the first it reads, and the onward one of a RESEAL. -/
def jobSlots (s : State) (j : CipJob) : Option Nat × Option Nat :=
  match j.x, j.x.bind Ing.decided with
  | some x, some d =>
    let id := hdrWord x.data 0
    if j.kind = 3 then (slotFind s true j.dom id 0x3F, none)
    else if j.kind = 4 then (slotFind s false j.dom id x.src, none)
    else if j.kind = 5 then
      let on := rdf s (R.CIP_DOM_CFG j.dom) 7 0
      (slotFind s false j.dom id x.src, slotFind s true on (hdrWord (resealForm s d.v x.data [] 0) 0) 0x3F)
    else (none, none)
  | _, _ => (none, none)

/-- A memory error in a slot: corrected and counted, or the slot becomes END (R328). -/
def slotEccDo (e : Ecc) (k : Option Nat) (s : State) : State :=
  match k with
  | none => s
  | some k =>
    match e with
    | .ok => s
    | .corrected => raise 303 (inc s R.CIP_ECC_COUNT)
    | .multi =>
      let was := rdf s (R.CIP_FV_CFG k) 29 28
      let s := raiseLine 304 57 (wrf s (R.CIP_FV_CFG k) 29 28 2)
      if was = 2 then s else raise 292 s

/-- The running job of a lane can return: an ingress job once its tail is in, an egress job once its frame has started. -/
def jobReady (s : State) (j : CipJob) : Bool :=
  if j.kind = 2 then (s.sched.service.get? j.port).any (fun x => some x.desc == j.desc && x.started)
  else j.x.any (fun x => x.tail == .good)

/-- Every job aborted by tamper, lanes cleared (R299, R300, R315). -/
def cipAbortAll (s : State) : State :=
  let js := s.cip.jobs
  let s := { s with cip := { s.cip with jobs := [] } }
  let s := forEach js (fun j s => cipFail j 10 (inc (earlyFill j true s) (R.CIP_CNT 6))) s
  let s := forEach (List.range 8) laneClear s
  stageSync (cipRegs (if js.isEmpty then s else raise 305 s))

/-- Queued jobs under entry i or below it return KEY_STALE; lanes not processing under it are cleared (R293). -/
def cipInvalidate (i : Nat) (s : State) : State :=
  let hit (k : Nat) : Bool := k == i || (k < 2048 && ktBelow s i 2048 k)
  stageSync (cipSync (jobsStale hit s))

/-- All work of the engine ends (power loss, rungs below Run): jobs dropped, lanes cleared (R106, R303). -/
def cipStop (s : State) : State :=
  let s := { s with cip := { s.cip with jobs := [], parts := [], annAsked := [] } }
  cipRegs (forEach (List.range 8) laneClear s)

-- SAs (R321) ------------------------------------------------------------------------------------------------------

/-- SSCI and salt of the SA at register w. -/
def saXpn (w : Nat) (x : Option (Nat × Nat)) (s : State) : State :=
  { s with cip := { s.cip with xpn := match x with
    | some v => s.cip.xpn.put w v
    | none => s.cip.xpn.del w } }

/-- Install, make current or retire a transmit SA. An install takes an SA that is END out of it (R314). -/
def txSaInstall (p a an key : Nat) (x : Nat × Nat) (inUse current : Bool) (s : State) : State :=
  let w := R.CIP_TX_SA p a
  let same := rdb s w 31 && rdf s w 29 28 == an && rdf s w 11 0 == key
  let f (b : Bool) (i : Nat) : Nat := if b then 2 ^ i else 0
  let s := if inUse && current then wrf s (R.CIP_TX_SA p (1 - a)) 30 30 0 else s
  if inUse then
    let s := saXpn w (some x) (wr s w (2 ^ 31 + f current 30 + an * 2 ^ 28 + key))
    if same && !txEnd s p a then s else wrq s (R.CIP_TX_PN p a) 1
  else saXpn w none (wrq (wr s w 0) (R.CIP_TX_PN p a) 0)

/-- Install or retire a receive SA. -/
def rxSaInstall (p c a an key sci : Nat) (x : Nat × Nat) (inUse : Bool) (s : State) : State :=
  let w := R.CIP_RX_SA p c a
  let same := rdb s w 31 && rdf s w 29 28 == an && rdf s w 11 0 == key
  if inUse then
    let s := wrq s (R.CIP_RX_SCI p c) sci
    let s := saXpn w (some x) (wr (wr s (R.CIP_RX_SC p c) (2 ^ 31)) w (2 ^ 31 + an * 2 ^ 28 + key))
    if same then s else wrq s (R.CIP_RX_PN p c a) 1
  else
    let s := saXpn w none (wrq (wr s w 0) (R.CIP_RX_PN p c a) 0)
    if rdb s (R.CIP_RX_SA p c (1 - a)) 31 then s else wr s (R.CIP_RX_SC p c) 0

/-- What execMacsecSaInstall does. -/
def macsecSaInstallDo (p : Nat) (sc : Nat) (slot : Nat) (an : Nat) (key : Nat) (inUse : Bool) (current : Bool) (sci : BitVec 64)
    (ssci : BitVec 32) (salt : BitVec 96) (s : State) : State :=
  if sc = 4 then txSaInstall p slot an key (ssci.toNat, salt.toNat) inUse current s
  else rxSaInstall p sc slot an key sci.toNat (ssci.toNat, salt.toNat) inUse s

/-- MACSEC_SA_INSTALL (R321); a port under KEY_MODE STATIC keeps the call sheet's SAs. -/
def execMacsecSaInstall (p sc slot an key : Nat) (inUse current : Bool) (sci : BitVec 64) (s : State)
    (ssci : BitVec 32 := 0) (salt : BitVec 96 := 0) : Host.Outcome State Fault Refusal :=
  run s (.macsecSaInstall p sc slot an key inUse current sci ssci salt)
    (if rdb s (R.CIP_SECY_CFG p) 26 then s else
     macsecSaInstallDo p sc slot an key inUse current sci ssci salt s)

-- Resynchronisation (R326) ----------------------------------------------------------------------------------------

/-- Bytes 0 to 11 of an announce. -/
def annHead (d id fv : Nat) : List Byte := [0xF5] ++ beBytes d 1 ++ beBytes id 4 ++ beBytes fv 6

/-- First 64 bits of the GMAC with MARK 0x01. -/
def annTag (key d id fv : Nat) : Nat :=
  Config.gcmTag key (sealNonce id d 1 fv) (annHead d id fv) [] % 2 ^ 128 / 2 ^ 64

/-- A resynchronisation message of domain d as a bus frame. -/
def resyncFrame (s : State) (d : Nat) (data : List Byte) : List Byte :=
  let fmt := rdf s (R.CIP_DOM_RESYNC d) 31 29
  busFrame fmt (rdf s (R.CIP_DOM_RESYNC d) 28 0) false (fmt == 2 || fmt == 3) false false 0 0
    (if fmt ≤ 1 then data.length else 0) 0 data

/-- Ports 20 to 35 of domain d's channels. -/
def domPorts (s : State) (d : Nat) : Nat := rdf s (R.CIP_DOM_CHAN d) 15 0 * 2 ^ 20

/-- Announce transmit slot k of domain d on its channels: for a request, or in its period, each with its own time. -/
def announce (d k : Nat) (s : State) : State :=
  let id := rd s (R.CIP_FV_ID k)
  let fv := cnt s (R.CIP_FV k)
  let key := rdf s (R.CIP_DOM_KEYS d) 27 16
  let msg := annHead d id fv ++ beBytes (annTag (keyVal s key) d id fv) 8
  let asked := s.cip.annAsked.contains k
  let s := { s with cip := { s.cip with
    annNs := if asked then s.cip.annNs else s.cip.annNs.put k s.devNs
    annReq := if asked then s.cip.annReq.put k s.devNs else s.cip.annReq
    annAsked := removeFirst k s.cip.annAsked } }
  let s := inc s (R.CIP_DOM_CNT d 5)
  let send (b : List Byte) (s : State) : State := builtFrame true (resyncFrame s d b) (domPorts s d) 7 0 false false s
  if rdf s (R.CIP_DOM_RESYNC d) 31 29 ≤ 1 then
    send ([0xE2] ++ slice msg 15 5) (send ([0xE1] ++ slice msg 8 7) (send ([0xE0] ++ slice msg 1 7) s))
  else send msg s

/-- What execResyncAnnounceTx does. -/
def resyncAnnounceTxDo (d : Nat) (slot : Nat) (s : State) : State :=
  let c := R.CIP_FV_CFG slot
  let key := rdf s (R.CIP_DOM_KEYS d) 27 16
  let mine := s.cip.slots.contains slot && rdb s c 31 && rdb s c 30 && rdf s c 15 8 == d
  let period := rdf s (R.CIP_DOM_WIN d) 31 16
  let due := s.cip.annAsked.contains slot ||
    (period != 0 && s.cip.annNs.getD slot 0 + period * 1000000 ≤ s.devNs)
  if rdb s (R.CIP_DOM_CFG d) 31 && rdb s (R.CIP_DOM_CFG d) 30 && mine && due && lifecycle s == 1 && key < 2048 &&
      ktValid s key && !ktStale s key then announce d slot s
  else s

/-- RESYNC_ANNOUNCE_TX: a transmit slot of the domain is announced when its period has passed or a request asked for it. -/
def execResyncAnnounceTx (d slot : Nat) (s : State) : Host.Outcome State Fault Refusal :=
  run s (.resyncAnnounceTx d slot)
    (resyncAnnounceTxDo d slot s)

/-- The domain whose resynchronisation messages a frame on channel n belongs to: of those with the channel and the
identifier, the one that the message names; the later parts of a classic announce follow their first. -/
def resyncDom (s : State) (n : Nat) (f : List Byte) : Option Nat :=
  let b := busData f
  let k := byteAt b 0
  let ds := (List.range 256).filter (fun d => rdb s (R.CIP_DOM_CFG d) 31 && rdb s (R.CIP_DOM_CFG d) 30 &&
    rdb s (R.CIP_DOM_CHAN d) n && rd s (R.CIP_DOM_RESYNC d) == hdrWord f 0)
  let named (d : Nat) : Bool :=
    if k = 0xE1 ∨ k = 0xE2 then (s.cip.parts.get? (256 * n + d)).any (fun x => x.next == k - 0xE0) else byteAt b 1 == d
  (ds.find? named).orElse (fun _ => ds.head?)

/-- A request names a transmit slot's DATA_ID: it is announced, at most once in 100 ms. -/
def resyncRequest (f : List Byte) (d : Nat) (s : State) : State :=
  let b := busData f
  if b.length ≠ 6 ∨ byteAt b 0 ≠ 0xF4 ∨ byteAt b 1 ≠ d then s else
  match slotFind s true d (beAt b 2 4) 0x3F with
  | none => s
  | some k =>
    let recent := match s.cip.annReq.get? k with
      | some t => decide (s.devNs < t + 100000000)
      | none => false
    if recent || s.cip.annAsked.contains k then s
    else { s with cip := { s.cip with annAsked := s.cip.annAsked ++ [k] } }

/-- A whole announce on channel n is verified under KEY_VER; a newer value becomes FV_LAST. -/
def resyncApply (n d : Nat) (b : List Byte) (s : State) : State :=
  if byteAt b 1 ≠ d ∨ lifecycle s ≠ 1 then s else
  let id := beAt b 2 4
  let fv := beAt b 6 6
  let key := rdf s (R.CIP_DOM_KEYS d) 11 0
  match slotFind s false d id (20 + n) with
  | none => s
  | some k =>
    if 2048 ≤ key ∨ ktValid s key = false ∨ ktStale s key = true then s else
    let s := slotSync k s
    let last := cnt s (R.CIP_FV k)
    if annTag (keyVal s key) d id fv ≠ beAt b 12 8 then inc s (R.CIP_DOM_CNT d 2)
    else if last < fv then raise 295 (inc (wrq s (R.CIP_FV k) fv) (R.CIP_DOM_CNT d 6))
    else if fv < last then raise 296 (inc s (R.CIP_DOM_CNT d 4))
    else s

/-- A part of a classic announce: parts must arrive in order within 100 ms, or they are discarded. -/
def resyncPart (n d : Nat) (b : List Byte) (s : State) : State :=
  let key := 256 * n + d
  let i := byteAt b 0 - 0xE0
  let drop (s : State) : State := { s with cip := { s.cip with parts := s.cip.parts.del key } }
  let save (x : AnnParts) (s : State) : State := { s with cip := { s.cip with parts := s.cip.parts.put key x } }
  if i = 0 then (if b.length = 8 then save ⟨[0xF5] ++ b.drop 1, 1, s.devNs⟩ s else drop s)
  else match s.cip.parts.get? key with
    | none => s
    | some x =>
      if x.next ≠ i ∨ x.sinceNs + 100000000 < s.devNs then drop s
      else if i = 1 then (if b.length = 8 then save { x with bytes := x.bytes ++ b.drop 1, next := 2 } s else drop s)
      else if b.length = 6 then resyncApply n d (x.bytes ++ b.drop 1) (drop s) else drop s

/-- A message of domain d received on channel n is taken. -/
def resyncTake (n d : Nat) (f : List Byte) (s : State) : State :=
  let b := busData f
  let k := byteAt b 0
  if k = 0xF4 then resyncRequest f d s
  else if busFormat f ≤ 1 then (if 0xE0 ≤ k ∧ k ≤ 0xE2 then resyncPart n d b s else s)
  else if k = 0xF5 ∧ b.length = 20 then resyncApply n d b s
  else s

/-- A message of domain d received on channel n, unless it has been taken already in its cycle (R328). -/
def resyncIn (n d : Nat) (f : List Byte) (s : State) : State :=
  if s.cip.annEarly.contains (n, f) then { s with cip := { s.cip with annEarly := s.cip.annEarly.erase (n, f) } }
  else resyncTake n d f s

/-- The frames that arrive on channel n in this cycle, of those that wait. -/
def arrivals (s : State) (n : Nat) : List (List Byte) :=
  s.pending.filterMap (fun c => match c with
    | .resyncAnnounceRx m f => if m = n then some f else none
    | .canFrameReceived m f _ _ false => if m = n then some f else none
    | _ => none)

/-- The announces of domain d that arrive on channel n in this cycle are applied before an unpacked frame of its port
(R328). -/
def annFirst (n d : Nat) (s : State) : State :=
  forEach (arrivals s n) (fun f s =>
    if resyncDom s n f = some d ∧ byteAt (busData f) 0 ≠ 0xF4 then
      let s := resyncTake n d f s
      { s with cip := { s.cip with annEarly := s.cip.annEarly ++ [(n, f)] } }
    else s) s

/-- RESYNC_REQUEST_RX. -/
def execResyncRequestRx (n : Nat) (frame : List Byte) (s : State) : Host.Outcome State Fault Refusal :=
  run s (.resyncRequestRx n frame)
    (match resyncDom s n frame with
     | none => s
     | some d =>
     resyncRequest frame d s)

/-- RESYNC_ANNOUNCE_RX. -/
def execResyncAnnounceRx (n : Nat) (frame : List Byte) (s : State) : Host.Outcome State Fault Refusal :=
  run s (.resyncAnnounceRx n frame)
    (match resyncDom s n frame with
     | none => s
     | some d =>
     if byteAt (busData frame) 0 = 0xF4 then s else
     resyncIn n d frame s)

/-- What execResyncPartTimeout does. -/
def resyncPartTimeoutDo (n : Nat) (d : Nat) (x : AnnParts) (s : State) : State :=
  { s with cip := { s.cip with parts := s.cip.parts.del (256 * n + d) } }

/-- RESYNC_PART_TIMEOUT: parts older than 100 ms are discarded. -/
def execResyncPartTimeout (n d : Nat) (s : State) : Host.Outcome State Fault Refusal :=
  run s (.resyncPartTimeout n d)
    (match s.cip.parts.get? (256 * n + d) with
     | none => s
     | some x =>
     if x.sinceNs + 100000000 ≤ s.devNs then resyncPartTimeoutDo n d x s else s)

-- The end of a job (R311, R312, R328) ----------------------------------------------------------------------------

/-- What execCipherJobComplete does. -/
def cipherJobCompleteDo (lane : Nat) (coresAgree : Bool) (ecc slot onward : Ecc) (j : CipJob) (s : State) : State :=
  let s := if ecc = .corrected then raise 303 (inc s R.CIP_ECC_COUNT) else s
  let s :=
    if !coresAgree then laneMismatch lane j s
    else if ecc = .multi then laneCompare lane (cipFail j 15 (raiseLine 304 57 (earlyFill j true (jobRemove j s))))
    else if !jobReady s j then s
    else
      let k := jobSlots s j
      let s := slotEccDo onward k.2 (slotEccDo slot k.1 (jobRemove j s))
      let s := match j.x with
        | some x => if x.unpacked && decide (4 ≤ j.kind) then annFirst (x.src - 20) j.dom s else s
        | none => s
      let s := match j.x, j.x.bind Ing.decided with
        | some x, some d => if j.kind = 1 then macsecInDone j x d s else sealDone j x d s
        | _, _ => s
      (j.lane2.toList.foldl (fun s l => laneCompare l s) (laneCompare lane s))
  stageSync (cipRun s)

/-- CIPHER_JOB_COMPLETE: the job that runs on lane l returns its result, with what the held buffer (`ecc`) and the slots
it reads showed (R311, R312, R328). -/
def execCipherJobComplete (lane : Nat) (coresAgree : Bool) (ecc : Ecc) (s : State) (slot onward : Ecc := .ok) :
    Host.Outcome State Fault Refusal :=
  run s (.cipherJobComplete lane coresAgree ecc slot onward)
    (match (laneJobs s lane).head? with
     | none => s
     | some j =>
     cipherJobCompleteDo lane coresAgree ecc slot onward j s)

end Sys2Proof.Machine
end

