-- ==== Sys2Proof/Machine/VaultCmd.lean ====
section
/-! DEFINITION. The vault's commands (chapter 11): table operations, import, tamper and debug opening. -/

namespace Sys2Proof.Machine

/-- INVALIDATE with what it does to the lanes and queued jobs (R291, R293). -/
def invalidate (reqr i : Nat) (s : State) : State :=
  let gen := ktGen s i
  let s := vltInvalidate reqr i s
  if ktGen s i = gen then cipSync s else cipInvalidate i s

/-- IMPORT (R296): a request of the cluster; any other requester is DENIED. -/
def vltImport (reqr : Nat) (blob : List Byte) (s : State) : State :=
  if reqr ≠ 1 then vltResult 4 reqr 0 2 s
  else
    let r := importBlob blob s
    vltResult 4 1 0 r.1 r.2

/-- ROTATE_KEM (R291): KEM_EPOCH advances, is committed, and the key pair follows the new epoch. -/
def rotateKemDo (reqr : Nat) (s : State) : State :=
  if reqr ≠ 1 ∨ lifecycle s ≠ 1 then vltResult 5 reqr 0 2 s
  else
    let s := wrf s R.VLT_STATUS 15 0 (rdf s R.VLT_STATUS 15 0 + 1)
    vltResult 5 1 0 0 (kekDerive (inc s (R.VLT_CNT 9)))

/-- Record bit of a tamper source (R298). -/
def tamperBit : TamperSource → Nat
  | .mesh => 1 | .supply => 2 | .clock => 4 | .temperature => 8 | .debugOpen => 16 | .testLand => 32

/-- A source is watched at rung r (R298). -/
def tamperWatched (r : Nat) : TamperSource → Bool
  | .mesh => true | .temperature => true | .testLand => true
  | .supply => r ≤ 2 | .clock => r ≤ 2 | .debugOpen => r ≤ 2

/-- The TAP takes OPEN_REQUEST with its value while the main die runs (R298, R302). -/
def openAsked (s : State) (value : Nat) (tap : TapInstr) : Bool :=
  tap == .openRequest && value == 0x4F50454E && decide (rung s ≤ 2) && !s.gaf.inReset

/-- The operation of a request (R291), with what ECC finds in its entry (R306). -/
def vaultApply (r : VaultReq) (s : State) : State :=
  let s := ktEcc r.ecc (if r.op = 4 then beAt r.blob 1104 2 % 2048 else r.i) s
  match r.op with
  | 0 => cipSync (vltDerive r.reqr r.i s)
  | 1 => cipSync (vltGenerate r.reqr r.i s)
  | 2 => invalidate r.reqr r.i s
  | 3 => cipSync (vltDelete r.reqr r.i s)
  | 4 => cipSync (vltImport r.reqr r.blob s)
  | _ => rotateKemDo r.reqr s

/-- A request ends: one of the mailbox completes there, RESULT as VLT_OP_STATUS shows. -/
def vaultEnd (r : VaultReq) (s : State) : State := if r.mbx then mbxDone (rdf s R.VLT_OP_STATUS 31 24) 0 s else s

/-- Serve a request. -/
def vaultServe (r : VaultReq) (s : State) : State := vaultEnd r (vaultApply r s)

/-- A tamper aborts an operation that is under way: it returns TAMPER (R300, R303). -/
def vaultAbort (r : VaultReq) (s : State) : State :=
  vaultEnd r (vltResult r.op r.reqr r.i 10 (if r.op = 4 then wrf s R.VLT_IMPORT_STATUS 31 24 10 else s))

/-- Of the requests of a device tick the one that is served first: the safety pair's, the cluster's, the host's, each in order
of arrival (R291). -/
def vaultFirst (s : State) : Option VaultReq :=
  [0, 1, 2].findSome? (fun k => s.vault.reqs.find? (fun r => r.reqr == k))

/-- Serve the requests of a device tick; `n` bounds their number. While the root is held unread they wait (R301). -/
def vaultDrain : Nat → State → State
  | 0, s => s
  | n + 1, s =>
    if s.gaf.resLow then s else
    match vaultFirst s with
    | none => s
    | some r => vaultDrain n (vaultServe r { s with vault := { s.vault with reqs := s.vault.reqs.erase r } })

/-- A request reaches the vault, which serves those of one device tick in its order at the tick's end (R291, R303; DEDUCED,
log entry 193). -/
def vaultAsk (r : VaultReq) (s : State) : State := { s with vault := { s.vault with reqs := s.vault.reqs ++ [r] } }

/-- VAULT_DERIVE (R291). -/
def execVaultDerive (req : Requester) (i : Nat) (s : State) (ecc : Ecc := .ok) : Host.Outcome State Fault Refusal :=
  run s (.vaultDerive req i ecc)
    (vaultAsk ⟨0, vltReq req, i, [], ecc, false⟩ s)

/-- VAULT_GENERATE (R291). -/
def execVaultGenerate (req : Requester) (i : Nat) (s : State) (ecc : Ecc := .ok) : Host.Outcome State Fault Refusal :=
  run s (.vaultGenerate req i ecc)
    (vaultAsk ⟨1, vltReq req, i, [], ecc, false⟩ s)

/-- VAULT_INVALIDATE (R291). -/
def execVaultInvalidate (req : Requester) (i : Nat) (s : State) (ecc : Ecc := .ok) : Host.Outcome State Fault Refusal :=
  run s (.vaultInvalidate req i ecc)
    (vaultAsk ⟨2, vltReq req, i, [], ecc, false⟩ s)

/-- VAULT_DELETE (R291). -/
def execVaultDelete (req : Requester) (i : Nat) (s : State) (ecc : Ecc := .ok) : Host.Outcome State Fault Refusal :=
  run s (.vaultDelete req i ecc)
    (vaultAsk ⟨3, vltReq req, i, [], ecc, false⟩ s)

/-- VAULT_IMPORT (R296). -/
def execVaultImport (req : Requester) (blob : List Byte) (s : State) (ecc : Ecc := .ok) : Host.Outcome State Fault Refusal :=
  run s (.vaultImport req blob ecc)
    (vaultAsk ⟨4, vltReq req, 0, blob, ecc, false⟩ s)

/-- ROTATE_KEM (R291). -/
def execRotateKem (req : Requester) (s : State) : Host.Outcome State Fault Refusal :=
  run s (.rotateKem req)
    (vaultAsk ⟨5, vltReq req, 0, [], .ok, false⟩ s)

/-- VLT_TAMPER_REC and VLT_TAMPER_TIME. -/
def tamperRecord (bits phase rg : Nat) (s : State) : State :=
  let w := (rdf s R.VLT_TAMPER_REC 15 8 ||| bits) % 0x100
  wrq (wr s R.VLT_TAMPER_REC (w * 0x100 + rg * 0x20 + phase * 8 + 1)) R.VLT_TAMPER_TIME s.devNs

/-- The erase (R299) to lifecycle state `l`, with event 323 and the tamper line (R300). -/
def tamperErase (bits l : Nat) (s : State) : State :=
  let phase := if !startDone s then 0 else if s.cip.jobs.isEmpty && s.vault.reqs.isEmpty then 1 else 2
  let s := tamperRecord bits phase (rung s) s
  let s := forEach s.vault.reqs vaultAbort { s with vault := { s.vault with reqs := [] } }
  let s := zeroise (cipAbortAll s)
  let s := setLifecycle l (inc s (R.VLT_CNT 7))
  cipSync (raiseLine 323 59 s)

/-- A tamper by the sources in `bits` in the present rung (R298, R300). -/
def tamper (bits : Nat) (s : State) : State :=
  if bits = 0 ∨ lifecycle s = 0 then s
  else if lifecycle s ≠ 1 then wrf s R.VLT_TAMPER_REC 15 8 (rdf s R.VLT_TAMPER_REC 15 8 ||| bits)
  else if 3 ≤ rung s then
    -- the always-on latch fires the reservoir; the vault reports at the next wake
    let z := zeroise s
    { z with vault := { z.vault with asleepTamper := s.vault.asleepTamper ||| bits, asleepRung := rung s
                                     asleepCount := rd s R.GAF_ALARM_LEFT } }
  else tamperErase bits 3 s

/-- A start that finds the root cells cleared with the state SEALED writes ERASED (R299). -/
def eraseComplete (s : State) : State := if lifecycle s = 1 ∧ s.vault.root = none then setLifecycle 3 s else s

/-- A tamper taken while asleep is reported at the wake: ERASED, the record, event 324 (R300). -/
def tamperReport (s : State) : State :=
  if s.vault.asleepTamper = 0 then s
  else
    let bits := s.vault.asleepTamper
    let rg := s.vault.asleepRung
    let s := zeroise { s with vault := { s.vault with asleepTamper := 0, asleepRung := 0, asleepCount := 0 } }
    let s := setLifecycle 3 (inc (tamperRecord bits 3 rg s) (R.VLT_CNT 7))
    raise 324 (raiseLine 323 59 s)

/-- What execTamperDetected does. A module without supply cannot act: its lands and its mesh are found by the checks of the
next start (R301). -/
def tamperDetectedDo (sources : List TamperSource) (s : State) : State :=
  let s := { s with gaf := { s.gaf with meshCut := s.gaf.meshCut || sources.contains .mesh
                                        tst := s.gaf.tst || sources.contains .testLand } }
  if s.gaf.inReset then s
  else tamper (((sources.filter (tamperWatched (rung s))).map tamperBit).foldl (· ||| ·) 0) s

/-- TAMPER_DETECTED. -/
def execTamperDetected (sources : List TamperSource) (s : State) : Host.Outcome State Fault Refusal :=
  run s (.tamperDetected sources)
    (tamperDetectedDo sources s)

/-- What execOpenRequest does. -/
def openRequestDo (others : List TamperSource) (s : State) : State :=
  let bits := (others.map tamperBit).foldl (· ||| ·) 16
  if lifecycle s = 1 then
    if others.isEmpty then wrf (raise 330 (tamperErase bits 2 s)) R.VLT_STATUS 24 24 1 else tamperErase bits 3 s
  else if lifecycle s = 3 then wrf (raise 330 (tamper bits s)) R.VLT_STATUS 24 24 1
  else tamper bits s

/-- OPEN_REQUEST with the other tamper sources that fire with it (R302): the erase with state OPENED, event 330, and only then an open TAP; with another tamper the state
becomes ERASED and the TAP stays closed. In ERASED it opens the TAP without a state change (R286). The request takes effect
only with the value 0x4F50_454E. A closed TAP answers a boundary-scan instruction or a debug access as BYPASS. What TDO shows
until the erase completes, 0, is what the command reads. -/
def execOpenRequest (others : List TamperSource) (s : State) (value : Nat := 0x4F50454E) (tap : TapInstr := .openRequest) :
    Host.Outcome State Fault Refusal :=
  run s (.openRequest others value tap)
    (let limited := !rdb s R.VLT_STATUS 24 && (tap == .boundaryScan || tap == .debug)
     let u := { s with vault := { s.vault with tap := if limited then .bypass else tap } }
     if openAsked s value tap then openRequestDo others (answer [0] u) else u)

end Sys2Proof.Machine
end

