-- ==== Sys2Proof/Machine/Lookup.lean ====
section
/-! DEFINITION. The ingress pipeline (chapter 2): acceptance, lookup and verdict, policing, numbering, the forwarding
decision, and the tail; MAC control frames received (R127). -/

namespace Sys2Proof.Machine

-- MAC control (R127, R128) ----------------------------------------------------------------------------------------

/-- Class c of port p is no longer paused: PAUSED_NS advances by the time it was. -/
def pauseRelease (p c : Nat) (s : State) : State :=
  match s.sched.pausedUntil.get? (8 * p + c) with
  | none => s
  | some x =>
    let s := { s with sched := { s.sched with pausedUntil := s.sched.pausedUntil.del (8 * p + c) } }
    wrf (addCnt s (R.SCH_PORT_CNT p 11) (s.devNs - x.2)) (R.SCH_PORT_STATE p) (16 + c) (16 + c) 0

/-- Pause class c of port p for a number of quanta of 512 bit times; 0 releases it at once. -/
def pauseClass (p c quanta : Nat) (s : State) : State :=
  if quanta = 0 then pauseRelease p c s
  else
    let ns := if portBps s p = 0 then 0 else ceilDiv (quanta * 512 * 1000000000) (portBps s p)
    let since := match s.sched.pausedUntil.get? (8 * p + c) with
      | some x => x.2
      | none => s.devNs
    let s := { s with sched := { s.sched with pausedUntil := s.sched.pausedUntil.put (8 * p + c) (s.devNs + ns, since) } }
    wrf s (R.SCH_PORT_STATE p) (16 + c) (16 + c) 1

/-- A PAUSE (opcode 0x0001) or PFC (0x0101) frame with a good FCS (R127, R128). -/
def pauseIn (p opcode : Nat) (quanta : List Nat) (enable : Nat) (s : State) : State :=
  let mode := rdf s (R.SCH_PORT_CFG p) 27 26
  let mine := (opcode = 0x0001 ∧ mode = 1) ∨ (opcode = 0x0101 ∧ mode = 2)
  if ¬ mine then raise 165 (inc s (R.SCH_PORT_CNT p 9))
  else
    let s := raise 164 (inc s (R.SCH_PORT_CNT p 8))
    if rdb s (R.SCH_PORT_CFG p) 25 then s
    else if opcode = 1 then
      forEach (List.range 8) (fun c s =>
        if rdb s (R.SCH_PORT_CFG p) (16 + c) then s else pauseClass p c (quanta.getD 0 0 % 0x10000) s) s
    else
      forEach (bitsOf enable 8) (fun c s => pauseClass p c (quanta.getD c 0 % 0x10000) s) s

/-- A MAC control frame as received: PAUSE and PFC act, any other opcode is counted (R224). -/
def macControl (p : Nat) (b : List Byte) (s : State) : State :=
  let op := beAt b 14 2
  if op = 0x0001 then pauseIn p op [beAt b 16 2] 0 s
  else if op = 0x0101 then pauseIn p op ((List.range 8).map (fun i => beAt b (18 + 2 * i) 2)) (beAt b 16 2 % 0x100) s
  else inc s (R.PORT_ETH_CNT p 6)

/-- Frames that the MAC or the time engine takes before lookup: MAC control and gPTP (R127, R274). -/
def macTaken (b : List Byte) : Bool :=
  beAt b 12 2 == 0x8808 || (beAt b 12 2 == 0x88F7 && beAt b 0 6 == 0x0180C200000E)

-- Entry -----------------------------------------------------------------------------------------------------------

/-- The frame is one for the pipeline: no runt, and none that the MAC or the time engine takes (R52, R127, R274). -/
def forPipeline (x : Ing) : Bool := x.tail != .gone && (x.bus || (64 ≤ x.data.length && !(isEthPort x.src && macTaken x.data)))

/-- A frame enters the pipeline; the first under a new scene raises event 138 (R65). -/
def ingPush (x : Ing) (s : State) : State :=
  let s := { s with ing := s.ing ++ [x] }
  let s := if s.lku.sceneNew && forPipeline x then raise 138 { s with lku := { s.lku with sceneNew := false } } else s
  stageSync s

/-- A whole bus frame as received on port p, or injected on port 18 or 19: acceptance by length (R54), then the pipeline. One whose bytes
are not 16 + LENGTH of its header counts LENGTH_ERR too (DESIGN CHOICE, log entry 221). -/
def ingBus (p : Nat) (f : List Byte) (tsReq : Option Nat) (s : State) (unpacked : Bool := false) (slot : Option Nat := none) : State :=
  if f.length = 16 + busLen f ∧ busLenOk (busFormat f) (busLen f) (busRtr f) = true then
    ingPush ⟨p, true, f, s.devNs, scene s, .good, none, tsReq, false, unpacked, slot⟩ s
  else lkuCount p 4 s

/-- What execFrameReceive does. -/
def frameReceiveDo (p : Nat) (data : List Byte) (room : Bool) (s : State) : State :=
  let st := rdf s (R.PORT_ETH_STATE p) 31 28
  if st ≠ 2 ∧ st ≠ 3 then s
  else
    let s := activity (lpiRxExit p s)
    -- one that finds no room still ends in the MAC (R224)
    let x (t : TailState) : Ing := ⟨p, false, data, s.devNs, scene s, t, none, none, false, false, none⟩
    if room then ingPush (x .open) s else stageOverrun p { s with ing := s.ing ++ [x .gone] }

/-- FRAME_RECEIVE: a frame arrives on port p whose link is up (R52, R222); a full receive buffer drops it whole (R84). -/
def execFrameReceive (p : Nat) (data : List Byte) (room : Bool) (s : State) : Host.Outcome State Fault Refusal :=
  run s (.frameReceive p data room)
    (frameReceiveDo p data room s)

-- MACsec at reception (R59, R319) ---------------------------------------------------------------------------------

/-- Receive SC, SA slot, packet number and key of a SecTAG frame on port p. -/
def secSelect (s : State) (p : Nat) (b : List Byte) : Option (Nat × Nat × Nat × Nat) :=
  if !secTagOk b then none else
  (rxSc s p b).bind (fun c => (rxSa s p c b).map (fun a =>
    (c, a, secPn b (rdb s (R.CIP_SECY_CFG p) 29) (cnt s (R.CIP_RX_PN p c a)), rdf s (R.CIP_RX_SA p c a) 11 0)))

/-- A protected frame of port p's SecY. -/
def secIn (s : State) (p : Nat) (x : Ing) : Bool := !x.bus && secyOn s p && !secBypass x.data && hasSecTag x.data

/-- What R319 says of a frame before its job: the bytes to classify, or dropped. -/
def secFront (p : Nat) (x : Ing) (s : State) : Option (List Byte) × State :=
  if x.bus || !secyOn s p then (some x.data, s)
  else if secBypass x.data then (some x.data, inc s (R.CIP_PORT_CNT p 8))
  else if hasSecTag x.data then
    match secSelect s p x.data with
    | none => (none, raise 293 (inc s (R.CIP_PORT_CNT p 4)))
    | some (c, a, pn, key) =>
      if pn < cnt s (R.CIP_RX_PN p c a) then (none, raise 294 (inc s (R.CIP_PORT_CNT p 5)))
      else if lifecycle s ≠ 1 then (none, raise 297 (inc s (R.CIP_CNT 7)))
      else (some (secPlain (keyVal s key) (rxIv s p c a pn) x.data), s)
  else if rdb s (R.CIP_SECY_CFG p) 27 then (some x.data, inc s (R.CIP_PORT_CNT p 2))
  else (none, raise 293 (inc s (R.CIP_PORT_CNT p 3)))

-- From the pipeline to the cipher engine or the pool --------------------------------------------------------------

/-- Request the seal job that a verdict names (R308). -/
def sealJob (x : Ing) (d : Decided) (s : State) : State :=
  let pick (k : Nat) : Nat := if d.v.key = 0xFFF then k else d.v.key
  let dom := d.v.sealDomain.getD 0
  let gen := rdf s (R.CIP_DOM_KEYS dom) 27 16
  let ver := rdf s (R.CIP_DOM_KEYS dom) 11 0
  let onward := rdf s (R.CIP_DOM_KEYS (rdf s (R.CIP_DOM_CFG dom) 7 0)) 27 16
  let j : CipJob := {
    kind := 3, port := x.src, x := some { x with decided := some d }, desc := none, clap := none, layout := none, key := pick gen
    key2 := 0xFFF, dom := dom, early := false, sc := 0, sa := 0, pn := 0, lane := none, lane2 := none }
  let j := match d.v.cipher with
    | .verify => { j with kind := 4, key := pick ver }
    | .reseal => { j with kind := 5, key := pick ver, key2 := onward }
    | _ => j
  if !x.bus || d.v.sealDomain.isNone then cipFail j 2 s else cipRequest j s

/-- Request MACSEC_IN for a frame of port p (R319). -/
def macsecJob (x : Ing) (d : Decided) (early : Bool) (s : State) : State :=
  match secSelect s x.src x.data with
  | none => raise 293 (inc s (R.CIP_PORT_CNT x.src 4))
  | some (c, a, pn, key) =>
    cipRequest {
      kind := 1, port := x.src, x := some { x with decided := some d }, desc := none, clap := none, layout := none, key := key
      key2 := 0xFFF, dom := 0, early := early, sc := c, sa := a, pn := pn, lane := none, lane2 := none
      iv := rxIv s x.src c a pn } s

/-- A whole good frame leaves the pipeline: to its cipher job, its engine or the pool. -/
def ingDone (x : Ing) (d : Decided) (s : State) : State :=
  -- the verdict's class, whatever the port's CT_EN (R315, R319)
  if secIn s x.src x then macsecJob x d (d.v.cipher == .decrypt && effectiveEarly d.v) s
  else match d.v.cipher with
    | .doSeal => sealJob x d s
    | .verify => sealJob x d s
    | .reseal => sealJob x d s
    | _ => deliver x d x.data [] false s

-- Lookup (R51, R63 to R76) ----------------------------------------------------------------------------------------

/-- Replace the first frame equal to `x`. -/
def ingSwap (x : Ing) (y : Option Ing) : List Ing → List Ing
  | [] => []
  | z :: t => if z = x then y.toList ++ t else z :: ingSwap x y t

def ingSet (x : Ing) (y : Option Ing) (s : State) : State := { s with ing := ingSwap x y s.ing }

/-- Frame x is dropped or taken: gone, or, while it still arrives, left to the MAC's counters at its tail (R224). -/
def ingGone (x : Ing) (s : State) : State := ingSet x (if x.tail = .open then some { x with tail := .gone } else none) s

/-- Bytes of a frame that the port writes: a longer one is cut at MAX_FRAME (R53), which ports 19 to 44 do not have. -/
def ingMax (s : State) (x : Ing) : Nat := if x.bus || 18 < x.src then x.data.length else maxFrame s x.src

/-- The flood limiter of a verdict, then the meter (R72 to R75): the drop precedence, paying bucket and charge, or the
counter of the drop. -/
def policing (p : Nat) (v : Verdict) (dei : Bool) (charge endNs : Nat) (s : State) : Except Nat (Nat × Nat) × State :=
  let fl := match v.flood with
    | some r => floodLimit r endNs s
    | none => (true, s)
  if !fl.1 then (.error 11, fl.2)
  else match v.meter with
    | none => (.ok (0, 0), fl.2)
    | some m =>
      let src := rdf fl.2 (R.LKU_PORT_CFG p) 19 18
      let r := police m charge (if src = 1 then dei else if src = 2 then v.yellow else false) fl.2
      match r.1 with
      | some dp => (.ok dp, r.2)
      | none => (.error 10, r.2)

/-- Charge length at the forwarding decision (R73). -/
def chargeLen (ct : Bool) (x : Ing) (pr : Option Parsed) : Nat :=
  if ct then ((pr.bind Parsed.declared).getD 64) else x.data.length

/-- Sequence numbering (R76): none where a frame of a TAKE_RTAG stream has no R-TAG. -/
def numbering (v : Verdict) (rtag : Option Nat) (s : State) : Option (Option Nat) × State :=
  match v.stream with
  | none => (some none, s)
  | some n =>
    let r := numberFrame n rtag s
    if r.1.isNone then (none, r.2) else (some r.1, r.2)

/-- An empty destination set drops the frame, but for the actions that take it whatever it holds (R68, R163). -/
def emptyDrop (v : Verdict) : Bool :=
  v.dest == 0 && !(v.bridge == .signal || v.bridge == .transport || v.bridge == .unpack1722)

/-- The bucket that paid for a cut-through frame is adjusted at its tail (R73). -/
def tailMeter (x : Ing) (d : Decided) (s : State) : State :=
  match d.v.meter with
  | some m => meterAdjust m d.paid (min x.data.length (ingMax s x)) d.charge (ingMax s x) s
  | none => s

/-- The forwarding decision and what follows a verdict (R69 to R76). `b` holds the bytes classified. -/
def forward (p : Nat) (x : Ing) (b : List Byte) (v : Verdict) (pr : Option Parsed) (s : State) : State :=
  let drop (k : Nat) (s : State) : State := lkuCount p k (ingGone x s)
  let sec := secIn s p x
  if v.cipher == .decrypt && !sec then
    -- R319 names IN_UNTAGGED, which ports 0 to 17 have; another port counts FILTER_DROP (DESIGN CHOICE, log entry 173)
    raise 293 (if p ≤ 17 then ingGone x (inc s (R.CIP_PORT_CNT p 3)) else drop 8 s)
  else if emptyDrop v then drop 8 s
  else
    let early := sec && v.cipher == .decrypt && effectiveEarly v
    let ct := !x.bus && cutThroughOk s p v && (!sec || early)
    let charge := chargeLen ct x pr
    let po := policing p v ((pr.map Parsed.dei).getD false) charge x.rxNs s
    match po.1 with
    | .error k => drop k po.2
    | .ok dp =>
      let nb := numbering v (pr.bind Parsed.rtag) po.2
      match nb.1 with
      | none => drop 8 nb.2
      | some sq =>
        let s := nb.2
        let cap := if v.capture then captureWrite p b (if x.tail = .open then 0 else b.length) x.rxNs s else (none, s)
        let s := cap.2
        let old := x
        let x := { x with stamped := cap.1.isSome, rxNs := cap.1.getD x.rxNs }
        let d : Decided := ⟨v, dp.1, sq, dp.2, charge, none, classOf s p v pr, false⟩
        -- a tail that has already arrived settles the charge at once (R73)
        let settle (s : State) : State := if x.tail = .good then tailMeter x d s else s
        if early && ct then macsecJob x d true (settle (ingSet old none s))
        else if ct then
          let h := cutHand x d (x.data.take (ingMax s x)) (cellsOf (min x.data.length (ingMax s x))) s
          if x.tail = .good then settle (closeTail h.1 false (ingSet old none h.2))
          else ingSet old (some { x with decided := some { d with handed := some h.1 } }) h.2
        else if x.tail = .good then ingDone x d (ingSet old none s)
        else ingSet old (some { x with decided := some d }) s

/-- Corrected and multi-bit errors of the lookup tables (R66): answers whether the frame is dropped. -/
def lkuEcc (e : Ecc) (s : State) : Bool × State :=
  match e with
  | .ok => (false, s)
  | .corrected => (false, raise 139 (inc s R.LKU_ECC_COUNT))
  | .multi => (true, raiseLine 140 48 s)

/-- An error that the collator's memories find at a frame (R156): a multi-bit error flushes the context it lies in. -/
def colEcc (e : Ecc) (c : Nat) (s : State) : State :=
  match e with
  | .ok => s
  | .corrected => raise 200 (inc s R.COL_ECC_COUNT)
  | .multi => if rdb s (R.COL_CTX_CFG c) 31 then raiseLine 201 52 (ctxFlush c s) else s

/-- The frame of port p that lookup takes next: the oldest without a verdict that the MAC does not take, however few lookups a
later one needs (DESIGN CHOICE, log entry 222); none while a job of the port waits behind the 256 in flight, which holds the
port island back (R309). -/
def ingNext (s : State) (p : Nat) : Option Ing :=
  if (s.cip.jobs.drop 256).any (fun j => j.kind != 2 && j.x.any (fun x => x.src == p)) then none
  else s.ing.find? (fun x => x.src == p && x.decided.isNone && forPipeline x)

/-- Lookup of frame x of port p. -/
def lookupFrame (p : Nat) (x : Ing) (lku col : Ecc) (at_ : Nat) (s : State) : State :=
  if x.tail = .bad ∨ (x.tail = .good ∧ ingMax s x < x.data.length) then
    -- the tail was judged before a verdict was ready
    lkuCount p (if ingMax s x < x.data.length then 2 else 5) (ingSet x none s)
  else
    let f := secFront p x s
    match f.1 with
    | none => ingGone x f.2
    | some b =>
      if !x.bus && isKaEth s p b then
        -- taken by the parser; its tail has to be good first, and a protected one verified
        (if x.tail ≠ .good then s
         else if secIn s p x then macsecJob x ⟨{ dest := 0, tc := 0 }, 0, none, 0, 0, none, 0, false⟩ false (ingSet x none f.2)
         else keepaliveIn p (ingSet x none f.2))
      else
      let s := f.2
      let pr := if x.bus then none else some (parseEth b)
      let s := if (pr.map Parsed.parseErr).getD false then lkuCount p 7 s else s
      let e := lkuEcc lku s
      let s := e.2
      let r := match pr with
        | some q => lookupEth s p x.scene q
        | none => lookupBus s p x.scene b
      -- a frame that a multi-bit error and a filter both drop counts by the filter (R55, R66)
      if e.1 then lkuCount p (match r with | .error 8 => 8 | _ => 9) (ingGone x s)
      else
        match r with
        | .error k => lkuCount p k (ingGone x s)
        | .ok v => forward p x b v pr (colEcc col at_ s)

/-- RESULT of injection slot k, whose frame is handed over or refused (R471). -/
def slotResult (k code : Nat) (s : State) : State :=
  wr { s with host := { s.host with injSince := s.host.injSince.del k } } (R.PORT19_CP_RES k) code

/-- A frame handed over waits for its stamp where asked, else the slot answers OK. -/
def slotOk (k : Nat) (s : State) : State :=
  if (s.host.injSince.get? k).isSome || rdb s (R.PORT19_CP_RES k) 30 then s else slotResult k 0 s

/-- Copies that the pool has refused for space, descriptors or drop precedence. -/
def spaceRefused (s : State) : Nat :=
  (List.range 512).foldl (fun n q => n + cnt s (R.CPL_Q_CNT q 2) + cnt s (R.CPL_Q_CNT q 3)) 0

/-- The slot that frame x came from answers once x has been handed over: NO_SPACE where the pool refused it a copy (R471; DESIGN
CHOICE, log entry 258). `s0`: as the machine was before. -/
def slotServe (x : Ing) (s0 s : State) : State :=
  match x.slot with
  | none => s
  | some k => if spaceRefused s0 < spaceRefused s then slotResult k 4 s else slotOk k s

/-- Lookup of frame x, and what its slot answers. -/
def lookupServe (p : Nat) (x : Ing) (lku col : Ecc) (colAt : Nat) (pool : PoolEcc) (s : State) : State :=
  stageSync (slotServe x s (lookupFrame p x lku col colAt
    { s with pool := { s.pool with readEcc := if pool = .ok then s.pool.readEcc else pool } }))

/-- FRAME_LOOKUP; `pool`: what the next read of the pool by a LIN port finds, whichever command brings it about (R105; log
entry 251). -/
def execFrameLookup (p : Nat) (lku col : Ecc) (s : State) (colAt : Nat := 0) (pool : PoolEcc := .ok) :
    Host.Outcome State Fault Refusal :=
  run s (.frameLookup p lku col colAt pool)
    (match ingNext s p with
     | none => s
     | some x => lookupServe p x lku col colAt pool s)

-- Tails (R53, R71, R73) -------------------------------------------------------------------------------------------

/-- Counters of the MAC at a tail (R224). -/
def macCount (p : Nat) (b : List Byte) (fcsOk symbolErr : Bool) (s : State) : State :=
  if fcsOk && !symbolErr then
    let s := addCnt (inc s (R.PORT_ETH_CNT p 0)) (R.PORT_ETH_CNT p 1) b.length
    let s := if beAt b 0 6 = 0xFFFFFFFFFFFF then inc s (R.PORT_ETH_CNT p 3)
      else if (byteAt b 0).testBit 0 then inc s (R.PORT_ETH_CNT p 2) else s
    if p ≤ 15 then validFrame p s else s
  else
    let s := if symbolErr then inc s (R.PORT_ETH_CNT p 5) else s
    portCause p 5 true (inc s (R.PORT_ETH_CNT p 4))

/-- The tail of frame x is judged (R71): `y` puts the frame back with its tail where it still waits. -/
def tailJudge (x : Ing) (ok : Bool) (s : State) : State :=
  let long := ingMax s x < x.data.length
  match x.decided with
  | none => ingSet x (some { x with tail := if ok then .good else .bad }) s
  | some d =>
    -- its job has ended before: the tail settles the charge and is counted
    if d.spent then
      let s := tailMeter x d (ingSet x none s)
      if long then lkuCount x.src (if d.handed.isSome then 3 else 2) s
      else if ok then s else lkuCount x.src (if d.handed.isSome then 6 else 5) s
    else
    match d.handed with
    | some fid =>
      let s := tailMeter x d (ingSet x none s)
      if long then closeTail fid true (lkuCount x.src 3 s)
      else if ok then closeTail fid false s
      else closeTail fid true (lkuCount x.src 6 s)
    | none =>
      let s := ingSet x none s
      if long then lkuCount x.src 2 s
      else if ok then ingDone { x with tail := .good } d s
      else withdrawAll d.v.stream d.seq d.v.dest (lkuCount x.src 5 s)

/-- The tail of an early-class frame under a cipher job: a bad one ends the job and is never a tag failure (R316). -/
def tailJob (j : CipJob) (x : Ing) (d : Decided) (ok : Bool) (s : State) : State :=
  let long := ingMax s x < x.data.length
  let s := tailMeter x d s
  if ok && !long then
    let j' := { j with x := some { x with tail := .good } }
    { s with cip := { s.cip with jobs := s.cip.jobs.map (fun y => if y = j then j' else y) } }
  else
    let s := lkuCount x.src (match d.handed with | some _ => (if long then 3 else 6) | none => (if long then 2 else 5)) (jobRemove j s)
    let s := match d.handed with
      | some fid => closeTail fid true (earlyFill j false s)
      | none => if long then s else withdrawAll d.v.stream d.seq d.v.dest s
    cipRun (j.lane.toList.foldl (fun s l => laneCompare l s) s)

/-- The open frame of port p under a cipher job. -/
def openJob (s : State) (p : Nat) : Option (CipJob × Ing × Decided) :=
  s.cip.jobs.findSome? (fun j => j.x.bind (fun x =>
    if x.src = p ∧ x.tail = .open then x.decided.map (fun d => (j, x, d)) else none))

/-- Frame x still arrives, dropped already or not. -/
def Ing.arriving (x : Ing) : Bool := x.tail == .open || x.tail == .gone

/-- The oldest frame of port p whose tail has not arrived. -/
def openIng (s : State) (p : Nat) : Option Ing := s.ing.find? (fun x => x.src == p && x.arriving)

/-- A gPTP frame that the MAC of port p takes (R274): an Announce is counted and ignored; a Pdelay_Req is answered, with a
receive stamp and a transmit stamp; where one is not free the exchange is lost (R277). The other messages are commands of the gPTP engine. -/
def gptpIn (p : Nat) (b : List Byte) (s : State) : State :=
  if !hasStamps p then s
  else match byteAt b 14 % 16 with
    | 2 =>
      let rx := ptpStamp (2 * p) s
      let tx := ptpStamp (2 * p + 1) rx.2
      -- Pdelay_Resp and its Follow_Up leave by the uncontrolled port (R318)
      if inSafe s && isVehiclePort p then s
      else if rx.1 && tx.1 then bypass p 12 2 (emit (.ptpResp p) tx.2) else inc tx.2 (R.TIM_PORT_CNT p 4)
    | 11 => { s with tim := { s.tim with announce := s.tim.announce.put p (s.tim.announce.getD p 0 + 1) } }
    | _ => s

/-- What execFrameTail does. -/
def frameTailDo (p : Nat) (fcsOk : Bool) (symbolErr : Bool) (s : State) : State :=
  let ok := fcsOk && !symbolErr
  let s := match openJob s p with
    | some (j, x, d) => tailJob j x d ok (macCount p x.data fcsOk symbolErr (plcaUse p x.rxNs false s))
    | none =>
      match openIng s p with
      | none => s
      | some x =>
        let s := macCount p x.data fcsOk symbolErr (plcaUse p x.rxNs false s)
        if x.tail == .gone then ingSet x none s
        else if x.data.length < 64 then lkuCount p 1 (ingSet x none s)
        else if macTaken x.data then
          let s := ingSet x none s
          if ok then
            let s := bypass p 8 1 s
            if beAt x.data 12 2 = 0x8808 then macControl p x.data s else gptpIn p x.data s
          else s
        else tailJudge x ok s
  stageSync s

/-- FRAME_TAIL: MAC counters, then the judgement; runts, MAC control and gPTP frames end here (R52, R127, R274). -/
def execFrameTail (p : Nat) (fcsOk symbolErr : Bool) (s : State) : Host.Outcome State Fault Refusal :=
  run s (.frameTail p fcsOk symbolErr)
    (frameTailDo p fcsOk symbolErr s)

/-- Port p's link is lost: its open frames are closed at once, a cut-through one with a tail mark (R135). -/
def ingLinkLost (p : Nat) (s : State) : State :=
  let jobs := s.cip.jobs.filterMap (fun j => j.x.bind (fun x =>
    if x.src = p ∧ x.tail = .open then x.decided.map (fun d => (j, x, d)) else none))
  let s := forEach jobs (fun a s => tailJob a.1 a.2.1 a.2.2 false s) s
  let s := forEach (s.ing.filter (fun x => x.src == p && x.arriving)) (fun x s =>
    if x.tail == .gone then ingSet x none s
    else if x.data.length < 64 then lkuCount x.src 1 (ingSet x none s)
    else if macTaken x.data then ingSet x none s else tailJudge x false s) s
  stageSync s

end Sys2Proof.Machine
end

