-- ==== Sys2Proof/Machine/Recorder.lean ====
section
/-! DEFINITION. The incident recorder (R386 to R395): gap records, trace records and their sampling, windows, freezes and
the persistent incident log. -/

namespace Sys2Proof.Machine

-- Gap records (R389) ----------------------------------------------------------------------------------------------

/-- Body of a gap record: losses of the ring's class in its place, then the reasons. -/
def gapBody (r : Nat) (g : GapCount) : List Byte :=
  let pair (i : Nat) : List Byte :=
    if i = r then leBytes g.records 4 ++ leBytes g.bytes 4
    else if i = 4 ∧ r = 3 then leBytes g.sampled 4 ++ leBytes g.sampledBytes 4
    else leBytes 0 8
  pair 1 ++ pair 2 ++ pair 3 ++ pair 4 ++ leBytes g.reasons 4 ++ List.replicate 28 0

/-- Sum of two gap bodies: counts added, reasons joined. -/
def gapSum (a b : List Byte) : List Byte :=
  ((List.range 8).map (fun i => leBytes (leAt a (4 * i) 4 + leAt b (4 * i) 4) 4)).flatten ++
  leBytes (leAt a 32 4 ||| leAt b 32 4) 4 ++ List.replicate 28 0

/-- Update the newest gap record of a ring in place; answers whether there was one. -/
def gapUpdate (body : List Byte) : List Rec → Bool × List Rec
  | [] => (false, [])
  | r :: t =>
    let x := gapUpdate body t
    if x.1 then (true, r :: x.2)
    else if r.kind = 5 then (true, { r with body := gapSum r.body body } :: t)
    else (false, r :: t)

/-- What execGapRecord does. -/
def gapRecordDo (ring : Nat) (g : GapCount) (s : State) : State :=
  let body := gapBody ring g
  let x := slate s 5 0 ring ring body
  let s := { s with recd := { s.recd with gaps := s.recd.gaps.del ring } }
  let r := recPush ring x s
  if r.1 then raise 451 (inc r.2 (R.REC_CNT 9))
  else
    let u := gapUpdate body (r.2.recd.rings.getD ring [])
    { r.2 with recd := { r.2.recd with rings := r.2.recd.rings.put ring u.2 } }

/-- GAP_RECORD: the losses of a ring's class since its last gap record are written into its reserve; a full reserve has
its newest gap record updated in place (R389). -/
def execGapRecord (ring : Nat) (s : State) : Host.Outcome State Fault Refusal :=
  run s (.gapRecord ring)
    (match s.recd.gaps.get? ring with
     | none => s
     | some g =>
     gapRecordDo ring g s)

-- Traces (R386, R390) ---------------------------------------------------------------------------------------------

/-- A trace copy is delivered to the TRACE ring: the whole frame, with its tail mark. -/
def traceWrite (f : PFrame) (s : State) : State :=
  let x := slate s 4 (if f.tailMark then 1 else 0) f.src f.len f.data
  let r := recStore 3 (x.dated s f.stamped f.rxNs) s
  inc r.2 (R.REC_CNT (if r.1 then 6 else 8))

/-- What execTraceSampleAdjust does. -/
def traceSampleAdjustDo (s : State) : State :=
  let held := rd s (R.CPL_PORT_LOGICAL 44)
  let hwm := rd s R.REC_TRACE_HWM
  let k := rdf s R.REC_STATUS 27 24
  let up := hwm < held ∧ k < 10
  let quiet := if up then 0 else if held < hwm / 4 then s.recd.quiet + 1 else 0
  let s := if up then raise 452 (wrf s R.REC_STATUS 27 24 (k + 1)) else s
  let k := rdf s R.REC_STATUS 27 24
  if quiet = 1000 ∧ 0 < k then
    { (wrf s R.REC_STATUS 27 24 (k - 1)) with recd := { s.recd with quiet := 0 } }
  else { s with recd := { s.recd with quiet := quiet } }

/-- TRACE_SAMPLE_ADJUST (R390): once per ms. -/
def execTraceSampleAdjust (s : State) : Host.Outcome State Fault Refusal :=
  run s .traceSampleAdjust
    (traceSampleAdjustDo s)

-- Windows and freezes (R392 to R395) ------------------------------------------------------------------------------

/-- TRIGGER (R392): the host command; a recorder that is OFF answers DENIED. -/
def triggerDo (s : State) : State :=
  (if recOn s then trigger 0 0 (wr s R.REC_CMD_STATUS 0) else wr s R.REC_CMD_STATUS 2)

/-- Records of a ring dated within the window. -/
def inWindow (w : Window) (l : List Rec) : List Rec := l.filter (fun r => w.startNs ≤ r.devNs && r.devNs ≤ w.endNs)

/-- REC_RING_FROZEN of ring r: the window's records by offset. -/
def ringFrozen (w : Window) (r : Nat) (s : State) : State :=
  let l := s.recd.rings.getD r []
  let size := max 1 (recRingBytes s r)
  let before := recsBytes (l.takeWhile (fun x => x.devNs < w.startNs))
  let start := (rd s (R.REC_RING_TAIL r) + before) % size
  let stop := (start + recsBytes (inWindow w l)) % size
  wr (wr s (R.REC_RING_FROZEN r) start) (R.REC_RING_FROZEN r + 4) stop

/-- End the window: its records are written to the incident log next. -/
def windowClose (s : State) : State :=
  match s.recd.window with
  | none => s
  | some w => forEach [0, 1, 2, 3] (ringFrozen w) (wrf s R.REC_STATUS 31 28 3)

/-- WINDOW_END: POST_MS after the trigger (R393). -/
def execWindowEnd (s : State) : Host.Outcome State Fault Refusal :=
  run s .windowEnd
    (match s.recd.window with
     | none => s
     | some w =>
     if rdf s R.REC_STATUS 31 28 = 2 ∧ w.endNs ≤ s.devNs then windowClose s else s)

/-- Keep the records of a class that fit in `room` bytes, those nearest the trigger first: the farthest are left out. -/
def nearest (trig room : Nat) : Nat → List Rec → List Rec
  | 0, l => l
  | n + 1, l =>
    if recsBytes l ≤ room then l else
    match l.head?, l.getLast? with
    | some a, some b =>
      if ((trig : Int) - a.devNs).natAbs < ((trig : Int) - b.devNs).natAbs then nearest trig room n l.dropLast
      else nearest trig room n (l.drop 1)
    | _, _ => []

/-- The records of an entry in order of class under a limit of `room` bytes; what is left out of each class is noted. -/
def entryRecs (trig room : Nat) : List (Nat × List Rec) → List Rec × List (Nat × GapCount)
  | [] => ([], [])
  | (r, l) :: t =>
    let kept := nearest trig room l.length l
    let rest := entryRecs trig (room - recsBytes kept) t
    let n := l.length - kept.length
    (kept ++ rest.1, if n = 0 then rest.2 else (r, ⟨n, recsBytes l - recsBytes kept, 0, 0, 2⟩) :: rest.2)

/-- MiB that log entries take. -/
def logMib (l : List LogEntry) : Nat := ceilDiv ((l.map LogEntry.bytes).foldl (· + ·) 0) 0x100000

/-- Erase the oldest entries until `bytes` more fit in the 192 MiB of the incident log (R394). -/
def logRoom (bytes : Nat) : List LogEntry → List LogEntry
  | [] => []
  | e :: t => if ((e :: t).map LogEntry.bytes).foldl (· + ·) 0 + bytes ≤ NandRegion.incident.bytes then e :: t else logRoom bytes t

/-- Append an entry to the incident log (R394). -/
def logAppend (recs : List Rec) (save : Bool) (s : State) : State :=
  let n := recsBytes recs
  let kept := logRoom n s.recd.log
  let s := if kept.length < s.recd.log.length then raise 454 s else s
  let log := kept ++ [⟨n, true, save, recs⟩]
  let s := { s with recd := { s.recd with log := log } }
  let s := wr s R.REC_LOG_FILL (log.length * 0x10000 + logMib log)
  addCnt (wr s R.REC_FREEZE_BYTES n) (R.REC_CNT 14) n

/-- Release the window: the rings are no longer frozen. -/
def windowRelease (s : State) : State :=
  let s := { s with recd := { s.recd with window := none } }
  let s := forEach [0, 1, 2, 3] (fun r s => wrq (wrf s (R.REC_RING_STATE r) 31 31 0) (R.REC_RING_FROZEN r) 0) s
  wrf s R.REC_STATUS 31 28 1

/-- The window's records of ring r, without those that `lost` names by their place among them. -/
def readBack (s : State) (w : Window) (lost : List (Nat × Nat)) (r : Nat) : List Rec :=
  ((inWindow w (s.recd.rings.getD r [])).zipIdx.filter (fun x => !lost.contains (r, x.2))).map (·.1)

/-- The records of ring r that `lost` names are discarded: counted, and noted for the ring's next gap record with DRAM_ECC
(R389). -/
def dramDiscard (w : Window) (lost : List (Nat × Nat)) (r : Nat) (s : State) : State :=
  forEach ((inWindow w (s.recd.rings.getD r [])).zipIdx.filter (fun x => lost.contains (r, x.2)))
    (fun x s => noteLoss r 3 x.1.len (inc s (R.REC_CNT 17))) s

/-- The entry's records under its limit of `room` bytes with a gap record of 96 bytes for each class that does not fit: the
fewest places kept for gap records that are enough. -/
def entryFit (trig room : Nat) (l : List (Nat × List Rec)) : List Rec × List (Nat × GapCount) :=
  let f (n : Nat) := entryRecs trig (room - 96 * n) l
  f (((List.range 4).find? (fun n => decide ((f n).2.length ≤ n))).getD 4)

/-- Write the window's entry, with a gap record for each class that did not fit (R393). -/
def freezeWrite (w : Window) (lost : List (Nat × Nat)) (s : State) : State :=
  let get (r : Nat) : Nat × List Rec := (r, readBack s w lost r)
  let e := entryFit w.trigNs (rdf s R.REC_CFG 20 16 * 0x100000) [get 0, get 1, get 2, get 3]
  let gaps := e.2.map (fun g => slate s 5 0 g.1 g.1 (gapBody g.1 g.2))
  raise 449 (inc (logAppend (e.1 ++ gaps) false s) (R.REC_CNT 12))

/-- Single-bit errors corrected in the recorder's memories: counted, and source 457 for each. -/
def recCorrected (n : Nat) (s : State) : State :=
  forEach (List.range n) (fun _ s => raise 457 s) (addCnt s R.REC_ECC_COUNT n)

/-- The freeze ends, completed or by a NAND error (R393, R394); what ECC found as its records were read back (R389). -/
def freezeEnd (nandOk : Bool) (corrected : Nat) (lost : List (Nat × Nat)) (s : State) : State :=
  match s.recd.window with
  | none => s
  | some w =>
    let s := forEach [0, 1, 2, 3] (dramDiscard w lost) s
    let s := recCorrected corrected (if nandOk then freezeWrite w lost s else raise 450 (inc s (R.REC_CNT 13)))
    if rdb s R.REC_CFG 31 then windowRelease s else wrf s R.REC_STATUS 31 28 4

/-- FREEZE_COMPLETE. -/
def execFreezeComplete (nandOk : Bool) (corrected : Nat) (lost : List (Nat × Nat)) (s : State) : Host.Outcome State Fault Refusal :=
  run s (.freezeComplete nandOk corrected lost)
    (if rdf s R.REC_STATUS 31 28 = 3 then freezeEnd nandOk corrected lost s else s)

/-- UNFREEZE (R393, R395): releases a held window; with none held it is DENIED. -/
def unfreezeDo (s : State) : State :=
  if rdf s R.REC_STATUS 31 28 = 4 then
    let j := s.recd.joined
    let s := windowRelease (wr s R.REC_CMD_STATUS 0)
    -- the release comes before a trigger of the same tick, which opens a new window (R395)
    match j with
    | some (t, kind, src) =>
      if t / 1000 = tickOf s then openWindow kind src (wrq s (R.REC_CNT 11) (cnt s (R.REC_CNT 11) - 1)) else s
    | none => s
  else wr s R.REC_CMD_STATUS 2

/-- Keep the newest records that fit in `room` bytes. -/
def newest (room : Nat) : List Rec → List Rec
  | [] => []
  | r :: t => if recsBytes (r :: t) ≤ room then r :: t else newest room t

/-- Before Sleep or below (R394): an open window ends and is written, then the sleep save, to which a trigger is joined
(R395). -/
def sleepSave (s : State) : State :=
  if !recOn s then s else
  let s := match s.recd.window with
    | some w =>
      if rdf s R.REC_STATUS 31 28 = 2 then
        freezeEnd true 0 [] (windowClose { s with recd := { s.recd with window := some { w with endNs := s.devNs } } })
      else if rdf s R.REC_STATUS 31 28 = 3 then freezeEnd true 0 [] s else s
    | none => s
  let logs := (s.recd.rings.getD 1 []).filter (fun r => s.recd.savedSeq ≤ r.devNs)
  let recs := newest (4 * 0x100000) ((s.recd.rings.getD 0 []) ++ logs)
  let st := rdf s R.REC_STATUS 31 28
  let s := logAppend recs true (wrf s R.REC_STATUS 31 28 3)
  let s := raise 459 { s with recd := { s.recd with savedSeq := tickTime s } }
  wrf s R.REC_STATUS 31 28 st

/-- The DRAM goes off at the commit point of a move to Sleep: its rings and a held window are lost (R394, R359). -/
def dramLost (s : State) : State := recRestart s

end Sys2Proof.Machine
end

