-- ==== Sys2Proof/Machine/Egress.lean ====
section
/-! DEFINITION. Egress (chapter 4): selection by strict class and weighted tags, shapers, the start rule, what ends on the
wire; delivery to host rings (R463), control queues (R470) and the recorder; pause; deep queues; gate lists. -/

namespace Sys2Proof.Machine

-- What is sent (R74, R153) --------------------------------------------------------------------------------

/-- The bytes of a copy as sent before MACsec, and whether they were changed: R-TAG and DEI (R74, R153). -/
def egressEdit (s : State) (p : Nat) (c : Copy) (f : PFrame) : List Byte × Bool :=
  let b := f.data
  if f.bus then (b, false) else
  let o := tagOff b
  let num := beBytes (c.seq.getD 0) 2
  let r := match tagAction s p c with
    | 1 => (if hasRtag b then patch b (o + 4) num else b.take o ++ (beBytes 0xF1C1 2 ++ [0, 0] ++ num) ++ b.drop o, true)
    | 2 => if hasRtag b then (b.take o ++ b.drop (o + 6), true) else (b, false)
    | _ => (b, false)
  if p ≤ 17 ∧ c.dp ≠ 0 ∧ rdb s (R.SCH_PORT_CFG p) 28 = true ∧ o ≠ 12 then
    (patch r.1 14 [BitVec.ofNat 8 (byteAt r.1 14 ||| 0x10)], true)
  else r

-- Eligibility and choice (R110, R113, R120, R121) -----------------------------------------------------------------

/-- Head copy of queue q with its frame. -/
def headOf (s : State) (q : Nat) : Option (Nat × Copy × PFrame) :=
  ((s.pool.queues.getD q []).head?).bind (fun d => (s.pool.copies.get? d).bind (fun c =>
    (s.pool.frames.get? c.frame).map (fun f => (d, c, f))))

/-- Ring of port 18's class c (PORT[18]_HP_MAP). -/
def ringOf (s : State) (c : Nat) : Nat := rdf s (R.PORT18_HP_MAP (c / 4)) (8 * (c % 4) + 7) (8 * (c % 4))

/-- Own wake time of a rate code in ns (R230). -/
def ownWake (r : Nat) : Nat :=
  match r with
  | 6 => 8000 | 5 => 10000 | 4 => 14000 | 3 => 16000 | _ => 0

/-- Largest wake time among the speeds port p may reach by stepping (R230). -/
def maxWake (s : State) (p : Nat) : Nat :=
  if !rdb s (R.PORT_ETH_STATE p) 20 then 0 else
  let low := if rdb s (R.PORT_ETH_STATE p) 19 then (bitsOf (ethPort s p).common 16).map ownWake else []
  low.foldl max (rdf s (R.PORT_ETH_WAKE p) 15 0)

/-- A copy of W wire bytes can never fit class c's windows on port p (R121). -/
def neverFits (s : State) (p c w : Nat) : Bool :=
  p ≤ 17 && match longestOpen s p c with
    | some run => decide (run < txNs w (portBps s p) + maxWake s p)
    | none => false

/-- What R110 asks of class c's head besides the fit rule. -/
def headReady (s : State) (p c : Nat) : Bool :=
  let q := qOf p c
  match headOf s q with
  | none => false
  | some (_, _, f) =>
    linkState s p == 0 && !s.pool.frozen.contains q && (s.sched.pausedUntil.get? (8 * p + c)).isNone &&
    (!shaperOn s q || decide (0 ≤ shaperLevel s q)) && (p ≤ 17 || f.tailWritten) &&
    (if p = 18 then !ringRunning s (ringOf s c) || 0 < ringFree s (ringOf s c) else true)

/-- Class c's head passes the fit rule or can never fit, in which case it is discarded once selected. -/
def headFits (s : State) (p c : Nat) : Bool :=
  match headOf s (qOf p c) with
  | none => false
  | some (_, y, f) => 17 < p || fits s p c (copyWire s p y f) || neverFits s p c (copyWire s p y f)

/-- Weight of a wire length in queue q (R114). -/
def wfqCost (s : State) (q w : Nat) : Nat := w * 0x10000 / max 1 (rdf s (R.SCH_Q_CFG q) 7 0)

/-- Number of strict classes of port p. -/
def strictCount (s : State) (p : Nat) : Nat := rdf s (R.SCH_PORT_CFG p) 31 29

/-- Finish tag of class c's head. -/
def headTag (s : State) (p c : Nat) : Nat :=
  match headOf s (qOf p c) with
  | none => 0
  | some (_, y, f) => ((s.sched.tags.getD (qOf p c) (0, 0)).1 + wfqCost s (qOf p c) (copyWire s p y f)) % 0x10000000000000000

/-- The class with the smallest finish tag; the list runs from the higher classes down, so ties go to the higher. -/
def minTag (s : State) (p : Nat) : List Nat → Option Nat
  | [] => none
  | c :: t =>
    match minTag s p t with
    | none => some c
    | some d => if tagLe (headTag s p c) (headTag s p d) then some c else some d

/-- Classes of port p from TC7 down that are strict, and those of the weighted group. -/
def strictClasses (s : State) (p : Nat) : List Nat := ([7, 6, 5, 4].take (strictCount s p))
def weightedClasses (s : State) (p : Nat) : List Nat := ([7, 6, 5, 4, 3, 2, 1, 0].drop (strictCount s p))

/-- The class port p serves next (R113). -/
def pickClass (s : State) (p : Nat) : Option Nat :=
  let ok (c : Nat) : Bool := headReady s p c && headFits s p c
  match (strictClasses s p).find? ok with
  | some c => some c
  | none => minTag s p ((weightedClasses s p).filter ok)

/-- Count FIT_WAITS of the heads that a selection pass finds not to fit, and source 497 of heads without a descriptor. -/
def passCounts (p : Nat) (s : State) : State :=
  let s := forEach (List.range 8) (fun c s =>
    if p ≤ 17 && headReady s p c && !headFits s p c then inc s (R.SCH_Q_CNT (qOf p c) 0) else s) s
  if p = 18 ∧ linkState s 18 = 0 ∧ (List.range 8).any (fun c => (headOf s (qOf 18 c)).isSome &&
      ringRunning s (ringOf s c) && ringFree s (ringOf s c) == 0) = true then raise 497 s else s

-- Completion of a copy's service (R114) ---------------------------------------------------------------------------

/-- Tags after a weighted queue's copy of W actual wire bytes has been served. -/
def wfqDone (q w : Nat) (s : State) : State :=
  let p := q / 8
  if !(weightedClasses s p).contains (q % 8) then s else
  let t := s.sched.tags.getD q (0, 0)
  let f := (t.1 + wfqCost s q w) % 0x10000000000000000
  let empty := qEmpty s q
  let s := { s with sched := { s.sched with tags := s.sched.tags.put q (if empty then t.1 else f, f) } }
  wrq s (R.SCH_VTIME p) f

-- Stamps asked for (R465, R471) -----------------------------------------------------------------------------------

/-- TS_REQ of descriptor n of ring k; an injection slot's is 64 + slot. -/
def tsOfRing (k n : Nat) : Nat := 64 * (n + 2) + k

/-- Write out the completions of ring k that no longer wait, in descriptor order. -/
def complDrain (k : Nat) : List PendCompl → State → State
  | [], s => { s with host := { s.host with wait := s.host.wait.del k } }
  | x :: t, s =>
    if x.waits then { s with host := { s.host with wait := s.host.wait.put k (x :: t) } }
    else complDrain k t (complete k x.status 3 0 x.src x.len x.timeNs x.coarse s)

/-- Settle the waiting completion n of ring k. -/
def complSettle (k n status src timeNs : Nat) (coarse : Bool) (s : State) : State :=
  let f (x : PendCompl) : PendCompl :=
    if x.n = n ∧ x.waits = true then { x with waits := false, status := status, src := src, timeNs := timeNs, coarse := coarse } else x
  complDrain k ((s.host.wait.getD k []).map f) s

/-- Global time of a transmit stamp: the unit's, or the device tick's where it is coarse (R277). -/
def txStamp (coarse : Bool) (s : State) : Nat × State :=
  if coarse then (s.globalNs - s.devNs % 1000, s) else stampNs s.globalNs s

/-- A copy whose frame asked for a stamp starts on port p: its first such start completes the request. -/
def tsStart (p t : Nat) (s : State) : State :=
  let open' := if t < 128 then (s.host.injSince.get? (t - 64)).isSome
    else (s.host.wait.getD (t % 64) []).any (fun x => x.n == t / 64 - 2 && x.waits)
  if !hasStamps p || !open' then s else
  let u := stampTake p (2 * p + 1) s
  let s := u.2
  if t < 128 then
    let slot := t - 64
    let s := { s with host := { s.host with injSince := s.host.injSince.del slot } }
    let s := wr s (R.PORT19_CP_RES slot) (2 ^ 30 + (if u.1 then 2 ^ 29 else 0))
    let w := txStamp u.1 s
    wrq w.2 (R.PORT19_CP_TS slot) w.1
  else
    let w := txStamp u.1 s
    complSettle (t % 64) (t / 64 - 2) 0 p w.1 u.1 w.2

-- Control queues (R103, R470) -------------------------------------------------------------------------------------

/-- Pop the head of control queue k: its item (R103). -/
def ctlPop (k : Nat) (s : State) : Option Nat × State :=
  match headOf s (448 + k) with
  | none => (none, s)
  | some (d, c, f) =>
    let s := dequeue d s
    let s := { s with pool := { s.pool with copies := s.pool.copies.put d { c with queued := false, popped := true } } }
    (some (f.len % 0x4000 * 2 ^ 17 + d), s)

/-- Core interrupt of control queue k's target. -/
def ctlIrq (k : Nat) (s : State) : State := emit (.irq (rdf s (R.HDMA_CQ_TARGET k) 2 0)) s

/-- A copy is linked to control queue k; a stalled pop of it takes the item (R104). -/
def ctlPush (k d : Nat) (s : State) : State :=
  match s.pool.copies.get? d with
  | none => s
  | some c =>
    let q := 448 + k
    let empty := (s.pool.queues.getD q []).isEmpty
    let s := { s with pool := { s.pool with copies := s.pool.copies.put d { c with q := q, queued := false } } }
    let s := joinQueue q d s
    match (if s.pool.frozen.contains q then none else s.router.stalls.find? (fun x => !x.evt && x.index == k)) with
    | some x =>
      let s := { s with router := { s.router with stalls := s.router.stalls.erase x } }
      let r := ctlPop k s
      answer (r.1.toList.map (addressed x.be)) r.2
    | none => if empty then ctlIrq k s else s

-- Ports 18, 19 and 44 ---------------------------------------------------------------------------------------------

/-- Global time of a frame's reception: its stamp, or the device tick where no unit stamped it (R277). -/
def rxGlobal (s : State) (f : PFrame) : Nat := s.globalNs + (if f.stamped then f.rxNs else f.rxNs / 1000 * 1000) - s.devNs

/-- A copy that a special port delivers costs virtual time and tokens; one it discards costs neither (R111, R114, R115). -/
def deliverCost (q len : Nat) (s : State) : State := shaperDebit q ((len : Int) + 20) (wfqDone q (len + 20) s)

/-- Ring k's flights replaced; IN_FLIGHT follows: the level of Q(384 + k) (R468). -/
def flightsPut (k : Nat) (l : List Flight) (s : State) : State :=
  wrf { s with host := { s.host with flights := s.host.flights.set k l [] } } (R.HDMA_RING_STATE k) 15 0
    (l.filter (fun x => x.status != 2)).length

/-- A record or message enters (sign 1) or leaves Q(384 + k), counted there as counter `c`; a copy is counted as every
queue's copies are, and a DENIED descriptor holds nothing (R462, R468). -/
def flightCount (k : Nat) (x : Flight) (sign : Int) (c : Nat) (s : State) : State :=
  if x.desc.isSome || x.status == 2 then s else inc (bump (R.CPL_Q_FRAMES (384 + k)) sign s) (R.CPL_Q_CNT (384 + k) c)

/-- Data of KIND has been written whole: what its source counts (R391, R463). -/
def flightWritten (k : Nat) (x : Flight) (s : State) : State :=
  let s := addCnt (emit (.toHost k x.addr x.data) s) (R.HDMA_RING_CNT k 1) x.len
  if x.kind = 0 then
    let s := addCnt (inc s (R.PORT18_CNT 2)) (R.PORT18_CNT 3) x.len
    addCnt (inc s (R.SCH_PORT_CNT 18 0)) (R.SCH_PORT_CNT 18 1) x.len
  else if x.kind = 1 then addCnt s (R.REC_CNT 15) x.len
  else s

/-- A flight's transfer has ended: its data is written, a copy's cells are freed, and only then its completion is written
(R463, R466). -/
def flightDone (k : Nat) (x : Flight) (s : State) : State :=
  let s := if x.status = 0 then flightWritten k x s else s
  let s := flightCount k x (-1) 1 s
  let s := match x.desc with
    | some d => releaseCopy d (dequeue d s)
    | none => s
  complete k x.status x.kind x.tc x.src x.len (if x.kind = 2 then s.globalNs else x.timeNs) x.coarse s

/-- Write out the flights of ring k whose transfers have ended, in descriptor order. -/
def flightDrain (k : Nat) : List Flight → State → State
  | [], s => flightsPut k [] s
  | x :: t, s => if s.devNs < x.endNs then flightsPut k (x :: t) s else flightDrain k t (flightDone k x s)

/-- Transfers under way complete, together with their completions (R467). -/
def flightsFinish (k : Nat) (s : State) : State := flightsPut k [] (forEach (flightsOf s k) (flightDone k) s)

/-- Place a flight on ring k's next descriptor: its transfer takes `dur` ns once those ahead have ended. -/
def flightPlace (k : Nat) (x : Flight) (dur : Nat) (s : State) : State :=
  let l := flightsOf s k
  let from0 := max s.devNs ((l.getLast?.map Flight.endNs).getD 0)
  let s := flightCount k x 1 0 s
  flightDrain k (l ++ [{ x with endNs := from0 + dur }]) s

/-- What a flight ends as where nothing is written any more: a copy counts FLUSHED on its ring queue, a record is lost to the
stream, and a message is aborted (R183, R391, R460). -/
def flightLost (k : Nat) (x : Flight) (s : State) : State :=
  let s := flightCount k x (-1) 7 s
  match x.desc with
  | some d => discardCopy d 7 s
  | none =>
    if x.status ≠ 0 then s
    else if x.kind = 1 then raise 455 (inc s (R.REC_CNT 16))
    else raise 232 (inc s (R.SGE_TP_CNT (2 + if x.etp then 4 else 0)))

/-- Ring k stops with no further completion: what stands in Q(384 + k) is discarded (R460, R467; at an error DESIGN CHOICE, log entry
256). -/
def flightsDrop (k : Nat) (s : State) : State := flightsPut k [] (forEach (flightsOf s k) (flightLost k) s)

/-- Transfers that have ended by now are completed (R466). -/
def flightTick (s : State) : State := forEach (s.host.flights.map Prod.fst) (fun k s => flightDrain k (flightsOf s k) s) s

/-- ns that a transfer of `n` bytes takes at 25 Gbit/s (R463). -/
def hostNs (n : Nat) : Nat := ceilDiv (8 * n) 25

/-- Complete the bad descriptors next on a running to-host ring with DENIED (R462): `n` bounds them. Answers whether there
was one. -/
def ringClean (k : Nat) : Nat → State → Bool × State
  | 0, s => (false, s)
  | n + 1, s =>
    if ringRunning s k && 0 < ringFree s k && descBad (ringDesc s k) then
      let s := inc s (R.HDMA_RING_CNT k 3)
      let src := if ringKind s k = 1 then 44 else 18
      (true, (ringClean k n (flightPlace k ⟨none, 2, ringKind s k, 0, src, 0, s.globalNs, true, 0, [], 0, false⟩ 0 s)).2)
    else (false, s)

/-- A copy moves from its class queue to Q(384 + k), with the charge it had (R468). -/
def ringJoin (k d : Nat) (s : State) : State :=
  match s.pool.copies.get? d with
  | none => s
  | some y => joinQueue (384 + k) d { s with pool := { s.pool with copies := s.pool.copies.put d { y with q := 384 + k } } }

/-- Place a copy of class c on its ring's next descriptor (R463, R468). -/
def toHost (d c q : Nat) (f : PFrame) (s : State) : State :=
  let k := ringOf s c
  if !ringRunning s k then releaseCopy d (raise 505 (inc s (R.PORT18_CNT 5)))
  else if f.tailMark then releaseCopy d (raise 161 (inc s (R.SCH_PORT_CNT 18 4)))
  else
    let b := ringDesc s k
    let at_ := rxGlobal s f
    let s := ringJoin k d s
    if b.2.1 < f.len then
      let s := inc (inc s (R.PORT18_CNT 4)) (R.HDMA_RING_CNT k 2)
      let s := raise 498 (portCause 18 2 true s)
      flightPlace k ⟨some d, 0x0E, 0, c, f.src, f.len, at_, !f.stamped, 0, [], 0, false⟩ 0 s
    else
      flightPlace k ⟨some d, 0, 0, c, f.src, f.len, at_, !f.stamped, b.1, f.data, 0, false⟩ (hostNs f.len) (deliverCost q f.len s)

/-- The partner's receive wake time in µs in the EEE TLV of an LLDP frame's TLVs (IEEE 802.3 Clause 79). -/
def eeeTlv : Nat → List Byte → Option Nat
  | 0, _ => none
  | n + 1, b =>
    let t := beAt b 0 2 / 512
    let l := beAt b 0 2 % 512
    if t = 0 then none
    else if t = 127 ∧ 8 ≤ l ∧ beAt b 2 3 = 0x00120F ∧ byteAt b 5 = 5 then some (beAt b 8 2)
    else eeeTlv n (b.drop (2 + l))

/-- An LLDP frame of an Ethernet port's partner reaches the control cluster: the wake time that it requests, and the larger
of it and the module's own in force (R230, log entry 171). -/
def lldpIn (f : PFrame) (s : State) : State :=
  let o := tagOff f.data
  if f.src ≤ 11 ∧ f.bus = false ∧ beAt f.data o 2 = 0x88CC ∧ rdb s (R.PORT_ETH_STATE f.src) 20 = true then
    match eeeTlv 64 (f.data.drop (o + 2)) with
    | some us =>
      let ns := min 0xFFFF (us * 1000)
      let own := ownWake (rdf s (R.PORT_ETH_STATE f.src) 27 24)
      wr s (R.PORT_ETH_WAKE f.src) (ns * 0x10000 + max ns own)
    | none => s
  else s

/-- Deliver the copy selected on port 18, 19 or 44; `fcsBad`: its stored FCS fails, so this copy ends with an inverted one
(R132, R133, R134, R386, R463, R470). -/
def deliverSpecial (p c d : Nat) (y : Copy) (f0 : PFrame) (fcsBad : Bool) (s : State) : State :=
  let s := activity (dequeue d s)
  let bad := fcsBad && !f0.tailMark && !f0.bus
  let s := if bad then raiseLine 173 50 (inc s (R.SCH_PORT_CNT p 7)) else s
  let f := if bad then { f0 with data := invertFcs f0.data } else f0
  let s := if bad then { s with pool := { s.pool with copies := s.pool.copies.put d { (s.pool.copies.getD d y) with fcsBad := true } } } else s
  if p = 18 then toHost d c y.q f s
  else if p = 19 then
    if f.tailMark then releaseCopy d (raise 161 (inc s (R.SCH_PORT_CNT 19 4)))
    else
      let s := addCnt (inc s (R.SCH_PORT_CNT 19 0)) (R.SCH_PORT_CNT 19 1) f.len
      lldpIn f (ctlPush c d (inc (deliverCost y.q f.len s) (R.PORT19_CNT 2)))
  else
    let s := addCnt (inc s (R.SCH_PORT_CNT 44 0)) (R.SCH_PORT_CNT 44 1) f.len
    releaseCopy d (traceWrite f (deliverCost y.q f.len s))

-- Selection -------------------------------------------------------------------------------------------------------

/-- A selected copy that is not sent: counted as dequeued and released. -/
def selectDrop (d : Nat) (s : State) : State := releaseCopy d (dequeue d s)

/-- The job of descriptor d is asked for under SA slot a of port p (R308, R320). -/
def outJob (p d a : Nat) (s : State) : State :=
  cipRequest {
    kind := 2, port := p, x := none, desc := some d, clap := none, layout := none, key := rdf s (R.CIP_TX_SA p a) 11 0
    key2 := 0xFFF, dom := 0, early := false, sc := rdf s (R.CIP_TX_SA p a) 29 28, sa := a, pn := 0, lane := none, lane2 := none } s

/-- What becomes of the head copy chosen on Ethernet port p, class c (R100, R121, R132, R134, R313, R318, R320): `none`
once it is discarded and selection runs again, or it is in service. -/
def selectOne (p c d : Nat) (y : Copy) (f : PFrame) (ecc : PoolEcc) (s : State) : Bool × State :=
  let w := copyWire s p y f
  if tooOld s y then (false, discardCopy d 6 s)
  else if neverFits s p c w then (false, selectDrop d (raise 163 (inc s (R.SCH_Q_CNT (qOf p c) 1))))
  else if (f.tailWritten && f.tailMark) || ecc = .cell then (false, selectDrop d (raise 161 (inc s (R.SCH_PORT_CNT p 4))))
  else if f.bus then (false, selectDrop d s)
  else if !(f.cutThrough && !f.tailWritten) && maxFrame s p + 20 < w then (false, selectDrop d (raise 162 (inc s (R.SCH_PORT_CNT p 5))))
  else if y.encrypt && !(secyOn s p && rdb s (R.CIP_SECY_CFG p) 30) then (false, selectDrop d (inc s (R.CIP_PORT_CNT p 14)))
  else
    let serve (s : State) : State :=
      let s := dequeue d s
      let x : InService := ⟨d, false, s.devNs, w, 0, none, false, false⟩
      if (s.sched.service.get? p).isNone then { s with sched := { s.sched with service := s.sched.service.put p x } }
      else { s with sched := { s.sched with next := s.sched.next.put p x } }
    if !secOut s p f then (true, serve s)
    else if lifecycle s ≠ 1 then (false, selectDrop d (raise 297 (inc (inc s (R.CIP_CNT 7)) (R.CIP_PORT_CNT p 14))))
    else match txSa s p with
      | none => (false, selectDrop d (inc s (R.CIP_PORT_CNT p 14)))
      | some a =>
        if txEnd s p a then (false, selectDrop d (inc s (R.CIP_PORT_CNT p 13)))
        else (true, outJob p d a (serve s))

/-- Selection runs until a copy is in service or none is eligible; `fuel` bounds the discards. -/
def selectN (p : Nat) (ecc : PoolEcc) : Nat → State → State
  | 0, s => s
  | n + 1, s =>
    match pickClass s p with
    | none => s
    | some c =>
      match headOf s (qOf p c) with
      | none => s
      | some (d, y, f) =>
        if ecc = .desc then
          freezeQueue (qOf p c) s
        else if 17 < p then
          if tooOld s y then selectN p .ok n (discardCopy d 6 s)
          else if p = 18 ∧ maxFrame s 18 < f.len then selectN p .ok n (selectDrop d (raise 162 (inc s (R.SCH_PORT_CNT 18 5))))
          else deliverSpecial p c d y (if ecc = .cell then { f with tailMark := true } else f) (ecc == .fcs) s
        else
          let r := selectOne p c d y f ecc (lpiExit p s)
          if r.1 then r.2 else selectN p .ok n r.2

/-- Bad descriptors at CONS of the rings that port 18's heads need complete with DENIED (R462). -/
def hpClean (s : State) : State :=
  let ks := ((List.range 8).filter (fun c => (headOf s (qOf 18 c)).isSome)).map (ringOf s)
  forEach ks (fun k s =>
    let r := ringClean k (ringFree s k) s
    if r.1 then raise 499 (addCnt r.2 (R.PORT18_CNT 6) (cnt r.2 (R.HDMA_RING_CNT k 3) - cnt s (R.HDMA_RING_CNT k 3))) else s) s

/-- Port p may select (R111): nothing is in service, or the copy in service, started or not, has its length known and its
last word read, and none is selected behind it. -/
def maySelect (s : State) (p : Nat) : Bool :=
  match s.sched.service.get? p with
  | none => true
  | some x => (s.sched.next.get? p).isNone &&
    ((s.pool.copies.get? x.desc).bind (fun c => s.pool.frames.get? c.frame)).any PFrame.tailWritten

/-- The copy in service on port p is charged to the tags at its actual length before the next is selected (R111, R114). The
tags as they were are kept until it has been sent: one that is then discarded, or waits again as its queue's head, gives its
charge back (R111; the second DESIGN CHOICE, log entry 229). -/
def chargeService (p : Nat) (s : State) : State :=
  match s.sched.service.get? p with
  | none => s
  | some x =>
    match s.pool.copies.get? x.desc with
    | none => s
    | some y =>
      if x.charged then s else
      match s.pool.frames.get? y.frame with
      | none => s
      | some f =>
        let t := s.sched.tags.getD y.q (0, 0)
        let s := { s with sched := { s.sched with service := s.sched.service.put p { x with charged := true } } }
        let s := if (weightedClasses s p).contains (y.q % 8) then
            { s with sched := { s.sched with undo := s.sched.undo.put p (t.1, t.2, cnt s (R.SCH_VTIME p)) } }
          else s
        wfqDone y.q (copyWire s p y f) s

/-- What execEgressSelect does. -/
def egressSelectDo (p : Nat) (ecc : PoolEcc) (s : State) : State :=
  let s := chargeService p (poolEcc ecc s)
  let s := pauseFlush p (if p = 18 then hpClean s else s)
  cipRegs (selectN p ecc 65536 (passCounts p s))

/-- EGRESS_SELECT (R111): port p selects its next copy. `sched`: a read of scheduler memory met a corrected error (R139). -/
def execEgressSelect (p : Nat) (ecc : PoolEcc) (s : State) (sched : Bool := false) : Host.Outcome State Fault Refusal :=
  run s (.egressSelect p ecc sched)
    (if !maySelect s p then s else
     if p ≤ 17 ∧ rdf s (R.PORT_ETH_STATE p) 31 28 ≠ 2 then s else
     egressSelectDo p ecc (if sched then raise 172 (inc s R.SCH_ECC_COUNT) else s))

-- The start rule (R130, R131) -------------------------------------------------------------------------------------

/-- Read calendar slots of a cut-through copy at port p's speed. -/
def ctSlots (s : State) (p : Nat) : Nat :=
  match rdf s (R.SCH_PORT_STATE p) 11 8 with
  | 6 => 5 | 5 => 3 | 4 => 2 | 7 => 5 | _ => 1

/-- may_start of R130. -/
def mayStart (s : State) (p : Nat) (y : Copy) (f : PFrame) : Bool :=
  if f.tailWritten then true
  else
    f.cutThrough && portBps s p ≤ portBps s f.src &&
    decide ((maxFrame s f.src : Int) + max 0 (tagDelta s p y f) ≤ maxFrame s p) && decide (64 ≤ f.data.length)

/-- 10BASE-T1S port p runs CSMA/CD (R226, R227). -/
def csma (s : State) (p : Nat) : Bool := 12 ≤ p && p ≤ 15 && !rdb s (R.PORT_ETH_STATE p) 18

/-- Port p's burst timer in ns (R226). -/
def plcaBurstNs (s : State) (p : Nat) : Nat := rdf s (R.PORT_ETH_PLCA_BT p) 7 0 * 100

/-- The burst of the module's present opportunity goes on: the gap since its last frame is within BURST_TIMER and it has
sent no more than BURST_COUNT extra frames (R226). -/
def plcaInBurst (s : State) (p : Nat) : Bool :=
  let e := ethPort s p
  e.plcaEndNs != 0 && decide (s.devNs ≤ e.plcaEndNs + plcaBurstNs s p) && decide (e.plcaBurst < rdf s (R.PORT_ETH_PLCA p) 7 0)

/-- Port p has a transmit opportunity or runs no PLCA: within its burst, or in the opportunity of its NODE_ID, counted from
the last beacon, where it has sent nothing since that beacon (R226; log entry 169). -/
def plcaTurn (s : State) (p : Nat) : Bool :=
  if !(12 ≤ p && p ≤ 15 && rdb s (R.PORT_ETH_STATE p) 18) then true
  else
    let id := rdf s (R.PORT_ETH_PLCA p) 31 24
    let at0 := plcaBase s p + id * plcaTo s p
    let e := ethPort s p
    plcaInBurst s p || (e.beaconNs != 0 && decide (e.plcaEndNs ≤ e.beaconNs) && decide (at0 ≤ s.devNs) &&
      decide (s.devNs < at0 + plcaTo s p))

/-- An attempt of port p's copy collides (R226). -/
def collide (p d : Nat) (late : Bool) (s : State) : State :=
  let s := if late then portCause p 10 true (inc s (R.PORT_ETH_CNT p 21)) else s
  let s := inc s (R.PORT_ETH_CNT p 20)
  match s.pool.copies.get? d with
  | none => s
  | some c =>
    if 16 ≤ c.tries + 1 then dropServed p d (inc s (R.PORT_ETH_CNT p 22))
    else { s with pool := { s.pool with copies := s.pool.copies.put d { c with tries := c.tries + 1 } } }

/-- The first byte of the copy in service is sent (R115, R131, R277, R320). -/
def txStart (p : Nat) (x : InService) (y : Copy) (f : PFrame) (s : State) : State :=
  let ct := !f.tailWritten
  let slots := if ct then ctSlots s p else 0
  let s := if ct then wrf (inc s (R.SCH_PORT_CNT p 2)) (R.SCH_PORT_STATE p) 7 7 1 else s
  let s := if ct then wr s R.SCH_CT_SLOTS (rd s R.SCH_CT_SLOTS + slots) else s
  let s := shaperDebit y.q x.wire s
  let job := s.cip.jobs.find? (fun j => j.kind == 2 && j.desc == some x.desc)
  let r : Option (Nat × Nat × List Byte × Nat) × State :=
    match job with
    | some j =>
      let t := pnTake p j.sa s
      (some (rdf s (R.CIP_TX_SA p j.sa) 29 28, j.kv, txIv s p j.sa t.1, t.1), t.2)
    | none => (none, if secyOn s p then inc s (R.CIP_PORT_CNT p 12) else s)
  let burst := if plcaInBurst s p then (ethPort s p).plcaBurst + 1 else 0
  let s := setEth p { ethPort r.2 p with plcaBurst := burst } r.2
  let x' := { x with started := true, startNs := s.devNs, slots := slots, prot := r.1 }
  let s := { s with sched := { s.sched with service := s.sched.service.put p x' } }
  match y.tsReq with
  | some t => tsStart p t s
  | none => s

/-- The job's SA is no longer the current one of its port, or has been replaced in its slot (R321). -/
def saMoved (s : State) (j : CipJob) : Bool :=
  txSa s j.port != some j.sa || rdf s (R.CIP_TX_SA j.port j.sa) 11 0 != j.key || rdf s (R.CIP_TX_SA j.port j.sa) 29 28 != j.sc

/-- A copy that has not started when its port's SA has changed or ended goes under the current one, or is discarded where
there is none, or it is END (R314, R321). -/
def saAgain (p d : Nat) (s : State) : State :=
  let s := { s with cip := { s.cip with jobs := s.cip.jobs.filter (fun j => j.desc != some d) } }
  match txSa s p with
  | none => dropServed p d (inc s (R.CIP_PORT_CNT p 14))
  | some a =>
    if txEnd s p a then dropServed p d (inc s (R.CIP_PORT_CNT p 13)) else outJob p d a s

/-- The copy in service on port p waits again as the head of its queue, behind it what was selected next from that queue
(R120, R128). -/
def waitAgain (p d q : Nat) (s : State) : State :=
  let back (d : Nat) (s : State) : State := requeue d (serviceEnd p d (unserve p d { s with
    cip := { s.cip with jobs := s.cip.jobs.filter (fun j => j.desc != some d) } }))
  let s := match s.sched.next.get? p with
    | some z => if (s.pool.copies.get? z.desc).any (fun c => c.q == q) then back z.desc s else s
    | none => s
  back d s

/-- The copy selected on port p starts, waits for its start rule or its lane, or waits again as its queue's head
(R120, R128, R130). Its W is the one that is known now (R112). -/
def startTry (p : Nat) (collision : Option Bool) (x0 : InService) (y : Copy) (f : PFrame) (s : State) : State :=
  let x := { x0 with wire := copyWire s p y f }
  let jobs := s.cip.jobs.filter (fun j => j.kind == 2 && j.desc == some x.desc)
  if rdf s (R.PORT_ETH_STATE p) 31 28 ≠ 2 ∨ mayStart s p y f = false ∨ (ethPort s p).stepWant.isSome = true ∨
      plcaTurn s p = false then s
  else if jobs.any (fun j => saMoved s j || txEnd s p j.sa) then saAgain p x.desc s
  else if jobs.any (fun j => j.lane.isNone) then s
  else if (s.sched.pausedUntil.get? (8 * p + y.q % 8)).isSome || !fits s p (y.q % 8) x.wire then waitAgain p x.desc y.q s
  else if f.tailWritten && f.tailMark then
    dropServed p x.desc (raise 161 (inc s (R.SCH_PORT_CNT p 4)))
  else if f.tailWritten && maxFrame s p + 20 < x.wire then
    -- stored whole before it starts, it is no cut-through copy (R132, log entry 174)
    dropServed p x.desc (raise 162 (inc s (R.SCH_PORT_CNT p 5)))
  else match collision with
    | some late => if csma s p then collide p x.desc late s else txStart p x y f s
    | none => txStart p x y f s

/-- FRAME_TX_START. -/
def execFrameTxStart (p : Nat) (collision : Option Bool) (s : State) : Host.Outcome State Fault Refusal :=
  run s (.frameTxStart p collision)
    (match s.sched.service.get? p with
     | none => s
     | some x =>
     if x.started then s else
     match s.pool.copies.get? x.desc with
     | none => s
     | some y =>
     match s.pool.frames.get? y.frame with
     | none => s
     | some f =>
     let s := earlyMore y.frame (pauseFlush p (activity s))
     cipRegs (startTry p collision x y ((s.pool.frames.get? y.frame).getD f) s))

-- The end of a frame (R114, R133, R134) ---------------------------------------------------------------------------

/-- MACSEC_OUT's counts for a protected frame (R320). -/
def outCounts (p : Nat) (user : Nat) (s : State) : State :=
  let s := inc s (R.CIP_PORT_CNT p 9)
  let s := if rdb s (R.CIP_SECY_CFG p) 30 then inc s (R.CIP_PORT_CNT p 10) else s
  addCnt s (R.CIP_PORT_CNT p 11) user

/-- What leaves of the protected frame b of the copy x: all of it; of one whose job was aborted its header and as many blocks
as both cores had agreed on, a free value, with the place of its FCS (R307, R312). -/
def secSent (s : State) (p : Nat) (x : InService) (b : List Byte) : List Byte × State :=
  if x.spoiled && x.prot.isSome then
    let h := if rdb s (R.CIP_SECY_CFG p) 28 then 28 else 20
    let fr := free s
    let n := fr.1 % ((b.length - 4 - h) / 16 + 1)
    (b.take (h + 16 * n) ++ [0, 0, 0, 0], fr.2)
  else (b, s)

/-- The last byte of port p's copy is sent. -/
def txDone (p : Nat) (x : InService) (y : Copy) (f : PFrame) (fcsStoredOk : Bool) (s : State) : State :=
  let e := egressEdit s p y f
  let bad := !fcsStoredOk && !f.tailMark
  let b := match x.prot with
    | some (an, kv, iv, pn) =>
      secProtect kv iv (cnt s (R.CIP_SECY_TXSCI p)) an pn (rdb s (R.CIP_SECY_CFG p) 30)
        (rdb s (R.CIP_SECY_CFG p) 28) e.1
    | none => if e.2 then withFcs (dropFcs e.1) else e.1
  let inverted := f.tailMark || bad || x.spoiled
  -- of a job that was aborted only the blocks that its cores had agreed on have left (R307, R312)
  let cut := secSent s p x b
  let b := cut.1
  let s := cut.2
  let s := emit (.wire p (if inverted then invertFcs b else b) inverted) s
  let s := addCnt (inc s (R.SCH_PORT_CNT p 0)) (R.SCH_PORT_CNT p 1) b.length
  let s := if f.tailMark || x.spoiled then raise 160 (inc s (R.SCH_PORT_CNT p 3)) else s
  let s := if bad then raiseLine 173 50 (inc s (R.SCH_PORT_CNT p 7)) else s
  let s := if x.prot.isSome && !inverted then outCounts p (e.1.length - 16) s else s
  let w := b.length + 20
  let s := shaperDebit y.q ((w : Int) - x.wire) s
  let s := if 0 < x.slots then wr s R.SCH_CT_SLOTS (rd s R.SCH_CT_SLOTS - x.slots) else s
  let s := wrf s (R.SCH_PORT_STATE p) 7 7 0
  let s := serviceEnd p x.desc s
  let s := releaseCopy x.desc (if x.charged then s else wfqDone y.q w s)
  let s := plcaUse p x.startNs (decide (0 < (ethPort s p).plcaBurst)) s
  let s := setEth p { ethPort s p with idleNs := s.devNs, plcaEndNs := s.devNs } s
  pauseFlush p (activity s)

/-- FRAME_TX_COMPLETE: the copy on port p's wire ends once its tail has been written. -/
def execFrameTxComplete (p : Nat) (fcsStoredOk : Bool) (s : State) : Host.Outcome State Fault Refusal :=
  run s (.frameTxComplete p fcsStoredOk)
    (match s.sched.service.get? p with
     | none => s
     | some x =>
     if !x.started then s else
     match s.pool.copies.get? x.desc with
     | none => s
     | some y =>
     match s.pool.frames.get? y.frame with
     | none => s
     | some f =>
     if f.tailWritten then cipRegs (txDone p x y f fcsStoredOk s) else s)

-- Pause (R127 to R129) --------------------------------------------------------------------------------------------

/-- What execPauseReceived does. -/
def pauseReceivedDo (p : Nat) (opcode : Nat) (quanta : List Nat) (enable : Nat) (fcsOk : Bool) (s : State) : State :=
  if fcsOk then
    -- the MAC counts it as a multicast frame of the minimum length that verifies (R224)
    let s := activity s
    let s := bypass p 8 1 (inc (addCnt (inc s (R.PORT_ETH_CNT p 0)) (R.PORT_ETH_CNT p 1) 64) (R.PORT_ETH_CNT p 2))
    (if opcode = 0x0001 ∨ opcode = 0x0101 then pauseIn p opcode quanta enable s else inc s (R.PORT_ETH_CNT p 6))
  else portCause p 5 true (inc s (R.PORT_ETH_CNT p 4))

/-- PAUSE_RECEIVED: a PAUSE or PFC frame ends on port p; one with a bad FCS is ignored. -/
def execPauseReceived (p opcode : Nat) (quanta : List Nat) (enable : Nat) (fcsOk : Bool) (s : State) :
    Host.Outcome State Fault Refusal :=
  run s (.pauseReceived p opcode quanta enable fcsOk)
    (pauseReceivedDo p opcode quanta enable fcsOk s)

/-- PAUSE_EXPIRE: the pause of port p's class c ends once its time has passed. -/
def execPauseExpire (p c : Nat) (s : State) : Host.Outcome State Fault Refusal :=
  run s (.pauseExpire p c)
    (match s.sched.pausedUntil.get? (8 * p + c) with
     | none => s
     | some x =>
     if x.1 ≤ s.devNs then pauseRelease p c s else s)

/-- PAUSE_REPEAT: half the pause time has elapsed while XOFF lasts (R129). -/
def execPauseRepeat (p c : Nat) (s : State) : Host.Outcome State Fault Refusal :=
  run s (.pauseRepeat p c)
    (match s.sched.xoffRepeat.get? (8 * p + c) with
     | none => s
     | some t =>
     if t ≤ s.devNs ∧ rdb s (R.CPL_PORT_STATE p) c = true then pauseGenerate p c (rdf s (R.SCH_PORT_PAUSE p) 31 16) s else s)

-- Deep queues (R97 to R99) ----------------------------------------------------------------------------------------

/-- Queue of deep index d. -/
def deepQueue (s : State) (d : Nat) : Option Nat := (List.range 384).find? (fun q => deepOf s q == some d)

/-- Blocks a middle would take with one more copy. -/
def deepQuotaFull (s : State) (d : Nat) (c : Copy) (f : PFrame) : Bool :=
  let l := s.pool.deepMid.getD d []
  rd s (R.CPL_DEEP_QUOTA d) < midBlocks (l ++ [⟨f, c⟩])

/-- Write the oldest tail copy to the middle: its image, its charge released (R99). It takes of the recorder's write budget (R389). -/
def spill (d k : Nat) (c : Copy) (f : PFrame) (s : State) : State :=
  let l := s.pool.deepMid.getD d [] ++ [⟨f, c⟩]
  let s := spillTakes (c.cells * 128) s
  let s := releaseCopy k (unqueue k c.q s)
  let s := deepRegs d { s with pool := { s.pool with deepMid := s.pool.deepMid.put d l } }
  wmUpdate (inc s (R.CPL_DEEP_CNT d 0))

/-- Deep queue d's quota is filled: event 103, once in each filling (R98). -/
def quotaFilled (d : Nat) (s : State) : State :=
  if s.pool.deepFull.contains d then s
  else raise 103 { s with pool := { s.pool with deepFull := s.pool.deepFull ++ [d] } }

/-- Deep queue d's blocks have no room for another cell. -/
def quotaTight (s : State) (d : Nat) : Bool :=
  let n := ((s.pool.deepMid.getD d []).map (fun x => x.copy.cells * 128)).foldl (· + ·) 0
  decide (rd s (R.CPL_DEEP_QUOTA d) * 0x10000 < n + 128)

/-- What execSpillCopy does. -/
def spillCopyDo (d : Nat) (k : Nat) (c : Copy) (f : PFrame) (ecc : PoolEcc) (s : State) : State :=
  let s := poolEcc ecc s
  if ecc = .desc then freezeQueue c.q s
  else if deepQuotaFull s d c f then quotaFilled d s
  else
    let s := spill d k c (if ecc = .cell then { f with tailMark := true } else f) s
    if quotaTight s d then quotaFilled d s else s

/-- SPILL_COPY: the oldest tail copy whose last word is written; a full quota leaves it on die, event 103 (R97, R98). -/
def execSpillCopy (d : Nat) (s : State) (ecc : PoolEcc := .ok) : Host.Outcome State Fault Refusal :=
  run s (.spillCopy d ecc)
    (match (s.pool.deepTail.getD d []).head? with
     | none => s
     | some k =>
     match s.pool.copies.get? k with
     | none => s
     | some c =>
     match s.pool.frames.get? c.frame with
     | none => s
     | some f =>
     if !f.tailWritten || s.pool.frozen.contains c.q then s else
     spillCopyDo d k c f ecc s)

/-- Read the oldest middle copy back into the head: charged to SHARED, SPILLED 1 (R97). -/
def refill (d : Nat) (x : Spilled) (rest : List Spilled) (s : State) : State :=
  let s := spillTakes (x.copy.cells * 128) s
  let s := deepShrink d { s with pool := { s.pool with deepMid := s.pool.deepMid.set d rest [] } }
  let r := newFrame { x.frame with refs := 1, cells := cellsOf x.frame.len } s
  let k := firstFree r.2.pool.copies 0
  let c : Copy := { x.copy with frame := r.1, part := .shared, spilled := true, queued := true, popped := false }
  let s := r.2
  let s := { s with pool := { s.pool with
    copies := s.pool.copies.put k c, queues := s.pool.queues.put c.q (s.pool.queues.getD c.q [] ++ [k]) } }
  let s := chargeLevels c.q .shared c.cells x.frame.src x.frame.tc 1 s
  let s := queueLevels c.q c.cells 1 (bump (R.CPL_Q_FRAMES c.q) 1 (bump R.CPL_FREE_DESC (-1) s))
  let f := (s.pool.frames.get? r.1).getD x.frame
  wmUpdate (inc (writeDesc k c f s) (R.CPL_DEEP_CNT d 1))

/-- What execRefillCopy does. SHARED is taken at its full size whatever the copy's drop precedence (DESIGN CHOICE, log entry
175); it takes a free descriptor (DESIGN CHOICE, log entry 244). -/
def refillCopyDo (d : Nat) (dramError : Bool) (s : State) : State :=
  match s.pool.deepMid.getD d [] with
  | [] => s
  | x :: rest =>
    let q := x.copy.q
    let head := headCells s q
    let room := rdf s (R.CPL_DEEP_CFG d) 12 0
    let n := x.copy.cells
    if room ≤ 2 * head ∨ room < head + n ∨ rd s (R.CPL_PART_SIZE 4) < rd s (R.CPL_PART_USE 4) + n ∨
        rdf s (R.CPL_Q_CFG q) 17 0 < qSharedUse s q + n ∨ rd s R.CPL_FREE_DESC = 0 ∨ s.pool.frozen.contains q = true then s
    else
      let gone (s : State) : State := deepShrink d { s with pool := { s.pool with deepMid := s.pool.deepMid.set d rest [] } }
      if dramError then raise 104 (inc (gone s) (R.CPL_DEEP_CNT d 2))
      else if tooOld s x.copy then raise 102 (inc (gone s) (R.CPL_Q_CNT q 6))
      else refill d x rest s

/-- REFILL_COPY (R97, R99, R100). -/
def execRefillCopy (d : Nat) (dramError : Bool) (s : State) : Host.Outcome State Fault Refusal :=
  run s (.refillCopy d dramError)
    (refillCopyDo d dramError s)

-- Gate lists (R116 to R119, R139) ---------------------------------------------------------------------------------

/-- List entries as the gate run indexes them. -/
def gateCount (s : State) (l : Nat) : Nat := rdf s (R.GATE_LIST_CFG l) 8 0

/-- A pending list starts at its entry 0 (R118). -/
def gateBegin (p m st : Nat) (s : State) : State :=
  let s := wrf (wrf s (R.GATE_PORT p) 30 30 0) (R.GATE_PORT p) 13 8 0
  raise 167 (gateEnter p m 0 st (st + rd s (R.GATE_LIST_ENTRY_4 m 0)) none s)

/-- The next entry of port p's run, at the scheduled end of the present one; a pending list starts at its first cycle
start at or after the end of the present cycle, the last entry extended until then (R118). After a step of global time the
entry that the new time falls in is found, event 168 (R119). -/
def gateNext (p l : Nat) (g : GateRun) (s : State) : State :=
  if g.find then raise 168 (gateLocate p l g.pend s) else
  let n := gateCount s l
  let len (e : Nat) : Nat := rd s (R.GATE_LIST_ENTRY_4 l e)
  if g.entry + 1 < n then gateEnter p l (g.entry + 1) g.endNs (g.endNs + len (g.entry + 1)) g.pend s
  else match g.pend with
    | none => gateEnter p l 0 g.endNs (g.endNs + len 0) none s
    | some none =>
      gateStop p s
    | some (some m) =>
      let t := cycleStart s m g.endNs
      if t ≤ g.endNs then gateBegin p m g.endNs s
      else
        let run : GateRun := { g with endNs := t, cycleEnd := some (g.cycleEnd.getD g.endNs) }
        { s with sched := { s.sched with gates := s.sched.gates.put p run } }

/-- A multi-bit error in the memory of list l: every gate of every port that runs the list or waits for it closes, and the
ports' runs end; they stay closed until a list starts anew (R139). -/
def gateEcc (l : Nat) (s : State) : State :=
  let hit (g : GateRun) : Bool := g.list == some l || g.pend == some (some l)
  let ps := (s.sched.gates.filter (fun x => hit x.2)).map Prod.fst
  raiseLine 174 51 (forEach ps (fun p s =>
    wrf (wrf { s with sched := { s.sched with gates := s.sched.gates.del p } } (R.GATE_PORT p) 7 0 0) (R.GATE_PORT p) 30 30 0) s)

/-- The memory of list l is read before `f` (R139): a corrected error is counted, a multi-bit one ends the list's runs. -/
def gateRead (ecc : Ecc) (l : Nat) (f : State → State) (s : State) : State :=
  let s := if ecc = .corrected then raise 172 (inc s R.SCH_ECC_COUNT) else s
  if ecc = .multi then gateEcc l s else f s

/-- What execGateEntryChange does. -/
def gateEntryChangeDo (p : Nat) (ecc : Ecc) (g : GateRun) (s : State) : State :=
  match g.list with
  | none => match g.pend with
    | some (some m) => gateRead ecc m (fun s => if g.endNs < s.globalNs + 8 then gateBegin p m g.endNs s else s) s
    | _ => s
  | some l => gateRead ecc l (fun s => if g.endNs < s.globalNs + 8 then gateNext p l g s else s) s

/-- GATE_ENTRY_CHANGE: port p's unit moves to the next entry once global time has reached it; a pause frame that waits for an
open gate goes out with it (R129). -/
def execGateEntryChange (p : Nat) (ecc : Ecc) (s : State) : Host.Outcome State Fault Refusal :=
  run s (.gateEntryChange p ecc)
    (match s.sched.gates.get? p with
     | none => s
     | some g =>
     pauseFlush p (gateEntryChangeDo p ecc g s))

/-- Where a run stands that is told to go on with `want`: while its last entry is extended past the end of its cycle, until
the first start of that list from now on, the old list's own included (R118). -/
def gateAim (s : State) (want : Option Nat) (g : GateRun) : GateRun :=
  if g.cycleEnd.isNone then g
  else { g with endNs := (want.map (fun m => cycleStart s m s.globalNs)).getD s.globalNs
                cycleEnd := if g.list = want then none else g.cycleEnd }

/-- Port p's list after a switch to the scene in force (R118): a port that runs none starts it at its first cycle start,
one that runs another switches at the end of its cycle. An Ethernet port that is not UP runs its list from its link-up
(R340). -/
def gateScene (p : Nat) (s : State) : State :=
  let want := sceneList s p
  match s.sched.gates.get? p with
  | none => match want with
    | some m =>
      if portEnabled s p && !segDown s p && (17 < p || [2, 3].contains (rdf s (R.PORT_ETH_STATE p) 31 28)) then
        let run : GateRun := ⟨none, 0, s.globalNs, cycleStart s m s.globalNs, some (some m), none, false⟩
        let s := { s with sched := { s.sched with gates := s.sched.gates.put p run } }
        wrf (wrf s (R.GATE_PORT p) 30 30 1) (R.GATE_PORT p) 13 8 m
      else s
    -- every gate open, after an error had closed them too (R116, R139)
    | none => if p = 18 ∨ p = 19 then s else gateStop p s
  | some g =>
    if g.list = none then
      -- a start that was pending is replaced
      let run : Option GateRun := want.map (fun m => ⟨none, 0, s.globalNs, cycleStart s m s.globalNs, some (some m), none, false⟩)
      match run with
      | some x =>
        let s := { s with sched := { s.sched with gates := s.sched.gates.put p x } }
        wrf (wrf s (R.GATE_PORT p) 30 30 1) (R.GATE_PORT p) 13 8 (want.getD 0)
      | none => gateStop p s
    else if g.list = want then
      let s := { s with sched := { s.sched with gates := s.sched.gates.put p { gateAim s want g with pend := none } } }
      wrf (wrf s (R.GATE_PORT p) 30 30 0) (R.GATE_PORT p) 13 8 0
    else
      let s := { s with sched := { s.sched with gates := s.sched.gates.put p { gateAim s want g with pend := some want } } }
      wrf (wrf s (R.GATE_PORT p) 30 30 1) (R.GATE_PORT p) 13 8 (want.getD 0)

/-- Global time has stepped from `old` by more than 1 µs: each entry in force runs for its interval, after which its unit
finds the entry that the new time falls in (R119). A start that waits is timed anew. -/
def gatesStep (old : Nat) (s : State) : State :=
  let s := forEach (s.sched.gates.filter (fun x => x.2.list.isNone)) (fun x s =>
    match x.2.pend with
    | some (some m) =>
      let run : GateRun := { x.2 with endNs := cycleStart s m s.globalNs }
      { s with sched := { s.sched with gates := s.sched.gates.put x.1 run } }
    | _ => s) s
  let d : Int := (s.globalNs : Int) - old
  forEach (s.sched.gates.filter (fun x => x.2.list.isSome)) (fun x s =>
    let run : GateRun := { x.2 with startNs := ((x.2.startNs : Int) + d).toNat, endNs := ((x.2.endNs : Int) + d).toNat
                                    cycleEnd := none, find := true }
    { s with sched := { s.sched with gates := s.sched.gates.put x.1 run } }) s

-- The recorder's host stream (R391) -------------------------------------------------------------------------------

/-- Copy a record to the host stream (R391), at 10 Gbit/s: placed on the stream's ring, or dropped. -/
def recStream (x : Rec) (s : State) : State :=
  let k := rdf s R.REC_STREAM 5 0
  let c := ringClean k (ringFree s k) s
  let s := if c.1 then raise 499 c.2 else c.2
  let d := ringDesc s k
  if ringRunning s k && 0 < ringFree s k then
    if d.2.1 < x.len then
      let s := raise 455 (raise 498 (inc (inc s (R.HDMA_RING_CNT k 2)) (R.REC_CNT 16)))
      flightPlace k ⟨none, 0x0E, 1, 0, 44, x.len, x.globalNs, x.coarse, 0, [], 0, false⟩ 0 s
    else flightPlace k ⟨none, 0, 1, 0, 44, x.len, x.globalNs, x.coarse, d.1, x.bytes, 0, false⟩ (ceilDiv (8 * x.len) 10) s
  else raise 455 (inc s (R.REC_CNT 16))

/-- The records of past device ticks that wait go to the host stream, ring by ring and numbered as they stand (R391). -/
def streamTick (s : State) : State :=
  let ready (x : Rec) : Bool := x.fresh && decide (x.devNs / 1000 < tickOf s)
  let l := (s.recd.rings.flatMap Prod.snd).filter ready
  if l.isEmpty then s else
  let s := { s with recd := { s.recd with
    rings := s.recd.rings.map (fun e => (e.1, e.2.map (fun x => if ready x then { x with fresh := false } else x))) } }
  forEach l recStream s

end Sys2Proof.Machine
end

