-- ==== Sys2Proof/Machine/TimeBase.lean ====
section
/-! DEFINITION. The time base (chapter 10): link delays and asCapable, Sync, the clock states, steps and slews, latches,
PPS_OUT and clock monitoring. -/

namespace Sys2Proof.Machine

-- Domains and ports (R272 to R275) --------------------------------------------------------------------------------

/-- The clock domain's entry (TIM_STATUS CLK_DOM). -/
def clkDom (s : State) : Nat := rdf s R.TIM_STATUS 4 4

/-- The clock domain is grandmaster. -/
def isGm (s : State) : Bool := rdb s R.TIM_STATUS 5

/-- Role of port p in domain entry d: 0 DISABLED, 1 MASTER, 2 SLAVE, 3 PASSIVE. -/
def ptpRole (s : State) (d p : Nat) : Nat := rdf s (R.TIM_PORT_CFG p) (29 + 2 * d) (28 + 2 * d)

def domActive (s : State) (d : Nat) : Bool := rdb s (R.TIM_DOM_CFG d) 31
def domGm (s : State) (d : Nat) : Bool := rdb s (R.TIM_DOM_CFG d) 30

/-- STATE of domain entry d; the clock domain's is TIM_STATUS STATE. -/
def domState (s : State) (d : Nat) : Nat := rdf s (R.TIM_DOM_STATE d) 31 30

/-- Ports with gPTP (R274). -/
def isPtpPort (p : Nat) : Bool := p ≤ 11 || p == 16 || p == 17

/-- 2 to the signed 4-bit logarithm, seconds, in ns. -/
def logNs (n : Nat) : Nat := if n < 8 then 1000000000 * 2 ^ n else 1000000000 / 2 ^ (16 - n)

/-- Domain entry d enters a state; every change of the clock domain raises source 256, and HOLDOVER is counted from
`since` with source 258 (R272). -/
def domEnter (d st since : Nat) (s : State) : State :=
  if domState s d = st then s else
  let s := wrf s (R.TIM_DOM_STATE d) 31 30 st
  let s := { s with tim := { s.tim with within := s.tim.within.del d, above := s.tim.above.del d } }
  if d ≠ clkDom s then s else
  let s := raise 256 (wrf s R.TIM_STATUS 7 6 st)
  if st = 2 then
    let s := { s with tim := { s.tim with holdNs := since } }
    raise 258 (inc (wr s R.TIM_HOLD_ELAPSED ((s.devNs - since) / 1000000000)) (R.TIM_CNT 1))
  else s

/-- A SYNCED domain loses its source: HOLDOVER (R272). -/
def domLost (d : Nat) (s : State) : State := if domState s d = 1 then domEnter d 2 s.devNs s else s

/-- Port p becomes or stops being asCapable in every domain it has a role in (R275). -/
def capSet (p : Nat) (on : Bool) (s : State) : State :=
  forEach [0, 1] (fun d s =>
    let a := R.TIM_DOM_STATE d
    if !domActive s d || ptpRole s d p == 0 || rdb s a p == on then s else
    let s := raise 260 (wrf s a p p (if on then 1 else 0))
    if on then s else
    let s := inc s (R.TIM_PORT_CNT p 7)
    if ptpRole s d p = 2 then domLost d s else s) s

/-- Link loss or the start of a speed step: port p is no longer asCapable, and its delay is measured afresh (R233, R275). -/
def capLost (p : Nat) (s : State) : State :=
  if !isPtpPort p then s else
  let s := { s with tim := { s.tim with pdGood := s.tim.pdGood.del p, pdBad := s.tim.pdBad.del p } }
  capSet p false (wrf s (R.TIM_PORT_STATE p) 31 31 0)

/-- An exchange of port p was good, or lost or out of threshold; the third in a row changes asCapable (R275). -/
def pdJudge (p : Nat) (good : Bool) (s : State) : State :=
  let g := if good then s.tim.pdGood.getD p 0 + 1 else 0
  let b := if good then 0 else s.tim.pdBad.getD p 0 + 1
  let s := { s with tim := { s.tim with pdGood := s.tim.pdGood.put p g, pdBad := s.tim.pdBad.put p b } }
  if 3 ≤ g then capSet p true s else if 3 ≤ b then capSet p false s else s

/-- What execPdelayExchange does; nothing leaves a port that is silent in safe state (R378). -/
def pdelayExchangeDo (p : Nat) (delayNs : Option Nat) (nrrPpb : Int) (s : State) : State :=
  if inSafe s && isVehiclePort p then s else
  let s := bypass p 12 1 (emit (.ptpReq p) (inc (activity s) (R.TIM_PORT_CNT p 2)))
  let tx := ptpStamp (2 * p + 1) s
  match delayNs with
  | none => pdJudge p false (inc tx.2 (R.TIM_PORT_CNT p 4))
  | some d =>
    -- Pdelay_Resp and its Follow_Up come by the uncontrolled port (R318)
    let rx := ptpStamp (2 * p) (bypass p 8 2 (inc tx.2 (R.TIM_PORT_CNT p 3)))
    if !(tx.1 && rx.1) then pdJudge p false (inc rx.2 (R.TIM_PORT_CNT p 4))
    else
      let s := wrf (wrf rx.2 (R.TIM_PORT_STATE p) 15 0 (min d 0xFFFF)) (R.TIM_PORT_STATE p) 31 31 1
      let s := wr s (R.TIM_PORT_NRR p) (toU32 nrrPpb)
      pdJudge p (d ≤ rdf s (R.TIM_PORT_CFG p) 15 0) s

/-- PDELAY_EXCHANGE: one exchange of port p, lost where no delay came of it or a stamp was lost (R275, R277). -/
def execPdelayExchange (p : Nat) (delayNs : Option Nat) (nrrPpb : Int) (s : State) : Host.Outcome State Fault Refusal :=
  run s (.pdelayExchange p delayNs nrrPpb)
    (if !isPtpPort p then s else
     pdelayExchangeDo p delayNs nrrPpb s)

-- Slews and steps (R271, R276, R278) ------------------------------------------------------------------------------

/-- Show the rate correction in force: what stays, the slew, and the grandmaster's adjustment. -/
def rateShow (s : State) : State := wr s R.TIM_RATE_PPB (toU32 (s.tim.base + s.tim.slew + ofU32 (rd s R.TIM_GM_ADJ)))

/-- Slew an offset away: the correction that stays and the slew on it are free values, together at most 200 ppm (R271, log
entry 23). -/
def slewStart (off : Int) (s : State) : State :=
  let f := free s
  let g := free f.2
  let base : Int := (f.1 % 200001 : Nat) - 100000
  let mag : Int := (g.1 % 100000 + 1 : Nat)
  let s := { g.2 with tim := { g.2.tim with base := base } }
  if off = 0 then rateShow { s with tim := { s.tim with slew := 0, slewLeft := 0 } }
  else rateShow { s with tim := { s.tim with
    slew := (if 0 < off then -mag else mag), slewLeft := (off.natAbs * 1000000000 : Nat) } }

/-- A step waits for the next device tick boundary; one that waited already is replaced (R271, R276). -/
def stepPlan (absolute : Bool) (v : Int) (s : State) : State :=
  { s with tim := { s.tim with step := some (nextTick s, absolute, v) } }

/-- Snapshot instants: START_NS and every PERIOD_US after it (R240). -/
def snapInstant (s : State) (g : Nat) (strict : Bool) : Nat :=
  let start := cnt s R.SNAP_SCHED_START
  let per := rd s R.SNAP_SCHED_PERIOD * 1000
  if g < start then start else nextInstant start per g strict

/-- Instants of a period from `at0` up to `new`. -/
def jumped (at0 new period : Nat) : Nat := if new < at0 then 0 else (new - at0) / max 1 period + 1

/-- Count instants jumped over, source 262. -/
def skipped (k : Nat) (s : State) : State := if k = 0 then s else raise 262 (addCnt s (R.TIM_CNT 2) k)

/-- The clapper and snapshot schedules after a step (R278). -/
def schedMove (forward : Bool) (s : State) : State :=
  let new := s.globalNs
  let s := forEach s.tim.clapNext (fun x s =>
    let s := { s with tim := { s.tim with clapNext := s.tim.clapNext.put x.1 (clapInstant s x.1 new forward) } }
    if forward then skipped (jumped x.2 new (rdf s (R.TIM_CLAP_PERIOD x.1) 15 0 * 1000000)) s else s) s
  match s.tim.snapNext with
  | none => s
  | some t =>
    let s := { s with tim := { s.tim with snapNext := some (snapInstant s new forward) } }
    if forward then skipped (jumped t new (rd s R.SNAP_SCHED_PERIOD * 1000)) s else s

/-- Channel n's follow-up is abandoned (R281). -/
def fupDrop (n : Nat) (s : State) : State :=
  raise 263 (inc (setCan n { canChan s n with clap := none } s) (R.TIM_CNT 3))

/-- The armed ACT_TIME in ns of global time (R435). -/
def actTimeNs (s : State) : Nat := cnt s R.UPD_ACT_TIME * 1000000000 + rd s R.UPD_ACT_NS

-- Sync (R271, R272, R275) -----------------------------------------------------------------------------------------

/-- The three-in-a-row rules of R272 after an offset of domain entry d. -/
def syncJudge (d : Nat) (within : Bool) (s : State) : State :=
  let w := if within then s.tim.within.getD d 0 + 1 else 0
  let a := if within then 0 else s.tim.above.getD d 0 + 1
  let s := { s with tim := { s.tim with within := s.tim.within.put d w, above := s.tim.above.put d a } }
  let st := domState s d
  if 3 ≤ w ∧ (st = 0 ∨ st = 2) then domEnter d 1 s.devNs s
  else if 3 ≤ a ∧ (st = 1 ∨ st = 2) then domEnter d 0 s.devNs s
  else s

/-- A two-step Sync of domain entry d leaves port p, which is MASTER and has its link: it takes a transmit stamp, and is lost
where none is free (R274, R275, R277; log entry 233). Its Follow_Up goes with it, both by the uncontrolled port (R318); a
vehicle port is silent in safe state (R378). -/
def syncSend (d originNs corrNs p : Nat) (s : State) : State :=
  if isPtpPort p && !(inSafe s && isVehiclePort p) && ptpRole s d p == 1 && rdf s (R.PORT_ETH_STATE p) 31 28 == 2 then
    let u := ptpStamp (2 * p + 1) s
    if u.1 then activity <| emit (.ptpSync p (rdf s (R.TIM_DOM_CFG d) 22 16) originNs corrNs) (bypass p 12 2 (inc u.2 (R.TIM_PORT_CNT p 1))) else u.2
  else s

/-- A Sync and its Follow_Up go on to every MASTER port of domain entry d, within 2 ms: the correction field takes up each
port's residence time, a free value of at most that (R275). -/
def syncForward (d originNs corrNs : Nat) (s : State) : State :=
  forEach (List.range 18) (fun p s =>
    let f := free s
    syncSend d originNs (corrNs + f.1 % 2000001) p f.2) s

/-- What execSyncReceived does. -/
def syncReceivedDo (d : Nat) (p : Nat) (offsetNs : Int) (originNs corrNs : Nat) (s : State) (twoStep : Bool := false) : State :=
  let st := ptpStamp (2 * p) (bypass p 8 (if twoStep then 2 else 1) (activity s))
  if !st.1 then st.2 else
  let s := inc st.2 (R.TIM_PORT_CNT p 0)
  if domGm s d || ptpRole s d p != 2 then s else
  let s := { s with tim := { s.tim with syncNs := s.tim.syncNs.put d s.devNs } }
  let s := wr s (R.TIM_DOM_OFFSET d) (toU32 offsetNs)
  let s := syncForward d originNs corrNs s
  let s := syncJudge d (offsetNs.natAbs ≤ rdf s R.TIM_SYNC_LIMIT 15 0) s
  if d ≠ clkDom s then s else
  let s := wr s R.TIM_OFFSET_NS (toU32 offsetNs)
  if offsetNs.natAbs ≤ 1000 then slewStart offsetNs s else stepPlan false (-offsetNs) s

/-- SYNC_RECEIVED: a Sync of domain entry d on port p, one-step or with its Follow_Up: its offset, module minus master, and its
precise origin time and correction field, ns. -/
def execSyncReceived (d p : Nat) (offsetNs : Int) (s : State) (originNs corrNs : Nat := 0)
    (twoStep : Bool := false) : Host.Outcome State Fault Refusal :=
  run s (.syncReceived d p offsetNs originNs corrNs twoStep)
    (if !isPtpPort p || !domActive s d || ptpRole s d p == 0 then s else
     syncReceivedDo d p offsetNs originNs corrNs s twoStep)

/-- The SLAVE port of domain entry d. -/
def slavePort (s : State) (d : Nat) : Option Nat := (List.range 18).find? (fun p => isPtpPort p && ptpRole s d p == 2)

/-- What execSyncTimeout does. -/
def syncTimeoutDo (d : Nat) (s : State) : State :=
  match slavePort s d, s.tim.syncNs.get? d with
  | some p, some t =>
    if t + 3 * logNs (rdf s (R.TIM_PORT_CFG p) 27 24) ≤ s.devNs then
      let s := { s with tim := { s.tim with syncNs := s.tim.syncNs.del d } }
      domLost d (inc s (R.TIM_CNT 5))
    else s
  | _, _ => s

/-- SYNC_TIMEOUT: no Sync for three sync intervals (R272). -/
def execSyncTimeout (d : Nat) (s : State) : Host.Outcome State Fault Refusal :=
  run s (.syncTimeout d)
    (syncTimeoutDo d s)

/-- HOLDOVER_EXPIRE: HOLDOVER_S has elapsed; FREE, source 259 (R272). -/
def execHoldoverExpire (s : State) : Host.Outcome State Fault Refusal :=
  run s .holdoverExpire
    (if domState s (clkDom s) = 2 ∧ s.tim.holdNs + rdf s R.TIM_LIMITS 16 0 * 1000000000 ≤ s.devNs then raise 259 (domEnter (clkDom s) 0 s.devNs s) else s)

/-- Wake from Sleep or below, with sleep entered at `since`: SYNCED becomes HOLDOVER (R272). -/
def timeWake (since : Nat) (s : State) : State :=
  forEach [0, 1] (fun d s => if domState s d = 1 then domEnter d 2 since s else s) s

/-- State of each domain as the tables go live: GM where its role is grandmaster, HOLDOVER that lasted over a sleep, else
FREE (R272). -/
def timeInit (s : State) : State :=
  let s := forEach [0, 1] (fun d s => wrf s (R.TIM_DOM_STATE d) 31 30 
    (if domActive s d && domGm s d then 3 else if domActive s d && domState s d == 2 then 2 else 0)) s
  let d := clkDom s
  let st := domState s d
  if rdf s R.TIM_STATUS 7 6 = st then s else raise 256 (wrf s R.TIM_STATUS 7 6 st)

-- Commands (R276) -------------------------------------------------------------------------------------------------

/-- TIM_GM_ADJ: written within ±100,000 ppb under the grandmaster role, and applied. -/
def timGmAdjDo (req : Requester) (val : Word) (s : State) : State :=
  (let v := ofU32 val.toNat
     if isGm s && decide (v.natAbs ≤ 100000) then rateShow (wr s R.TIM_GM_ADJ val.toNat)
     else deniedWrite req R.TIM_GM_ADJ s)

/-- STEP_TO_SET: a step to TIM_SET at the next tick boundary; DENIED under a relay or with nanoseconds out of range. -/
def stepToSetDo (s : State) : State :=
  (let ns := rdf s R.TIM_SET_NS 29 0
     let sec := cnt s R.TIM_SET_SEC % 0x1000000000000
     if isGm s && decide (ns ≤ 999999999) then
       wrf (stepPlan true ((sec * 1000000000 + ns : Nat)) s) R.TIM_CMD_STATUS 7 0 0
     else raise 265 (wrf s R.TIM_CMD_STATUS 7 0 2))

/-- LATCH: both times. -/
def latchDo (s : State) : State :=
  (let s := wrq s R.TIM_LATCH_DEV s.devNs
     let s := wrq s R.TIM_LATCH_SEC (s.globalNs / 1000000000 % 0x1000000000000)
     let s := wr s R.TIM_LATCH_NS (s.globalNs % 1000000000)
     wrf s R.TIM_CMD_STATUS 7 0 0)

-- PPS_OUT and clock monitoring (R36, R282) ------------------------------------------------------------------------

/-- SW7 has the PPS_OUT role (R25). -/
def ppsRole (s : State) : Bool := rdb s (R.SVY_SW 7) 30

/-- The land falls, where a pulse is under way. -/
def ppsEnd (s : State) : State :=
  if s.tim.ppsFall.isSome then emit (.pps false) { s with tim := { s.tim with ppsFall := none } } else s

/-- The land rises for WIDTH_MS; one that is high already stays so. -/
def ppsRise (s : State) : State :=
  let high := s.tim.ppsFall.isSome
  let s := { s with tim := { s.tim with ppsFall := some (s.devNs + rdf s R.TIM_PPS_CFG 8 0 * 1000000) } }
  if high then s else emit (.pps true) s

/-- The pulse under way ends with its width (R282). -/
def ppsTick (s : State) : State := if s.tim.ppsFall.any (fun t => decide (t ≤ s.devNs)) then ppsEnd s else s

/-- A pulse falls due: PPS is enabled, the driver connected, a whole global second lies within the last cycle, and WHEN allows
it (R282). -/
def ppsDue (s : State) : Bool :=
  ppsRole s && rdb s R.TIM_PPS_CFG 31 && !s.gaf.ppsOff && decide (rung s ≤ 2) && decide (s.globalNs % 1000000000 < 9) &&
  (rdb s R.TIM_PPS_CFG 30 || rdf s R.TIM_STATUS 7 6 != 0)

/-- PPS_PULSE: the land rises at a whole global second. -/
def execPpsPulse (s : State) : Host.Outcome State Fault Refusal :=
  run s .ppsPulse
    (if ppsDue s then ppsRise s else s)

/-- What execPpsLandFault does. -/
def ppsLandFaultDo (s : State) : State :=
  raise 264 (inc { (ppsEnd s) with gaf := { s.gaf with ppsOff := true } } (R.TIM_CNT 4))

/-- PPS_LAND_FAULT: the driver disconnects; PPS_FAULTS, source 264. -/
def execPpsLandFault (s : State) : Host.Outcome State Fault Refusal :=
  run s .ppsLandFault
    (if ppsRole s then ppsLandFaultDo s else s)

/-- What execPpsDriverReconnect does. -/
def ppsDriverReconnectDo (s : State) : State :=
  { s with gaf := { s.gaf with ppsOff := false } }

/-- PPS_DRIVER_RECONNECT: 100 ms after the fault cleared the driver is connected again (R36). -/
def execPpsDriverReconnect (s : State) : Host.Outcome State Fault Refusal :=
  run s .ppsDriverReconnect
    (ppsDriverReconnectDo s)

/-- What execClockCheck does. -/
def clockCheckDo (ppm : Int) (s : State) : State :=
  let s := raiseLine 266 54 (inc s (R.TIM_CNT 7))
  forEach [0, 1] (fun d s => if domState s d = 1 ∨ domState s d = 2 then domEnter d 0 s.devNs s else s) s

/-- CLOCK_CHECK: a difference above ±1,000 ppm is a clock fault: counted, source 266 with line 54, and FREE unless GM
(R272, R282). -/
def execClockCheck (ppm : Int) (s : State) : Host.Outcome State Fault Refusal :=
  run s (.clockCheck ppm)
    (if ppm.natAbs ≤ 1000 then s else
     clockCheckDo ppm s)

end Sys2Proof.Machine
end

