-- ==== Sys2Proof/Machine/Snapshot.lean ====
section
/-! DEFINITION. Statistics snapshots (R240 to R244): a capture copies counters of one instant into one of two banks. -/

namespace Sys2Proof.Machine

/-- Base of bank b (R243). -/
def bankBase (b : Nat) : Nat := if b = 0 then 0xC100000 else 0xC300000

/-- The words of an area of the address space that differ from 0, as the sparse map holds them. -/
def areaWords (s : State) (lo size : Nat) : List (Nat × Word) := s.regs.filter (fun x => lo ≤ x.1 && x.1 < lo + size)

/-- Clear an area of a bank. -/
def areaClear (lo size : Nat) (s : State) : State :=
  { s with regs := s.regs.filter (fun x => !(lo ≤ x.1 && x.1 < lo + size)) }

/-- Copy the counters of a live area to `dst`. -/
def areaCopy (lo size dst : Nat) (s : State) : State :=
  forEach (areaWords s lo size) (fun x s => wr s (dst + (x.1 - lo)) x.2.toNat) (areaClear dst size s)

/-- Areas of port p: live address, size, bank offset (R241, R243). -/
def portAreas (p : Nat) : List (Nat × Nat × Nat) :=
  [(0x1001000 + p * 0x10000, 0x1000, 0x10000 + p * 0x1000), (0x2001000 + p * 0x80, 0x80, 0x40000 + p * 0x80),
   (0x301C000 + p * 0x40, 0x40, 0x59000 + p * 0x40), (0x4010000 + p * 0x80, 0x80, 0x60000 + p * 0x80),
   (0x3010000 + p * 0x200, 0x200, 0x50000 + p * 0x200), (0x4020000 + p * 0x80, 0x80, 0x62000 + p * 0x80)]

/-- Ports of a group (R241). -/
def groupPorts (g : Nat) : List Nat :=
  match g with
  | 1 => List.range' 0 4 | 2 => List.range' 4 8 | 3 => List.range' 12 4 | 4 => List.range' 16 4
  | 5 => List.range' 20 16 | 6 => List.range' 36 8 | _ => [44]

/-- Areas of port group g. -/
def groupAreas (g : Nat) : List (Nat × Nat × Nat) :=
  ((groupPorts g).map portAreas).flatten ++
  (if g = 4 then [(0x3016000, 0x2000, 0x56000)] else []) ++ (if g = 5 then [(0x4022000, 0x200, 0x64000)] else [])

/-- Block-level areas of the bank layout (R243). -/
def blockAreas : List (Nat × Nat × Nat) :=
  [(0x3018000, 0x800, 0x58000), (0x2100000, 0x40000, 0x80000), (0x2180000, 0x24000, 0xC0000),
   (0x5010000, 0x20000, 0x100000), (0x6040000, 0x20000, 0x120000), (0x6000040, 0x10, 0x140000),
   (0x7010000, 0x1480, 0x180000), (0x8010000, 0x8000, 0x190000), (0x9002000, 0x50, 0x1A0000),
   (0xA001000, 0x90, 0x1B0000), (0xB001000, 0x80, 0x1C0000), (0xD004000, 0x1800, 0x1D0000)]

/-- What GROUP selects. -/
def snapAreas (g : Nat) : List (Nat × Nat × Nat) :=
  if g = 0 then ([1, 2, 3, 4, 5, 6, 7].map groupAreas).flatten ++ blockAreas else groupAreas g

def snapHeld (s : State) (b : Nat) : Bool := rdb s R.SNAP_HOLD b

/-- The bank a capture is written to (R242); none with both held. -/
def snapBank (s : State) : Option Nat :=
  let first := if rdb s R.SNAP_STATUS 1 then 1 - rdf s R.SNAP_STATUS 0 0 else 0
  if !snapHeld s first then some first else if !snapHeld s (1 - first) then some (1 - first) else none

def snapBusy (s : State) : Bool := rdb s R.SNAP_STATUS 2

/-- The instant of capture x: every counter is copied, and both times are kept (R240). -/
def snapTake (x : SnapRun) (s : State) : State :=
  let s := forEach (snapAreas x.group) (fun a s => areaCopy a.1 a.2.1 (bankBase x.bank + a.2.2) s) s
  { s with tim := { s.tim with snap := some { x with taken := true, globalNs := s.globalNs, devNs := s.devNs } } }

/-- A capture whose instant has come is taken. -/
def snapTick (s : State) : State :=
  match s.tim.snap with
  | some x => if x.taken = false ∧ x.devNs ≤ s.devNs then snapTake x s else s
  | none => s

/-- A capture starts: its instant is the first device tick boundary from now on (R240, R269). -/
def snapStart (g b : Nat) (sched : Bool) (s : State) : State :=
  let t := if s.devNs % 1000 = 0 then s.devNs else nextTick s
  snapTick (wrf { s with tim := { s.tim with snap := some ⟨false, g, sched, b, 0, t⟩ } } R.SNAP_STATUS 2 2 1)

def snapResult (code : Nat) (s : State) : State := wrf s R.SNAP_STATUS 31 24 code

/-- The schedule is enabled and an instant has been reached. -/
def snapDue (s : State) : Bool := rdb s R.SNAP_SCHED_CFG 31 && s.tim.snapNext.any (fun t => t ≤ s.globalNs)

/-- The schedule is enabled and has an instant in the device tick under way (R242). -/
def snapDueTick (s : State) : Bool :=
  rdb s R.SNAP_SCHED_CFG 31 && s.tim.snapNext.any (fun t => decide (t < s.globalNs + (nextTick s - s.devNs)))

/-- SNAP_GO: a command capture (R240, R242). -/
def snapGoDo (val : Word) (s : State) : State :=
  (let g := fld val.toNat 7 4
     if !val.toNat.testBit 0 then s
     else if 8 ≤ g then snapResult 2 s
     else if snapBusy s || snapDueTick s then snapResult 1 s
     else match snapBank s with
       | none => snapResult 4 s
       | some b => snapResult 0 (snapStart g b false s))

/-- A scheduled capture that is not made: MISSED, source 509. -/
def snapMissed (s : State) : State := raise 509 (inc (setBits R.SNAP_EVT_STATUS 2 s) (R.SNAP_CNT 1))

/-- Set the schedule to its first instant at or after now (R240, R244). -/
def snapArm (s : State) : State :=
  { s with tim := { s.tim with snapNext := if rdb s R.SNAP_SCHED_CFG 31 then some (snapInstant s s.globalNs false) else none } }

/-- What execSnapSchedule does. -/
def snapScheduleDo (s : State) : State :=
  let s := { s with tim := { s.tim with snapNext := some (snapInstant s s.globalNs true) } }
  if 2 < rung s then s else
  let g := rdf s R.SNAP_SCHED_CFG 3 0
  if snapBusy s || decide (8 ≤ g) then snapMissed s
  else match snapBank s with
    | none => snapMissed s
    | some b => snapStart g b true s

/-- SNAP_SCHEDULE: a scheduled instant is reached; below Doze it is skipped (R240, R242, R244). -/
def execSnapSchedule (s : State) : Host.Outcome State Fault Refusal :=
  run s .snapSchedule
    (if !snapDue s then s else
     snapScheduleDo s)

/-- What execSnapComplete does. -/
def snapCompleteDo (x : SnapRun) (s : State) : State :=
  let h := bankBase x.bank
  let s := inc { s with tim := { s.tim with snap := none } } (R.SNAP_CNT 0)
  let s := wrq (wrq s h x.globalNs) (h + 8) x.devNs
  let s := wr s (h + 0x10) (rd s (R.SNAP_CNT 0))
  let s := wr s (h + 0x14) ((if x.schedule then 16 else 0) + x.group)
  let s := wr s (h + 0x18) (if x.group = 0 then 0xFF else 2 ^ x.group)
  let s := wrf (wrf s R.SNAP_STATUS 2 2 0) R.SNAP_STATUS 1 0 (2 + x.bank)
  raise 508 (setBits R.SNAP_EVT_STATUS 1 s)

/-- SNAP_COMPLETE: the bank's header is written; LATEST, CAPTURES and source 508 (R240, R243). -/
def execSnapComplete (s : State) : Host.Outcome State Fault Refusal :=
  run s .snapComplete
    (match s.tim.snap with
     | none => s
     | some x =>
     if x.taken then snapCompleteDo x s else s)

/-- Sleep or below: both banks are cleared and none is valid (R244). -/
def snapClear (s : State) : State :=
  let s := areaClear 0xC100000 0x400000 s
  wrf { s with tim := { s.tim with snap := none } } R.SNAP_STATUS 2 0 0

end Sys2Proof.Machine
end

