-- ==== Sys2Proof/Machine/Eth.lean ====
section
/-! DEFINITION. Ethernet ports (chapter 8): links, 10BASE-T1S, low-power idle, speed stepping, TC10, signal quality and
PHY faults. -/

namespace Sys2Proof.Machine

def link (s : State) (p : Nat) : Nat := rdf s (R.PORT_ETH_STATE p) 31 28
def ethRate (s : State) (p : Nat) : Nat := rdf s (R.PORT_ETH_STATE p) 27 24
def isSd (p : Nat) : Bool := 12 ≤ p && p ≤ 15

/-- Link is reported: UP or STEPPING. -/
def linked (s : State) (p : Nat) : Bool := link s p == 2 || link s p == 3

-- Link (R221, R222, R228, R230) -----------------------------------------------------------------------------------

/-- Own wake time applies after each link-up or step; ports 0 to 11 have low-power idle (R219, R230). -/
def wakeOwn (p : Nat) (s : State) : State := if 11 < p then s else wr s (R.PORT_ETH_WAKE p) (ownWake (ethRate s p))

/-- A rate code that port p supports (R219). -/
def rateOk (p r : Nat) : Bool :=
  if p ≤ 3 then 2 ≤ r && r ≤ 6 else if p ≤ 11 then r == 2 || r == 3 else if p ≤ 15 then r == 1 else 3 ≤ r && r ≤ 6

/-- Rate codes of an ADV_SPEEDS field: bit 4 10G, 3 5G, 2 2.5G, 1 1G, 0 100M; as a set of rate codes. -/
def advRates (adv : Nat) : Nat :=
  (bitsOf adv 5).foldl (fun m b => m ||| 2 ^ (b + 2)) 0

/-- The speed at which port p comes up: forced, or, with auto-negotiation, as its PHY reports it within what both ends
advertised (R221, R228); under the lid limit no more than 2.5G (R234), but where the rate is forced (DESIGN CHOICE, log
entry 240). -/
def upRate (s : State) (p r partner : Nat) : Bool :=
  let cfg := rd s (R.PORT_ETH_CFG p)
  if !rateOk p r then false
  else if isSd p then true
  else if 16 ≤ p then r == fld cfg 3 0
  else if !cfg.testBit 15 then r == fld cfg 3 0
  else
    let both := advRates (fld cfg 8 4) &&& advRates partner
    let both := if s.gaf.lidLimit && p ≤ 3 then both % 32 else both
    (bitsOf both 8).getLast? == some r

/-- The partner's abilities as Clause 98 brought them to a port that auto-negotiates (R221, SVY_ETH_ABIL). -/
def partnerAbil (p : Nat) (partner : Nat) (s : State) : State :=
  if p ≤ 11 ∧ rdb s (R.PORT_ETH_CFG p) 15 = true then
    wr s (R.SVY_ETH_ABIL p) (2 ^ 31 + fld partner 10 8 * 2 ^ 8 + fld partner 4 0)
  else s

/-- LEADER of a link: as ROLE forces it, else as Clause 98 decided it (R221). -/
def leaderOf (cfg : Nat) (decided : Bool) : Bool :=
  match fld cfg 14 13 with
  | 1 => true
  | 2 => false
  | _ => decided

/-- What execLinkUp does: the port serves from here, and its gate list runs (R116, R340). -/
def linkUpDo (p : Nat) (rate : Nat) (leader : Bool) (eeeAgreed : Bool) (stepAgreed : Bool) (partner : Nat) (s : State) : State :=
  let cfg := rd s (R.PORT_ETH_CFG p)
  let a := R.PORT_ETH_STATE p
  let b (x : Bool) : Nat := if x then 1 else 0
  let s := wrf (wrf (wrf s a 31 28 2) a 27 24 rate) a 23 23 (b (leaderOf cfg leader))
  let s := wrf s a 20 20 (b (eeeAgreed && cfg.testBit 12 && p ≤ 11 && rate != 2))
  let s := wrf s a 19 19 (b (stepAgreed && cfg.testBit 11 && p ≤ 3))
  let s := wrf s a 18 18 (b (isSd p && cfg.testBit 9))
  let s := partnerAbil p partner (wakeOwn p (wrf s (R.SCH_PORT_STATE p) 11 8 rate))
  let s := setEth p { ethPort s p with
    negotiated := rate, common := advRates (fld cfg 8 4) &&& advRates partner, downMs := 0, stepTo := none
    stepWant := none, sleepAfter := false, idleNs := s.devNs, plcaEndNs := 0, plcaBurst := 0, beaconNs := 0, plcaBusy := 0 } s
  gateStart p (poolUp p (portCause p 0 false s))

/-- LINK_UP: port p's PHY reports link up at rate code `rate` (R222). -/
def execLinkUp (p rate : Nat) (leader eeeAgreed stepAgreed : Bool) (partner : Nat) (s : State) :
    Host.Outcome State Fault Refusal :=
  run s (.linkUp p rate leader eeeAgreed stepAgreed partner)
    (if link s p ≠ 1 ∨ (portEnabled s p && !segDown s p && upRate s p rate partner) = false then s else
     linkUpDo p rate leader eeeAgreed stepAgreed partner s)

/-- What ends with port p's link besides R101: its delay, and frames that are still coming in (R135, R275). -/
def linkEnds (p : Nat) (s : State) : State := 
  setEth p { ethPort s p with stepTo := none, stepWant := none, sleepAfter := false, downMs := 0 } (ingLinkLost p (capLost p s))

/-- Port p's link is lost and it trains again where it may. -/
def linkDrop (p : Nat) (s : State) : State :=
  linkEnds p (ethLinkLost p (if portEnabled s p && !segDown s p then 1 else 0) s)

/-- LINK_DOWN: port p's PHY reports the link down (R222, R247). -/
def execLinkDown (p : Nat) (s : State) : Host.Outcome State Fault Refusal :=
  run s (.linkDown p)
    (if linked s p then linkDrop p s else s)

/-- LINK_HOLD_EXPIRE: port p's HOLD_MS ends before its link returns (R102). -/
def execLinkHoldExpire (p : Nat) (s : State) : Host.Outcome State Fault Refusal :=
  run s (.linkHoldExpire p)
    (holdExpire p s)

/-- What execAnFail does. -/
def anFailDo (p : Nat) (partner : Option Nat) (s : State) : State :=
  let s := match partner with
    | some a => partnerAbil p a s
    | none => s
  portCause p 2 true (inc s (R.PORT_ETH_CNT p 8))

/-- AN_FAIL: 2 s without link, or code words that do not match; negotiation restarts (R221, R228). -/
def execAnFail (p : Nat) (partner : Option Nat) (s : State) : Host.Outcome State Fault Refusal :=
  run s (.anFail p partner)
    (if link s p = 1 ∧ isSd p = false ∧ rdb s (R.PORT_ETH_CFG p) 15 = true then anFailDo p partner s else s)

/-- Result of a port command. -/
def ethResult (p code : Nat) (s : State) : State := wrf s (R.PORT_ETH_CMD_STATUS p) 7 0 code

/-- ETH_RESTART: RESTART; DENIED while asleep, fenced or not enabled. A link that was up is lost. -/
def ethRestartDo (p : Nat) (val : Word) (s : State) : State :=
  (if !val.toNat.testBit 0 then s
     else if link s p = 4 ∨ link s p = 5 ∨ portEnabled s p = false ∨ segDown s p = true then ethResult p 2 s
     else
       ethResult p 0 (if linked s p then linkDrop p s else portStart p s))

-- 10BASE-T1S (R226, R227) -----------------------------------------------------------------------------------------

/-- What execPlcaBeaconLoss does. -/
def plcaBeaconLossDo (p : Nat) (s : State) : State :=
  let follower := isSd p && rdb s (R.PORT_ETH_CFG p) 9 && rdf s (R.PORT_ETH_PLCA p) 31 24 != 0
  if follower && rdb s (R.PORT_ETH_STATE p) 18 then
    portCause p 9 true (inc (wrf s (R.PORT_ETH_STATE p) 18 18 0) (R.PORT_ETH_CNT p 23))
  else s

/-- PLCA_BEACON_LOSS: a follower that sees no beacon falls back to CSMA/CD (R227). -/
def execPlcaBeaconLoss (p : Nat) (s : State) : Host.Outcome State Fault Refusal :=
  run s (.plcaBeaconLoss p)
    (plcaBeaconLossDo p s)

/-- PLCA_BEACON_RECEIVED: PLCA resumes at the first beacon, and a cycle of opportunities is counted from each (R226, R227). -/
def execPlcaBeaconReceived (p : Nat) (s : State) : Host.Outcome State Fault Refusal :=
  run s (.plcaBeaconReceived p)
    (if isSd p && rdb s (R.PORT_ETH_CFG p) 9 && linked s p then
       setEth p { ethPort s p with beaconNs := s.devNs, plcaBusy := 0 } (wrf s (R.PORT_ETH_STATE p) 18 18 1)
     else s)

-- Low-power idle (R229) -------------------------------------------------------------------------------------------

/-- Port p has an eligible copy, one in service, or a MAC control frame that is due (R229). -/
def lpiBusy (s : State) (p : Nat) : Bool :=
  (s.sched.service.get? p).isSome || (s.sched.pauseOut.get? p).isSome || (ethPort s p).stepWant.isSome ||
    (pickClass s p).isSome

/-- A gate opening for which a copy waits on port p is no more than its wake time ahead (R120). -/
def lpiAhead (s : State) (p : Nat) : Bool :=
  (gateListOf s p).isSome && (List.range 8).any (fun c => headReady s p c && !gateOpen s p c &&
    (gateNextOpen s p c).any (fun t => decide (t ≤ s.globalNs + rdf s (R.PORT_ETH_WAKE p) 15 0 + 8)))

/-- In each tick a port whose EEE is agreed leaves low-power idle for what is eligible and ahead of a gate opening, and its
idle time starts afresh while it is busy (R229, R120). -/
def lpiTick (s : State) : State :=
  forEach ((List.range 12).filter (fun p => rdb s (R.PORT_ETH_STATE p) 20)) (fun p s =>
    if lpiBusy s p then
      let s := lpiExit p s
      setEth p { ethPort s p with idleNs := s.devNs } s
    else if inLpi s p && lpiAhead s p then lpiExit p s
    else s) s

/-- What execLpiEnter does. -/
def lpiEnterDo (p : Nat) (rx : Option Bool) (s : State) : State :=
  let agreed := decide (link s p = 2) && rdb s (R.PORT_ETH_CFG p) 12 && rdb s (R.PORT_ETH_STATE p) 20
  match rx with
  | some false => lpiRxExit p s
  | some true =>
    if agreed && !rdb s (R.PORT_ETH_STATE p) 21 then
      let s := wrf (inc s (R.PORT_ETH_CNT p 14)) (R.PORT_ETH_STATE p) 21 21 1
      setEth p { ethPort s p with lpiRxSince := s.devNs } s
    else s
  | none =>
    let idle := rdf s (R.PORT_ETH_LPI p) 31 16 * 1000
    if agreed = true ∧ inLpi s p = false ∧ lpiBusy s p = false ∧ (ethPort s p).idleNs + idle ≤ s.devNs then
      let s := wrf (inc s (R.PORT_ETH_CNT p 12)) (R.PORT_ETH_STATE p) 22 22 1
      setEth p { ethPort s p with lpiSince := s.devNs } s
    else s

/-- LPI_ENTER (R229): LPI_IDLE_US have passed without an eligible copy and with no MAC control frame due; or, by `rx`, the
partner enters or leaves low-power idle, which the receive side follows. -/
def execLpiEnter (p : Nat) (rx : Option Bool) (s : State) : Host.Outcome State Fault Refusal :=
  run s (.lpiEnter p rx)
    (lpiEnterDo p rx s)

-- Speed stepping (R231 to R235) -----------------------------------------------------------------------------------

/-- A gate list is operative or pending on port p (R234). -/
def listed (s : State) (p : Nat) : Bool :=
  (gateListOf s p).isSome || (s.sched.gates.get? p).any (fun g => (g.pend.bind id).isSome)

/-- Rate codes that port p may step among: 1G to 10G, common to both ends, up to the negotiated speed (R231). -/
def stepSpeeds (s : State) (p : Nat) : List Nat :=
  (bitsOf (ethPort s p).common 8).filter (fun r => 3 ≤ r && r ≤ 6 && r ≤ (ethPort s p).negotiated)

/-- Nothing is on the wire of port p in either direction. -/
def atBoundary (s : State) (p : Nat) : Bool :=
  !(s.sched.service.get? p).any InService.started && !s.ing.any (fun x => x.src == p && x.arriving) &&
    !s.cip.jobs.any (fun j => j.x.any (fun x => x.src == p && x.tail == .open))

/-- The step that waits on port p starts at a frame boundary in both directions: LINK STEPPING (R233, R235). -/
def stepBegin (p : Nat) (s : State) : State :=
  match (ethPort s p).stepWant with
  | none => s
  | some r =>
    if link s p ≠ 2 then setEth p { ethPort s p with stepWant := none } s
    else if !atBoundary s p then s
    else
      let s := wrf (lpiRxExit p (lpiExit p s)) (R.PORT_ETH_STATE p) 31 28 3
      capLost p (setEth p { ethPort s p with stepWant := none, stepTo := some r, downMs := 0 } s)

/-- A step to rate code `r` is wanted: it starts at the next frame boundary, until which no further copy starts. -/
def stepStart (p r : Nat) (s : State) : State :=
  if link s p ≠ 2 ∨ r = ethRate s p then s else stepBegin p (setEth p { ethPort s p with stepWant := some r } s)

/-- The speed to which the lid limit takes port p: 2.5G, or the highest common speed below it; none where the two ends
cannot step there (R234). -/
def lidSpeed (s : State) (p : Nat) : Option Nat :=
  if rdb s (R.PORT_ETH_STATE p) 19 then ((stepSpeeds s p).filter (fun r => r ≤ 4)).getLast? else none

/-- Multi-gigabit port p runs faster than 2.5G under the lid limit: it steps down at once, or, where no step is agreed, is
renegotiated, which is a link loss (R234). One that is stepping does so after its step (R235). -/
def lidLimitPort (p : Nat) (s : State) : State :=
  if 3 < p then s
  else if ethRate s p ≤ 4 then
    -- a step that waits and would exceed the limit does not start
    if (ethPort s p).stepWant.any (fun r => decide (4 < r)) then setEth p { ethPort s p with stepWant := none } s else s
  else if link s p = 2 then
    match lidSpeed s p with
    | some r => stepStart p r s
    | none => linkDrop p s
  else s

/-- The fastest speed to which port p may step now. -/
def stepTop (s : State) (p : Nat) : Nat :=
  if s.gaf.lidLimit then min (ethPort s p).negotiated ((lidSpeed s p).getD 4) else (ethPort s p).negotiated

/-- In each tick, steps that wait start once their port is at a frame boundary. -/
def stepTick (s : State) : State := forEach (List.range 4) stepBegin s

/-- A MAC and PHY that the reaction unit reset lose their link, which trains again (R374); ones that it fenced have lost what
ends with their link (R135, R275). -/
def phyResetTick (s : State) : State :=
  forEach ((s.ports.eth.filter (fun x => x.2.phyReset)).map Prod.fst) (fun p s =>
    let s := setEth p { ethPort s p with phyReset := false } s
    if linked s p then linkDrop p s else linkEnds p s) s

/-- The head copy of an eligible queue of port p has waited longer than `us`, or was found to wait so by the window. -/
def headWaited (s : State) (p us : Nat) : Bool :=
  (List.range 8).any (fun c => headReady s p c && match headOf s (qOf p c) with
    | some (_, y, _) => decide (y.admitNs + us * 1000 < s.devNs)
    | none => false)

/-- What execStepWindow does. -/
def stepWindowDo (p : Nat) (txBytes : Nat) (rxBytes : Nat) (partnerDown : Bool) (partnerUp : Bool) (headWaitUs : Nat) (s : State) : State :=
  let u := max txBytes rxBytes * 8 * 1000
  let cfg := rd s (R.PORT_ETH_STEP p)
  let r := ethRate s p
  let e := ethPort s p
  let lower := ((stepSpeeds s p).filter (fun x => x < r)).getLast?
  let low := match lower with
    | some x => decide (u * 100 < fld cfg 31 24 * rateBps x)
    | none => false
  let n := if low then e.downMs + 1 else 0
  let s := setEth p { e with downMs := n } s
  let wait := rdf s (R.PORT_ETH_STEP_WAIT p) 13 0
  let wantUp := decide (fld cfg 23 16 * rateBps r < u * 100) || decide (wait < headWaitUs) || headWaited s p wait
  let wantDown := low && decide (fld cfg 15 0 ≤ n) && !listed s p
  let top := stepTop s p
  if s.gaf.lidLimit && decide (4 < r) then lidLimitPort p s
  else if (wantUp || partnerUp) && decide (r < top) then stepStart p top s
  else if wantDown && partnerDown && !wantUp then stepStart p (lower.getD r) s
  else s

/-- STEP_WINDOW: one 1 ms window of port p (R232, R234): wire bytes each way, the partner's wishes, the head's wait. -/
def execStepWindow (p txBytes rxBytes : Nat) (partnerDown partnerUp : Bool) (headWaitUs : Nat) (s : State) :
    Host.Outcome State Fault Refusal :=
  run s (.stepWindow p txBytes rxBytes partnerDown partnerUp headWaitUs)
    (if link s p ≠ 2 ∨ rdb s (R.PORT_ETH_STATE p) 19 = false ∨ 3 < p then s else
     stepWindowDo p txBytes rxBytes partnerDown partnerUp headWaitUs s)

def tc10On (s : State) (p : Nat) : Bool := p ≤ 11 && rdb s (R.PORT_ETH_CFG p) 10

/-- A partner's request to sleep on segment p: accepted in AWAKE_RELEASED and WRAP, where the commit point comes at once,
unless a need or a wake request of the same instant comes before it (R348); answers whether it was refused (R339). -/
def sleepAsked (p : Nat) (s : State) : Bool × State :=
  let st := segState s p
  let need := segNeed s p
  if (st = 3 ∨ (st = 4 ∧ segCommitted s p = false)) ∧ (need || wakeWaits s p) = true then
    let s := if !need then s else if st = 4 then segWake p 1 s else
      setSeg p { seg s p with active := true, kaDueNs := s.devNs } (segEnter p (if segMode s p = 0 then 1 else 2) s)
    (true, raise 363 s)
  else if st = 3 then (false, segCommit p (raise 354 (inc (segEnter p 4 s) (R.GAF_NM_CNT p 2))))
  else if st = 4 then (false, if segCommitted s p then s else segCommit p s)
  else if st = 1 ∨ st = 2 then (true, raise 363 s)
  else (false, s)

/-- The answer to a partner's request to sleep; a refusal is a wake-up that is sent (R236, R339). -/
def sleepJudge (p : Nat) (s : State) : State :=
  let r := sleepAsked p s
  if r.1 then inc r.2 (R.PORT_ETH_CNT p 18) else r.2

/-- A scene switch that brings a list to port p makes it step up at once (R234). -/
def stepForList (p : Nat) (s : State) : State :=
  if p ≤ 3 && listed s p && rdb s (R.PORT_ETH_STATE p) 19 then
    -- a step down that waits gives way
    stepStart p (stepTop s p) (setEth p { ethPort s p with stepWant := none } s)
  else s

/-- What execStepComplete does. -/
def stepCompleteDo (p : Nat) (durationNs : Nat) (r : Nat) (s : State) : State :=
  let down := r < ethRate s p
  let s := addCnt (inc s (R.PORT_ETH_CNT p (if down then 9 else 10))) (R.PORT_ETH_CNT p 11) durationNs
  let s := wrf (wrf s (R.PORT_ETH_STATE p) 31 28 2) (R.PORT_ETH_STATE p) 27 24 r
  let s := wakeOwn p (wrf s (R.SCH_PORT_STATE p) 11 8 r)
  let asked := (ethPort s p).sleepAfter
  let s := setEth p { ethPort s p with stepTo := none, sleepAfter := false, downMs := 0, idleNs := s.devNs } s
  let s := pauseFlush p (portCause p 3 false s)
  -- a refused request leaves the port awake
  let s := if asked then sleepJudge p s else s
  if asked && segDown s p then s else stepForList p (if s.gaf.lidLimit then lidLimitPort p s else s)

/-- STEP_COMPLETE: the PHYs have retrained at the new speed within 10 ms (R233, R230, R235). -/
def execStepComplete (p durationNs : Nat) (s : State) : Host.Outcome State Fault Refusal :=
  run s (.stepComplete p durationNs)
    (match (ethPort s p).stepTo with
     | none => s
     | some r =>
     if link s p ≠ 3 then s else
     stepCompleteDo p durationNs r s)

/-- What execStepFail does: the fault line may fence the port, which ends its link (R233, R374). -/
def stepFailDo (p : Nat) (s : State) : State :=
  let s := portFault p 4 s
  if link s p = 5 then s else linkDrop p s

/-- STEP_FAIL: a retrain not complete within 10 ms is a link loss, with cause 4 and its fault line (R233, R247). -/
def execStepFail (p : Nat) (s : State) : Host.Outcome State Fault Refusal :=
  run s (.stepFail p)
    (if link s p = 3 then stepFailDo p s else s)

-- TC10 (R236, R339) -----------------------------------------------------------------------------------------------

/-- What execTc10SleepRequestRx does. -/
def tc10SleepRequestRxDo (p : Nat) (s : State) : State :=
  let s := inc s (R.PORT_ETH_CNT p 17)
  if link s p = 3 then setEth p { ethPort s p with sleepAfter := true } s else sleepJudge p s

/-- TC10_SLEEP_REQUEST_RX: the partner of port p asks to sleep; a refusal is a wake-up (R236, R339). During a step the
step completes first (R235). -/
def execTc10SleepRequestRx (p : Nat) (s : State) : Host.Outcome State Fault Refusal :=
  run s (.tc10SleepRequestRx p)
    (if !tc10On s p then s else
     tc10SleepRequestRxDo p s)

/-- Nothing of port p is still in transmission. -/
def portQuiet (s : State) (p : Nat) : Bool :=
  if isCanPort p then (s.sched.canTx.get? (p - 20)).isNone
  else if isLinPort p then (s.ports.lin.get? (p - 36)).all (fun c => c.reply.isNone)
  else !(s.sched.service.get? p).any InService.started

/-- TC10_HANDSHAKE_DONE: the sleep handshake of a committed segment completes, behind a frame in transmission (R236, R337). -/
def execTc10HandshakeDone (p : Nat) (s : State) : Host.Outcome State Fault Refusal :=
  run s (.tc10HandshakeDone p)
    (if tc10On s p && segCommitted s p && portQuiet s p then segAsleep p (linkEnds p (portCause p 7 false s)) else s)

-- Signal quality and PHY faults (R237, R239) ----------------------------------------------------------------------

/-- What execSqiUpdate does. -/
def sqiUpdateDo (p : Nat) (sqi : Nat) (s : State) : State :=
  let s := wrf s (R.PORT_ETH_STATE p) 17 15 sqi
  let e := ethPort s p
  if rdf s (R.PORT_ETH_LPI p) 2 0 ≤ sqi then setEth p { e with sqiLowMs := 0, sqiRaised := false } s
  else
    let n := e.sqiLowMs + 10
    let s := setEth p { e with sqiLowMs := n, sqiRaised := e.sqiRaised || decide (1000 ≤ n) } s
    if 1000 ≤ n ∧ e.sqiRaised = false then portCause p 6 true s else s

/-- SQI_UPDATE, every 10 ms while the link is up: below SQI_MIN for 1 s raises cause 6 once (R237). -/
def execSqiUpdate (p sqi : Nat) (s : State) : Host.Outcome State Fault Refusal :=
  run s (.sqiUpdate p sqi)
    (if 11 < p ∨ linked s p = false then s else
     sqiUpdateDo p sqi s)

/-- PHY_FAULT: a PLL lock loss or an internal fault of port p's PHY in service (R239, R247). -/
def execPhyFault (p : Nat) (s : State) : Host.Outcome State Fault Refusal :=
  run s (.phyFault p)
    (portFault p 12 s)

end Sys2Proof.Machine
end

