-- ==== Sys2Proof/Machine/Nm.lean ====
section
/-! DEFINITION. Network management (chapter 13): need, keep-alives, the wrap, and false wakes. -/

namespace Sys2Proof.Machine

/-- 24 h of device time. -/
def fwWindowNs : Nat := 86400000000000

-- Need and states (R333, R334) ------------------------------------------------------------------------------------

/-- A segment whose port is not enabled reads ASLEEP, without a wrap (R332, R348). -/
def segOff (p : Nat) (s : State) : State :=
  if segState s p = 0 then s else
  let s := setSeg p ⟨0, 0, 0, false, 0, false, 0⟩ s
  wr s (R.GAF_NM_SEG_STATE p) 0

/-- Discard the copies of port p's class c that have waited longer than HOLD_MS while the port is not UP (R341); a port that comes UP at
this instant is UP first (R348). -/
def holdExpired (p c : Nat) (s : State) : State :=
  if linkState s p ≠ 2 ∨ sleepPolicy s p c = 0 ∨ linkUpWaits s p = true then s else
  let lim := rdf s (R.GAF_NM_POLICY p c) 15 0 * 1000000
  let q := qOf p c
  let stale (y : Copy) : Bool := decide (y.admitNs + lim < s.devNs)
  let old := (s.pool.copies.filter (fun x => x.2.q == q && (x.2.queued || inCanBuf s q x.1) && stale x.2)).map Prod.fst
  let mid := (match deepOf s q with
    | some k => (s.pool.deepMid.getD k []).filter (fun (x : Spilled) => stale x.copy)
    | none => []).length
  let s := midAge q stale (forEach old (fun d s => discardCopy d 6 s) s)
  let s := if isCanPort p && !old.isEmpty then canPrune (p - 20) s else s
  forEach (List.range (old.length + mid)) (fun _ s => raise 362 (inc s (R.GAF_NM_CNT p 9))) s

/-- The evaluation of one segment (R333, R334, R338). -/
def segEval (p : Nat) (s : State) : State :=
  if !portEnabled s p then segOff p s else
  let need := segNeed s p
  let own := ownNeed s p
  let why := if own then 1 else if need then 2 else 3
  let a := R.GAF_NM_SEG_STATE p
  let s := wrf (wrf s a 26 26 (if need then 1 else 0)) a 25 25 (if coupled s p then 1 else 0)
  let s := match segState s p with
    | 0 => if need || segMode s p == 2 then segRise p why s else s
    | 2 => if !need && segMode s p != 2 then segEnter p 3 s else s
    | 3 =>
      if need then
        let s := segEnter p (if segMode s p = 0 then 1 else 2) s
        setSeg p { seg s p with active := true, kaDueNs := s.devNs } s
      else s
    | 4 => if need then segWake p why s else s
    | _ => s
  -- a port that comes UP at this evaluation is UP first (R348)
  let s := forEach (List.range 8) (fun c s => holdExpired p c s) s
  wrf s a 15 0 (segTimer s p)

/-- Segments of the module. -/
def segList : List Nat := (List.range 44).filter isSeg

/-- Minutes left in the window of each false wake count; a window that has ended shows none (R346). -/
def fwShow (s : State) : State :=
  forEach s.nm.window (fun x s =>
    let left := x.2 + fwWindowNs - s.devNs
    let s := wrf s (R.GAF_FW x.1) 15 0 (left / 60000000000)
    if left = 0 then wrf s (R.GAF_FW x.1) 20 16 0 else s) s

/-- NM_REQUEST_EXPIRE: REQ_DURATION_MS has elapsed since entry to AWAKE_REQUEST. -/
def execNmRequestExpire (p : Nat) (s : State) : Host.Outcome State Fault Refusal :=
  run s (.nmRequestExpire p)
    (if segState s p = 1 ∧ (seg s p).sinceNs + rdf s (R.GAF_NM_TIMES p) 31 16 * 1000000 ≤ s.devNs then segEnter p (if segNeed s p then 2 else 3) s else s)

/-- A CAN frame is a keep-alive of channel n's segment (R336). -/
def isKaCan (s : State) (n : Nat) (f : List Byte) : Bool :=
  let p := 20 + n
  segMode s p == 0 && (s.nm.kaBase.get? p).isSome && busFormat f == (if s.nm.kaExt.getD p false then 1 else 0) &&
  busIdent f / 256 * 256 == s.nm.kaBase.getD p 0

/-- A keep-alive of segment p waits at this instant: it is applied before the end of its silence timer (R348). -/
def keepaliveWaits (s : State) (p : Nat) : Bool :=
  s.pending.any (fun c => match c with
    | .keepaliveRx q => q == p
    | .canFrameReceived n f _ _ false => 20 + n == p && isKaCan s n f
    | .frameLookup q _ _ _ _ => q == p && (ingNext s p).any (fun x => x.tail == .good && isKaEth s p x.data)
    | _ => false)

/-- SILENCE_EXPIRE: the silence timer reaches SILENCE_MS; WRAP, source 354. -/
def execSilenceExpire (p : Nat) (s : State) : Host.Outcome State Fault Refusal :=
  run s (.silenceExpire p)
    (if keepaliveWaits s p then s else
     if segState s p = 3 ∧ (seg s p).silenceNs + rdf s (R.GAF_NM_TIMES_4 p) 31 16 * 1000000 ≤ s.devNs then raise 354 (inc (segEnter p 4 s) (R.GAF_NM_CNT p 2)) else s)

/-- What execWrapCommit does. -/
def wrapCommitDo (p : Nat) (s : State) : State :=
  if segState s p = 4 ∧ segCommitted s p = false ∧ (isEthPort p && link s p == 3) = false ∧
      (seg s p).sinceNs + rdf s (R.GAF_NM_TIMES_8 p) 15 0 * 1000000 ≤ s.devNs then
    if segNeed s p then segWake p (if ownNeed s p then 1 else 2) s
    else if wakeWaits s p then s
    else
      let s := segCommit p s
      if tc10On s p then inc s (R.PORT_ETH_CNT p 16) else s
  else s

/-- WRAP_COMMIT: WRAP_MS has elapsed, and a step that is under way completes first (R235); need at the same instant aborts the wrap (R337, R348). A TC10 link is sent a sleep
request (R236). -/
def execWrapCommit (p : Nat) (s : State) : Host.Outcome State Fault Refusal :=
  run s (.wrapCommit p)
    (wrapCommitDo p s)

/-- A partner refuses the sleep handshake of committed segment p by a wake-up: the commit ends at once (R338). -/
def tc10Refused (p : Nat) (s : State) : State :=
  let s := segEnter p 1 (linkEnds p s)
  let s := setSeg p { seg s p with active := false, latched := false, kaDueNs := s.devNs } s
  let s := setBits R.GAF_WAKE_REC 0x100 (raise 356 (inc s (R.GAF_NM_CNT p 6)))
  portStart p s

/-- A LIN commander's go-to-sleep command comes before its transceiver sleeps (R337). -/
def sleepSent (s : State) (p : Nat) : Bool :=
  !isLinPort p || !rdb s (R.PORT_LIN_CFG p) 15 || ((s.ports.lin.get? (p - 36)).any (fun c => c.slept))

/-- MEDIUM_ASLEEP: a committed segment's medium has reached its low-power mode (R337, R338). -/
def execMediumAsleep (p : Nat) (s : State) : Host.Outcome State Fault Refusal :=
  run s (.mediumAsleep p)
    (if segCommitted s p && portQuiet s p && sleepSent s p then segAsleep p (if isEthPort p then linkEnds p s else s) else s)

/-- NM_STUCK: 20 ms after the commit point the medium is forced off; source 365 with line 61 (R349). -/
def execNmStuck (p : Nat) (s : State) : Host.Outcome State Fault Refusal :=
  run s (.nmStuck p)
    (if segCommitted s p ∧ (seg s p).sinceNs + 20000000 ≤ s.devNs then raiseLine 365 61 (segAsleep p (if isEthPort p then linkEnds p s else s)) else s)

/-- What execCoupleHoldExpire does. -/
def coupleHoldExpireDo (p : Nat) (s : State) : State :=
  wrf (setSeg p { seg s p with coupleNs := 0 } s) (R.GAF_NM_SEG_STATE p) 25 25 0

/-- COUPLE_HOLD_EXPIRE: a coupling hold ends (R342). -/
def execCoupleHoldExpire (p : Nat) (s : State) : Host.Outcome State Fault Refusal :=
  run s (.coupleHoldExpire p)
    (if coupled s p then s else
     coupleHoldExpireDo p s)

-- Keep-alives (R335, R336) ----------------------------------------------------------------------------------------

/-- The 8 data bytes of a keep-alive. -/
def kaData (s : State) (p : Nat) : List Byte :=
  let ctl := (if segState s p = 1 then 1 else 0) + (if (seg s p).active then 16 else 0)
  beBytes (rdf s (R.GAF_NM_SEG_CFG p) 7 0) 1 ++ beBytes ctl 1 ++ padTo ((s.nm.user.getD p []).take 6) 6

/-- One's complement sum of 16-bit words. -/
def ipSum : List Byte → Nat
  | a :: b :: t => a.toNat * 256 + b.toNat + ipSum t
  | _ => 0

def ipChecksum (b : List Byte) : Nat :=
  let n := ipSum b
  let n := n % 0x10000 + n / 0x10000
  0xFFFF - (n % 0x10000 + n / 0x10000)

/-- An Ethernet keep-alive: UDP in IPv4 to KA_GROUP with TTL 1. Fields that the spec does not give (type of service,
identification, UDP source port and checksum) are free values. -/
def kaEth (p : Nat) (s : State) : List Byte × State :=
  let f1 := free s
  let f2 := free f1.2
  let f3 := free f2.2
  let f4 := free f3.2
  let grp := s.nm.kaGroup.getD p 0
  let mac := rd s (R.PORT_ETH_MAC_LO p) + 0x100000000 * rdf s (R.PORT_ETH_MAC_HI p) 15 0
  let head (sum : Nat) : List Byte :=
    [0x45] ++ beBytes f4.1 1 ++ beBytes 36 2 ++ beBytes f1.1 2 ++ [0, 0, 1, 17] ++ beBytes sum 2 ++
    beBytes (s.nm.kaIp.getD p 0) 4 ++ beBytes grp 4
  let udp := beBytes f2.1 2 ++ beBytes (s.nm.kaUdp.getD p 0) 2 ++ beBytes 16 2 ++ beBytes f3.1 2 ++ kaData s p
  (withFcs (padTo (beBytes (0x01005E000000 + grp % 0x800000) 6 ++ beBytes mac 6 ++ beBytes 0x0800 2 ++
    head (ipChecksum (head 0)) ++ udp) 60), f4.2)

/-- The frame of a keep-alive. -/
def kaFrame (p : Nat) (s : State) : List Byte × State :=
  if isCanPort p then
    let ext := s.nm.kaExt.getD p false
    let id := s.nm.kaBase.getD p 0 + rdf s (R.GAF_NM_SEG_CFG p) 7 0
    (busFrame (if ext then 1 else 0) id false false false false 0 0 8 0 (kaData s p), s)
  else kaEth p s

/-- What execKeepaliveTx does. -/
def keepaliveTxDo (p : Nat) (s : State) : State :=
  let st := segState s p
  if segMode s p = 0 ∧ (st = 1 ∨ st = 2) ∧ linkState s p = 0 ∧ (seg s p).kaDueNs ≤ s.devNs then
    let per := if st = 1 then rdf s (R.GAF_NM_TIMES p) 15 0 else rdf s (R.GAF_NM_TIMES_4 p) 15 0
    let f := kaFrame p s
    let s := inc f.2 (R.GAF_NM_CNT p 0)
    let s := setSeg p { seg s p with silenceNs := s.devNs, kaDueNs := s.devNs + per * 1000000 } s
    builtFrame (isCanPort p) f.1 (2 ^ p) 7 0 false false s
  else s

/-- KEEPALIVE_TX: the next keep-alive of segment p is due (R335). -/
def execKeepaliveTx (p : Nat) (s : State) : Host.Outcome State Fault Refusal :=
  run s (.keepaliveTx p)
    (keepaliveTxDo p s)

/-- KEEPALIVE_RX: a keep-alive is received on segment p (R336). -/
def execKeepaliveRx (p : Nat) (s : State) : Host.Outcome State Fault Refusal :=
  run s (.keepaliveRx p)
    (if segMode s p = 0 then keepaliveIn p s else s)

-- False wakes (R346, R347) ----------------------------------------------------------------------------------------

/-- Port of counted source i. -/
def fwPort (i : Nat) : Nat := if i < 16 then 20 + i else if i < 28 then i - 16 else 36 + (i - 28)

/-- A false wake of source i is counted; the sixteenth of its window suppresses the source. -/
def falseWake (i : Nat) (s : State) : State :=
  let open_ := (s.nm.window.get? i).filter (fun w => decide (s.devNs < w + fwWindowNs))
  let start := open_.getD s.devNs
  let fresh := open_.isNone
  let a := R.GAF_FW i
  let n := (if fresh then 0 else rdf s a 20 16) + 1
  let s := { s with nm := { s.nm with window := s.nm.window.put i start } }
  let s := wrf (wrf s a 20 16 (min n 31)) a 15 0 ((start + fwWindowNs - s.devNs) / 60000000000)
  let s := raise 358 (inc s (R.GAF_NM_CNT (fwPort i) 10))
  if n = 16 then raise 359 (wrf (wrq s R.GAF_WAKE_SUPP (cnt s R.GAF_WAKE_SUPP ||| 2 ^ i)) a 31 31 1) else s

/-- What execFalseWakeJudge does. -/
def falseWakeJudgeDo (i : Nat) (s : State) : State :=
  let due (x : Nat × Nat) : Bool := x.1 == i && decide (x.2 + 500000000 ≤ s.devNs)
  let n := (s.nm.judge.filter due).length
  let s := { s with nm := { s.nm with judge := s.nm.judge.filter (fun x => !due x) } }
  forEach (List.range n) (fun _ s => falseWake i s) s

/-- FALSE_WAKE_JUDGE: 500 ms after a counted wake of source i with no valid frame. -/
def execFalseWakeJudge (i : Nat) (s : State) : Host.Outcome State Fault Refusal :=
  run s (.falseWakeJudge i)
    (falseWakeJudgeDo i s)

/-- A downward transition starts: wakes under judgement are judged at once (R346). -/
def judgeAll (s : State) : State :=
  let l := (s.nm.judge.filter (fun x => x.1 < 36)).map Prod.fst
  forEach l falseWake { s with nm := { s.nm with judge := [] } }

/-- CLEAR_SUPPRESS. -/
def clearSuppressDo (val : Word) (s : State) : State :=
  (if val.toNat.testBit 0 then wrf (liftSuppress s) R.GAF_NM_CMD_STATUS 7 0 0 else s)

end Sys2Proof.Machine
end

