-- ==== Sys2Proof/Machine/Lin.lean ====
section
/-! DEFINITION. LIN channels, switch inputs and safe outputs (chapter 9). -/

namespace Sys2Proof.Machine

-- LIN schedule (R251) ---------------------------------------------------------------------------------------------

def linCommander (s : State) (p : Nat) : Bool := rdb s (R.PORT_LIN_CFG p) 15

/-- STATE of LIN port p is RUNNING or COLLISION. -/
def linRuns (s : State) (p : Nat) : Bool := rdf s (R.PORT_LIN_STATE p) 31 28 == 1 || rdf s (R.PORT_LIN_STATE p) 31 28 == 2

/-- Table of the scene in force; none: no headers. -/
def linSceneTable (s : State) (p : Nat) : Option Nat :=
  let k := scene s
  let t := rdf s (R.PORT_LIN_SCENE p (k / 8)) (4 * (k % 8) + 3) (4 * (k % 8))
  if t ≤ 7 then some t else none

def linEntries (s : State) (p t : Nat) : Nat := rdf s (R.PORT_LIN_TBL_CFG p t) 6 0

/-- Where a table that has run returns to: the next entry of the last table that a collision interrupted, else entry 0 of
the scene's table t. -/
def linReturn (s : State) (p t : Nat) : List (Nat × Nat) → Nat × Nat × List (Nat × Nat)
  | [] => (t, 0, [])
  | x :: rest => if x.2 < linEntries s p x.1 then (x.1, x.2, rest) else linReturn s p t rest

/-- The entry that the slot now starting runs: table, entry, and what a collision table returns to. A scene that selects
another table starts it at entry 0. -/
def linPick (s : State) (p : Nat) : Option (Nat × Nat × List (Nat × Nat)) :=
  let c := linChan s (p - 36)
  let cur := rdf s (R.PORT_LIN_STATE p) 27 25
  match linSceneTable s p with
  | none => none
  | some t =>
    if ((c.resume.getLast?.map Prod.fst).getD cur) ≠ t then some (t, 0, [])
    else if c.next < linEntries s p cur then some (cur, c.next, c.resume)
    else some (linReturn s p t c.resume)

/-- The lowest identifier of sporadic group g of port p that waits to be sent. -/
def sporadic (s : State) (p g : Nat) : Option Nat :=
  (List.range 64).find? (fun i => rdb s (R.PORT_LIN_FRAME p i) 31 && rdb s (R.PORT_LIN_FRAME p i) 30 &&
    rdf s (R.PORT_LIN_FRAME p i) 6 4 == g && rdb s (R.PORT_LIN_FRAME p i) 28)

/-- A bit read back wrongly (R253). -/
def linBitErr (p : Nat) (s : State) : State := portCause p 3 true (inc s (R.PORT_LIN_CNT p 6))

/-- Protected identifier: the identifier with its parity bits P0 and P1 (ISO 17987-3; R248, log entry 179). -/
def linPid (i : Nat) : Nat :=
  let par (l : List Nat) : Nat := (l.filter (fun k => i.testBit k)).length % 2
  i % 64 + 64 * par [0, 1, 2, 4] + 128 * (1 - par [1, 3, 4, 5])

/-- The checksum of a response: the inverted carry-around sum of its data bytes, and of the protected identifier where the
identifier is ENHANCED; the diagnostic frames 0x3C and 0x3D have the classic sum always (ISO 17987-3; R248, log entry 179). -/
def linChecksum (s : State) (p i : Nat) (data : List Byte) : Byte :=
  let first := if rdb s (R.PORT_LIN_FRAME p i) 29 && i != 0x3C && i != 0x3D then linPid i else 0
  let sum := data.foldl (fun a b => if a + b.toNat < 256 then a + b.toNat else a + b.toNat - 255) first
  BitVec.ofNat 8 (255 - sum)

/-- A response of identifier i with its checksum leaves the channel. -/
def linSend (p i : Nat) (data : List Byte) (s : State) : State :=
  emit (.linResponse p (data ++ [linChecksum s p i data])) (inc s (R.PORT_LIN_CNT p 1))

/-- The response of identifier i from its buffer; a readback mismatch abandons it (R252, R253). -/
def linRespond (p i : Nat) (readbackOk : Bool) (s : State) : State :=
  if readbackOk then
    let d := (leBytes (cnt s (R.PORT_LIN_DATA p i)) 8).take (rdf s (R.PORT_LIN_FRAME p i) 3 0)
    wrf (linSend p i d s) (R.PORT_LIN_FRAME p i) 28 28 0
  else linBitErr p s

/-- Bit times of a header: a break of 13, its delimiter, the sync byte and the protected identifier (R251). -/
def linHeadNs (s : State) (p : Nat) : Nat := 34 * 1000000000 / max 1 (rdf s (R.PORT_LIN_BAUD p) 14 0)

/-- A header with identifier i is on the bus, its break field `since` ns old: the module, which sent it or not, responds
where it publishes the identifier and its transmitter is free to, or waits for the response. Its response takes its buffer
as it stands when the protected identifier ends: at once where it has received the header, later where it sends it (R249). -/
def linHeader (p i : Nat) (event : Option Nat) (since : Nat) (sent readbackOk : Bool) (s : State) : State :=
  let c := linChan s (p - 36)
  let s := setLin (p - 36) { c with ident := none, reply := none, event := event, breakNs := (s.globalNs - since) / 1000 * 1000, activeNs := s.devNs } s
  let a := R.PORT_LIN_FRAME p i
  if rdb s a 31 && rdb s a 30 && linkState s p == 0 then
    if sent && readbackOk then setLin (p - 36) { linChan s (p - 36) with reply := some (i, s.devNs + linHeadNs s p) } s
    else linRespond p i readbackOk s
  else if !sent || readbackOk then setLin (p - 36) { linChan s (p - 36) with ident := some i } s
  else linBitErr p s

/-- A slot of port p runs entry e of table t. -/
def linSlot (p t e : Nat) (resume : List (Nat × Nat)) (readbackOk : Bool) (s : State) : State :=
  let w := rd s (R.PORT_LIN_TBL p t e)
  let a := R.PORT_LIN_STATE p
  let s := wrf (wrf (wrf s a 31 28 (if resume.isEmpty then 1 else 2)) a 27 25 t) a 24 19 e
  let s := setLin (p - 36) { linChan s (p - 36) with
    next := e + 1, resume := resume, ident := none, reply := none, event := none, slotNs := s.devNs + fld w 15 0 * 100000 } s
  let id := match fld w 31 29 with
    | 2 => sporadic s p (fld w 26 24)
    | _ => some (fld w 21 16)
  match id with
  | none => s
  | some i =>
    linHeader p i (if fld w 31 29 = 1 then some (fld w 26 24) else none) 0 true readbackOk
      (emit (.linHead p (linPid i)) (inc s (R.PORT_LIN_CNT p 2)))

/-- A whole LIN frame enters the pipeline, with RX_TIME at the start of its break field (R250). -/
def linIn (p ident breakNs : Nat) (data : List Byte) (s : State) : State :=
  ingBus p (busFrame 5 ident false false false false 0 0 0 (breakNs % 0x100000000) data) none s

/-- The go-to-sleep command in the next slot of a committed commander (R254, R337): its own response, which enters the
pipeline where 0x3C is declared SUBSCRIBE (R250). -/
def linGoToSleep (p : Nat) (readbackOk : Bool) (s : State) : State :=
  let s := setLin (p - 36) { linChan s (p - 36) with slept := true, ident := none, reply := none } (inc s (R.PORT_LIN_CNT p 2))
  let s := emit (.linHead p (linPid 0x3C)) s
  if readbackOk then
    let data : List Byte := 0 :: List.replicate 7 0xFF
    let s := linSend p 0x3C data s
    if rdb s (R.PORT_LIN_FRAME p 0x3C) 31 && !rdb s (R.PORT_LIN_FRAME p 0x3C) 30 then
      linIn p 0x3C (s.globalNs / 1000 * 1000) data (inc s (R.PORT_LIN_CNT p 0))
    else s
  else linBitErr p s

/-- What execLinSlotStart does. -/
def linSlotStartDo (m : Nat) (readbackOk : Bool) (s : State) : State :=
  let p := 36 + m
  let c := linChan s m
  if !linCommander s p || !linRuns s p || inSafe s || decide (s.devNs < c.slotNs) then s
  else if segCommitted s p then (if c.slept then s else linGoToSleep p readbackOk s)
  else if linkState s p ≠ 0 then s
  else match linPick s p with
    | some (t, e, r) => linSlot p t e r readbackOk (activity s)
    | none => setLin m { c with ident := none, resume := [], next := 0 } (wrf s (R.PORT_LIN_STATE p) 31 28 1)

/-- LIN_SLOT_START: the next slot of a commander starts, once the delay of the last has passed and safe state is not in
force (R251, R253). -/
def execLinSlotStart (m : Nat) (readbackOk : Bool) (s : State) : Host.Outcome State Fault Refusal :=
  run s (.linSlotStart m readbackOk)
    (linSlotStartDo m readbackOk s)

-- LIN reception (R250 to R254) ------------------------------------------------------------------------------------

/-- A collision in an event-triggered slot runs its collision table once; the table interrupted resumes at its next entry. -/
def linCollision (p : Nat) (s : State) : State :=
  let c := linChan s (p - 36)
  match c.event with
  | none => s
  | some t =>
    let cur := rdf s (R.PORT_LIN_STATE p) 27 25
    let s := portCause p 5 false (inc s (R.PORT_LIN_CNT p 8))
    let s := wrf (wrf s (R.PORT_LIN_STATE p) 31 28 2) (R.PORT_LIN_STATE p) 27 25 t
    setLin (p - 36) { c with resume := (cur, c.next) :: c.resume, next := 0, event := none, ident := none } s

/-- What execLinResponseReceived does. -/
def linResponseReceivedDo (m : Nat) (ident : Nat) (data : List Byte) (checksum : Byte) (framingErr room : Bool) (s : State) :
    State :=
  let p := 36 + m
  let c := linChan s m
  if c.ident ≠ some ident ∨ linRuns s p = false then s else
  let a := R.PORT_LIN_FRAME p ident
  let short := decide (data.length = 0 ∨ 8 < data.length) || (rdb s a 31 && data.length != rdf s a 3 0)
  let s := setLin m { c with ident := none, activeNs := s.devNs } (activity s)
  if checksum == linChecksum s p ident data && !framingErr && !short then
    let s := validFrame p (inc s (R.PORT_LIN_CNT p 0))
    if room then linIn p ident c.breakNs data s else stageOverrun p s
  else
    linCollision p (portCause p 2 true (inc s (R.PORT_LIN_CNT p (if framingErr || short then 5 else 4))))

/-- LIN_RESPONSE_RECEIVED: the response to the header on the bus, its last byte as checksum; a full island drops a valid one
whole (R84, R248, R250). -/
def execLinResponseReceived (m ident : Nat) (data : List Byte) (checksum : Byte) (framingErr : Bool) (s : State)
    (room : Bool := true) :
    Host.Outcome State Fault Refusal :=
  run s (.linResponseReceived m ident data checksum framingErr room)
    (linResponseReceivedDo m ident data checksum framingErr room s)

/-- What execLinNoResponse does. -/
def linNoResponseDo (m : Nat) (s : State) : State :=
  let p := 36 + m
  if (linChan s m).ident.isNone then s
  else portCause p 1 true (inc (setLin m { linChan s m with ident := none } s) (R.PORT_LIN_CNT p 3))

/-- LIN_NO_RESPONSE: the header drew no response (R250). -/
def execLinNoResponse (m : Nat) (s : State) : Host.Outcome State Fault Refusal :=
  run s (.linNoResponse m)
    (linNoResponseDo m s)

/-- What execLinHeaderReceived does. -/
def linHeaderReceivedDo (m : Nat) (ident : Nat) (baud : Nat) (breakBits : Nat) (since : Nat) (readbackOk : Bool) (s : State) :
    State :=
  let p := 36 + m
  if linCommander s p || !linRuns s p then s else
  let s := wrf (activity s) (R.PORT_LIN_STATE p) 14 0 baud
  let own := rdf s (R.PORT_LIN_BAUD p) 14 0
  if breakBits < 11 ∨ baud * 100 < own * 86 ∨ own * 114 < baud * 100 then
    portCause p 4 true (inc s (R.PORT_LIN_CNT p 7))
  else linHeader p ident none since false readbackOk (validFrame p s)

/-- LIN_HEADER_RECEIVED: a responder channel sees a header whose break field began `since` ns ago; a sync outside ±14 %
or a break below 11 bits is SYNC_ERR (R252). A silenced transmitter leaves the receiver at work. -/
def execLinHeaderReceived (m ident baud breakBits since : Nat) (s : State) (readbackOk : Bool := true) :
    Host.Outcome State Fault Refusal :=
  run s (.linHeaderReceived m ident baud breakBits since readbackOk)
    (linHeaderReceivedDo m ident baud breakBits since readbackOk s)

/-- What execLinBusStuck does. -/
def linBusStuckDo (m : Nat) (s : State) : State :=
  portFault (36 + m) 9 (setLin m { linChan s m with ident := none } s)

/-- LIN_BUS_STUCK: the bus held dominant for more than 100 ms; the transmitter is released, and the channel's fault line
asserts (R253). -/
def execLinBusStuck (m : Nat) (s : State) : Host.Outcome State Fault Refusal :=
  run s (.linBusStuck m)
    (if linRuns s (36 + m) then linBusStuckDo m s else s)

/-- A responder is asked to sleep; a refusal is a wake pulse, once the bus has been recessive for 100 ms (R339). -/
def linAsked (p : Nat) (recessive : Bool) (s : State) : State :=
  let r := sleepAsked p s
  if !r.1 then r.2
  else if recessive then linWakePulse p r.2
  else setLin (p - 36) { linChan r.2 (p - 36) with pulse := true, activeNs := s.devNs } r.2

/-- LIN_GO_TO_SLEEP_RX: a responder receives the go-to-sleep command. -/
def execLinGoToSleepRx (m : Nat) (s : State) : Host.Outcome State Fault Refusal :=
  run s (.linGoToSleepRx m)
    (if linCommander s (36 + m) || !linRuns s (36 + m) then s else
     linAsked (36 + m) false s)

/-- What execLinInactivity does. -/
def linInactivityDo (m : Nat) (s : State) : State :=
  linAsked (36 + m) true (setLin m { linChan s m with activeNs := s.devNs } s)

/-- LIN_INACTIVITY: 4 s without bus activity on a responder. -/
def execLinInactivity (m : Nat) (s : State) : Host.Outcome State Fault Refusal :=
  run s (.linInactivity m)
    (if linCommander s (36 + m) || !linRuns s (36 + m) || decide (s.devNs < (linChan s m).activeNs + 4000000000) then s else
     linInactivityDo m s)

/-- The response of port p's own slot leaves as the protected identifier ends, unless the transmitter was silenced (R249,
R253). -/
def linReply (p : Nat) (s : State) : State :=
  match (linChan s (p - 36)).reply with
  | none => s
  | some x =>
    if s.devNs < x.2 then s
    else
      let s := setLin (p - 36) { linChan s (p - 36) with reply := none } s
      -- past the commit point of its segment a frame already in transmission completes (R337)
      if linRuns s p && (linkState s p == 0 || segCommitted s p) then linRespond p x.1 true s else s

/-- The wake pulse that port p owes, once its bus has been recessive for 100 ms (R339). -/
def linPulse (p : Nat) (s : State) : State :=
  let c := linChan s (p - 36)
  if c.pulse && decide (c.activeNs + 100000000 ≤ s.devNs) then linWakePulse p (setLin (p - 36) { c with pulse := false } s) else s

/-- What time does on the LIN channels. Commanders switch their 1 kΩ pull-ups: driven while PULLUP_1K = 1 and the port is UP
(R33, R254). -/
def linTick (s : State) : State :=
  forEach (List.range 8) (fun m s =>
    let p := 36 + m
    let s := linPulse p (linReply p s)
    let on := linCommander s p && rdb s (R.PORT_LIN_CFG p) 14 && linkState s p == 0
    if on == (linChan s m).pullup then s
    else emit (.linPullup p on) (setLin m { linChan s m with pullup := on } s)) s

-- Switch inputs (R255 to R257) ------------------------------------------------------------------------------------

/-- SW7 in the PPS_OUT role is no input (R257), and an input that the reaction unit fenced is ignored (R374). -/
def swUsed (s : State) (k : Nat) : Bool := !(k == 7 && ppsRole s) && !lineBit s R.RXU_FENCED_LINES (64 + k)

/-- Level of input k at `mv`, between its thresholds as it was. -/
def swLevel (s : State) (k mv : Nat) (was : Bool) : Bool :=
  if rdf s (R.GAF_SW_THR k) 31 16 ≤ mv then true else if mv ≤ rdf s (R.GAF_SW_THR k) 15 0 then false else was

/-- Input k's debounced state takes a new level. -/
def swChange (k : Nat) (v : Bool) (s : State) : State :=
  let s := inc (wrf s R.GAF_SW_STATE k k (if v then 1 else 0)) (R.GAF_SW_CNT k)
  let t := setBits R.GAF_SW_CHANGED (2 ^ k) s
  let s := if rdb s R.GAF_SW_CHANGED k then t else raise 376 t
  if rdb s (R.GAF_SW_CFG k) 29 then
    if v == rdb s (R.GAF_SW_CFG k) 28 then raiseLine 377 (64 + k) s else deassertLine (64 + k) s
  else s

/-- One sample of input k. -/
def swSample1 (k mv : Nat) (s : State) : State :=
  if !swUsed s k then s else
  let was := rdb s R.GAF_SW_STATE (8 + k)
  let v := swLevel s k mv was
  let held := if v = was then s.ports.swHeld.getD k 0 + 1 else 1
  let s := wrf s R.GAF_SW_STATE (8 + k) (8 + k) (if v then 1 else 0)
  let s := { s with ports := { s.ports with swHeld := s.ports.swHeld.put k held } }
  if v ≠ rdb s R.GAF_SW_STATE k ∧ rdf s (R.GAF_SW_CFG k) 23 16 ≤ held then swChange k v s else s

def swSampleAll : List Nat → Nat → State → State
  | [], _, s => s
  | mv :: t, k, s => swSampleAll t (k + 1) (swSample1 k mv s)

/-- SW_SAMPLE: every 1 ms in Run, Hold and Doze. -/
def execSwSample (mv : List Nat) (s : State) : Host.Outcome State Fault Refusal :=
  run s (.swSample mv)
    (if rung s ≤ 2 then swSampleAll mv 0 s else s)

/-- Poll of input k at `mv` disagrees with STATE in the direction of WAKE_EDGE (R256). -/
def swDisagrees (s : State) (k mv : Nat) : Bool :=
  let st := rdb s R.GAF_SW_STATE k
  let v := swLevel s k mv st
  let edge := rdf s (R.GAF_SW_CFG k) 31 30
  v != st && ((v && (edge == 1 || edge == 3)) || (!v && (edge == 2 || edge == 3)))

-- Safe outputs (R258 to R263) -------------------------------------------------------------------------------------

/-- Drive output k to its level. -/
def soApply (k : Nat) (s : State) : State := soDrive k (soWanted s k) (inSafe s) s

/-- Outputs that a requester commands (R258). -/
def soSide (s : State) (req : Requester) : Nat :=
  let host := (List.range 4).foldl (fun m k => if rdb s (R.RXU_SO_CFG k) 30 then m ||| 2 ^ k else m) 0
  if reqIsHost req then host else if req = .safetyPair then 15 - host else 0

/-- SO_SET: only the writer's outputs change; a 1 for another's, or any write of a hart, raises source 446 (R258, R260). -/
def soSetDo (req : Requester) (val : Word) (s : State) : State :=
  (let v := val.toNat % 16
     let side := soSide s req
     let hart := !(reqIsHost req || req == .safetyPair)
     let s := if hart || (v &&& (15 - side)) != 0 then raise 446 s else s
     let s := wrf s R.RXU_SO_SET 3 0 ((rd s R.RXU_SO_SET &&& (15 - side)) ||| (v &&& side))
     if inSafe s || !startDone s then s else forEach (bitsOf side 4) soApply s)

/-- What a diagnosis reports for output k (R261), with the count of open-load milliseconds. -/
def soDiagCode (s : State) (k ma mv testMv : Nat) (tempC : Int) (atLimit mismatch : Bool) (openMs : Nat) : Nat :=
  let on := soIsOn s k
  if 165 < tempC then 4
  else if on && atLimit then 2
  else if !on && decide (3000 < mv) then 3
  else if (on && decide (10 ≤ openMs)) || (!on && decide (3000 < testMv)) then 1
  else if mismatch then 5 else 0

/-- Retries of output k within the last second (R262). -/
def soRecent (s : State) (k : Nat) : List Nat := (s.ports.soRetries.getD k []).filter (fun t => decide (s.devNs < t + 1000000000))

/-- The driver of output k is switched off for its temperature: THERMAL_OFF, or LATCHED_OFF after RETRY_MAX retries. -/
def soThermal (k : Nat) (s : State) : State :=
  let a := R.RXU_SO_STATE k
  if rdf s a 31 28 = 4 ∨ rdf s a 31 28 = 5 then s else
  let s := inc (soDrive k false (inSafe s) s) (R.RXU_SO_CNT k 2)
  if rdf s (R.RXU_SO_CFG k) 25 24 ≤ (soRecent s k).length then raise 445 (wrf s a 31 28 5) else wrf s a 31 28 4

/-- What execSoDiag does. -/
def soDiagDo (k : Nat) (ma : Nat) (mv : Nat) (testMv : Nat) (tempC : Int) (atLimit1ms : Bool) (mismatch1ms : Bool) (s : State) : State :=
  let a := R.RXU_SO_STATE k
  let on := soIsOn s k
  let n := if on && decide (ma < rdf s (R.RXU_SO_CFG k) 15 8) then s.ports.soOpen.getD k 0 + 1 else 0
  let s := { s with ports := { s.ports with soOpen := s.ports.soOpen.put k n } }
  let code := soDiagCode s k ma mv testMv tempC atLimit1ms mismatch1ms n
  let was := rdf s a 27 24
  let s := wrf (wrf s a 15 0 ma) a 27 24 code
  let s := if code = 4 then soThermal k s
    else if code = 2 then (if rdf s a 31 28 = 3 then s else inc (wrf s a 31 28 3) (R.RXU_SO_CNT k 1))
    else if rdf s a 31 28 = 3 then wrf s a 31 28 (if inSafe s then 2 else 1)
    else s
  if code ≠ was ∧ code ≠ 0 then raiseLine 444 (72 + k) s else s

/-- SO_DIAG: one diagnosis of output k. -/
def execSoDiag (k ma mv testMv : Nat) (tempC : Int) (atLimit1ms mismatch1ms : Bool) (s : State) :
    Host.Outcome State Fault Refusal :=
  run s (.soDiag k ma mv testMv tempC atLimit1ms mismatch1ms)
    (soDiagDo k ma mv testMv tempC atLimit1ms mismatch1ms s)

/-- What execSoCooled does. -/
def soCooledDo (k : Nat) (s : State) : State :=
  let s := wrf s (R.RXU_SO_STATE k) 31 28 0
  let s := if soWanted s k then
      { s with ports := { s.ports with soRetries := s.ports.soRetries.put k (soRecent s k ++ [s.devNs]) } }
    else s
  soApply k s

/-- SO_COOLED: a driver in THERMAL_OFF has cooled for 10 ms; where it is commanded ON this is a retry (R262). -/
def execSoCooled (k : Nat) (s : State) : Host.Outcome State Fault Refusal :=
  run s (.soCooled k)
    (if rdf s (R.RXU_SO_STATE k) 31 28 ≠ 4 then s else
     soCooledDo k s)

/-- SO_CLEAR_LATCH: the outputs named leave LATCHED_OFF (R262). -/
def soClearLatchDo (val : Word) (s : State) : State :=
  (forEach (bitsOf val.toNat 4) (fun k s =>
      if rdf s (R.RXU_SO_STATE k) 31 28 = 5 then
        let s := { s with ports := { s.ports with soRetries := s.ports.soRetries.del k } }
        soApply k (wrf s (R.RXU_SO_STATE k) 31 28 0)
      else s) s)

/-- Outputs go OFF before a transition to Sleep or below (R259). -/
def soOff (s : State) : State := forEach (List.range 4) (fun k s => soDrive k false false s) s

end Sys2Proof.Machine
end

