-- ==== Sys2Proof/Machine/Bridge.lean ====
section
/-! DEFINITION. The bridging engines (chapter 6): conversion, capsules, the signal engine, transport reassembly and J1939
identity. -/

namespace Sys2Proof.Machine

-- Common rules (R161 to R164) -------------------------------------------------------------------------------------

/-- A corrected error of the engines' memories (R187). -/
def sgeEcc (e : Ecc) (s : State) : State := if e = .corrected then raise 238 (inc s R.SGE_ECC_COUNT) else s

/-- A multi-bit error in record r of engine e, or in its buffer, stops it; in a layout, its thread (R187). -/
def recStop (e r : Nat) (s : State) : State :=
  raiseLine 239 53 (if e = 4 then { s with sge := { s.sge with stopped := s.sge.stopped ||| 2 ^ (r % 16) } }
    else { s with sge := { s.sge with stoppedRecs := (e, r) :: s.sge.stoppedRecs.erase (e, r) } })

/-- Take the oldest frame that waits for engine e. The engine reads its cells and its record: `cells` and `mem` are what ECC
found in each (R105, R187). A frame with a tail mark is discarded (R164); one of a stopped record is taken, and nothing
comes of it. -/
def jobTake (e : Nat) (cells mem : Ecc) (s : State) : Option Job × State :=
  match s.sge.jobs.getD e [] with
  | [] => (none, s)
  | j :: t =>
    let s := { s with sge := { s.sge with jobs := s.sge.jobs.set e t [] } }
    let s := stageSync (sgeEcc mem (if cells = .corrected then raise 105 (inc s R.CPL_ECC_COUNT) else s))
    let s := if mem = .multi then recStop e j.v.bridgeIdx s else s
    if j.tailMark || cells = .multi then (none, raise 231 (inc s (R.SGE_DISCARD_CNT 0)))
    else if recStopped s e j.v.bridgeIdx then (none, s)
    else (some j, s)

/-- The full reception time of a bus frame: the latest global time with the low 32 bits of RX_TIME (R198). -/
def rxFull (s : State) (f : List Byte) : Nat := s.globalNs - (s.globalNs + 0x100000000 - hdrWord f 3) % 0x100000000

-- Conversion (R166 to R168) ---------------------------------------------------------------------------------------

/-- Address that channel n holds; none: 0xFE (R185). -/
def j1939Addr (s : State) (n : Nat) : Option Nat :=
  let a := rdf s (R.SGE_J1939 n) 7 0
  if rdf s (R.SGE_J1939 n) 30 28 = 2 ∧ a ≠ 0xFE then some a else none

/-- Egress identifier on channel n: SA_REPLACE puts in the address held there (R166). -/
def convIdOn (s : State) (r n : Nat) (f : List Byte) : Option Nat :=
  (convId s r f).bind (fun i =>
    if rdb s (R.SGE_CONV_CFG r) 24 && is29 (rdf s (R.SGE_CONV_CFG r) 30 28) then
      (j1939Addr s n).map (fun a => i / 256 * 256 + a)
    else some i)

/-- The converted frame for channel n and whether it was padded; none: NO_FIT (R166, R167). -/
def convBuild (s : State) (r n : Nat) (j : Job) : Option (List Byte × Bool) :=
  let f := j.data
  let cfg := rd s (R.SGE_CONV_CFG r)
  let out := fld cfg 30 28
  let xl := busFormat f == 4
  let sec := xl && (hdrWord f 1).testBit 28
  let payload := if busRtr f then [] else busData f
  if (busRtr f && decide (1 < out)) || (sec && out != 4) || !canModeAllows s (20 + n) out then none else
  (convIdOn s r n f).bind (fun id => (convPad out (payload.length + j.trailer.length) (cfg.testBit 25)).map (fun pad =>
    let data := payload ++ List.replicate pad (BitVec.ofNat 8 (fld cfg 7 0)) ++ j.trailer
    let af := if out = 4 then (if xl then hdrWord f 2 else 0)
      else if out ≤ 1 then (if busRtr f then hdrWord f 2 % 16 else data.length) else 0
    let fd := out == 2 || out == 3
    (busFrame out id (busRtr f) (fd && cfg.testBit 26) false sec (if out = 4 then fld cfg 23 16 else 0)
      (if out = 4 then fld cfg 15 8 else 0) af 0 data, decide (0 < pad))))

/-- One copy of a converted frame (R168). -/
def convCopy (j : Job) (p : Nat) (s : State) : State :=
  match convBuild s j.v.bridgeIdx (p - 20) j with
  | none => convNoFit p s
  | some (f, padded) =>
    let s := inc s (R.SGE_CONV_CNT (p - 20) 0)
    let s := if padded || j.padded then inc s (R.SGE_CONV_CNT (p - 20) 2) else s
    builtFrame true f (2 ^ p) j.tc j.v.maxAge true false s

/-- What execCanConvert does. -/
def canConvertDo (cells mem : Ecc) (s : State) : State :=
  let t := jobTake 1 cells mem s
  match t.1 with
  | none => t.2
  | some j => forEach ((bitsOf j.v.dest 36).filter isCanPort) (convCopy j) t.2

/-- CAN_CONVERT. -/
def execCanConvert (s : State) (cells mem : Ecc := .ok) : Host.Outcome State Fault Refusal :=
  run s (.canConvert cells mem)
    (canConvertDo cells mem s)

-- Capsules (R170 to R173) ------------------------------------------------------------------------------------------

/-- bus_id of a source port. -/
def busIdOf (p : Nat) : Nat := if isCanPort p then p - 20 else if isLinPort p then p - 36 else 0

/-- What execEncapMessage does. -/
def encapMessageDo (cells mem : Ecc) (s : State) : State :=
  let t := jobTake 2 cells mem s
  match t.1 with
  | none => t.2
  | some j =>
    encBus j.v.bridgeIdx (busIdOf j.src) j.v.dest j.tc j.v.maxAge j.data (busData j.data ++ j.trailer) (rxFull t.2 j.data) t.2

/-- ENCAP_MESSAGE. -/
def execEncapMessage (s : State) (cells mem : Ecc := .ok) : Host.Outcome State Fault Refusal :=
  run s (.encapMessage cells mem)
    (encapMessageDo cells mem s)

/-- A bus frame waits at this instant to become a message of record e, and fits its open frame: it is added first (R172). -/
def encWaits (s : State) (e : Nat) : Bool :=
  s.pending.any (fun c => match c with
    | .encapMessage _ _ => true
    | _ => false) &&
  (s.sge.jobs.getD 2 []).head?.any (fun j => j.v.bridgeIdx == e && !j.tailMark && (busFormat j.data == 4) == (encKind s e == 2) &&
    (s.sge.encOpen.get? e).any (fun o => decide (o.bytes.length +
      (encMessage s e (busIdOf j.src) j.data (busData j.data ++ j.trailer) (rxFull s j.data)).length ≤ rdf s (R.SGE_ENC_CFG e) 10 0)))

/-- ENCAP_WINDOW_EXPIRE: WINDOW_US has passed since the first message of record e's open frame; a message of the same instant
that fits is added first (R172). -/
def execEncapWindowExpire (e : Nat) (s : State) : Host.Outcome State Fault Refusal :=
  run s (.encapWindowExpire e)
    (if !recStopped s 2 e && encDue s e && !encWaits s e then encClose e 3 s else s)

-- Unpacking (R174, R175) ------------------------------------------------------------------------------------------

/-- A malformed or unmapped message. -/
def unpErr (u k : Nat) (s : State) : State := raise 225 (inc s (R.SGE_UNP_CNT u k))

/-- A bus frame taken out of a message with bus_id b enters the pipeline on its mapped port. -/
def unpBus (u b : Nat) (f : List Byte) (s : State) : State :=
  let p := rdf s (R.SGE_UNP_MAP u b) 5 0
  if p = 0x3F then unpErr u 3 s else ingBus p f none (inc s (R.SGE_UNP_CNT u 1)) true

/-- RX_TIME of a frame that enters now. -/
def rxNow (s : State) : Nat := s.globalNs % 0x100000000

/-- One ACF message of `len` bytes. -/
def unpAcf (u : Nat) (m : List Byte) (s : State) : State :=
  let ty := byteAt m 0 / 2
  let b2 := byteAt m 2
  let hdr := if ty = 1 then 16 else if ty = 2 then 8 else 12
  let data := (m.drop hdr).take (m.length - hdr - b2 / 64)
  if ty = 0 ∨ 3 < ty ∨ m.length < hdr then unpErr u 4 s
  else if ty = 3 then
    unpBus u (b2 % 32) (busFrame 5 (byteAt m 3 % 64) false false false false 0 0 0 (rxNow s) data) s
  else
    let fmt := (if b2.testBit 1 then 2 else 0) + (if b2.testBit 3 then 1 else 0)
    let rtr := b2.testBit 4 && decide (fmt ≤ 1)
    unpBus u (byteAt m 3 % 32) (busFrame fmt (beAt m (hdr - 4) 4 % 2 ^ 29) rtr (b2.testBit 2) (b2.testBit 0) false 0 0
      (if fmt ≤ 1 then data.length else 0) (rxNow s) data) s

/-- One XL capsule entry. -/
def unpXl (u : Nat) (m : List Byte) (s : State) : State :=
  let w0 := beAt m 0 4
  let w1 := beAt m 4 4
  let n := beAt m 12 4 % 0x800 + 1
  if w0 / 2 ^ 28 ≠ 1 ∨ m.length < 24 + n then unpErr u 4 s
  else unpBus u (fld w0 27 23) (busFrame 4 (w1 / 2 ^ 21) false false false (w0.testBit 21) (fld w1 18 11) (fld w1 10 3)
    (beAt m 8 4) (rxNow s) (slice m 24 n)) s

/-- The messages of a payload in order; `fuel` is the payload's length. -/
def unpAll (u : Nat) (xl : Bool) : Nat → List Byte → State → State
  | 0, _, s => s
  | n + 1, b, s =>
    if b.isEmpty then s else
    let len := (if xl then beAt b 0 4 % 0x1000 else beAt b 0 2 % 512) * 4
    if len = 0 ∨ b.length < len then unpErr u 4 s
    else unpAll u xl n (b.drop len) (if xl then unpXl u (b.take len) s else unpAcf u (b.take len) s)

/-- sequence_num is compared with the one expected (R175). -/
def unpSeq (u seq : Nat) (s : State) : State :=
  let a := R.SGE_UNP_CFG u
  let gap := rdb s a 7 && rdf s a 15 8 != seq
  let s := wrf (wrf s a 15 8 (seq + 1)) a 7 7 1
  if gap then raise 226 (inc s (R.SGE_UNP_CNT u 2)) else s

/-- Offset of the IEEE 1722 subtype in an Ethernet frame: behind EtherType 0x22F0, which follows the VLAN tags and an R-TAG;
none where the frame is no IEEE 1722 frame. -/
def avtpAt (b : List Byte) : Option Nat :=
  let o := if beAt b (tagOff b) 2 = 0xF1C1 then tagOff b + 6 else tagOff b
  if beAt b o 2 = 0x22F0 then some (o + 2) else none

/-- The messages of an IEEE 1722 frame of the record's kind, whose subtype stands at o: of the length that its header gives,
none of its FCS (R171, R174). -/
def avtpBody (kind o : Nat) (b : List Byte) : List Byte :=
  let n := if kind = 0 then beAt b (o + 1) 2 % 0x800 else beAt b (o + 20) 2
  if kind = 0 then slice (dropFcs b) (o + 12) n else if kind = 1 then slice (dropFcs b) (o + 24) n
  else slice (dropFcs b) (o + 30) (n - 6)

/-- What execUnpack1722 does. -/
def unpack1722Do (cells mem : Ecc) (s : State) : State :=
  let t := jobTake 3 cells mem s
  match t.1 with
  | none => t.2
  | some j =>
    let u := j.v.bridgeIdx
    let o := (avtpAt j.data).getD 0
    let st := byteAt j.data o
    let kind := rdf t.2 (R.SGE_UNP_CFG u) 30 29
    let s := inc t.2 (R.SGE_UNP_CNT u 0)
    if avtpAt j.data = none ∨ st ≠ (if kind = 0 then 0x82 else if kind = 1 then 0x05 else 0x6F) then unpErr u 4 s else
    let s := unpSeq u (byteAt j.data (if kind = 0 then o + 3 else o + 2)) s
    let b := avtpBody kind o j.data
    unpAll u (kind == 2) b.length b s

/-- UNPACK_1722. -/
def execUnpack1722 (s : State) (cells mem : Ecc := .ok) : Host.Outcome State Fault Refusal :=
  run s (.unpack1722 cells mem)
    (unpack1722Do cells mem s)

-- Signal engine: buffers and bits (R178, R179) --------------------------------------------------------------------

def pduRun (s : State) (l : Nat) : PduRun := s.sge.pdu.getD l ⟨none, false, none, none, none, none⟩
def setPdu (l : Nat) (x : PduRun) (s : State) : State := { s with sge := { s.sge with pdu := s.sge.pdu.put l x } }

def pduLen (s : State) (l : Nat) : Nat := rdf s (R.SGE_PDU_CFG l) 11 0

/-- Layout l's transmit buffer. -/
def pduBuf (s : State) (l : Nat) : List Byte :=
  ((List.range (ceilDiv (pduLen s l) 4)).map (fun w => leBytes (rd s (R.SGE_PDU_DATA l + 4 * w)) 4)).flatten.take (pduLen s l)

def pduWords (l w : Nat) : Nat → List Byte → State → State
  | 0, _, s => s
  | n + 1, b, s => pduWords l (w + 1) n (b.drop 4) (wr s (R.SGE_PDU_DATA l + 4 * w) (leAt b 0 4))

def setPduBuf (l : Nat) (b : List Byte) (s : State) : State := pduWords l 0 (ceilDiv b.length 4) b s

/-- Motorola order: the bit that follows `k` downwards, `n` times. -/
def motorola (k : Nat) : Nat → Nat
  | 0 => k
  | n + 1 => motorola (if k % 8 ≠ 0 then k - 1 else k + 15) n

/-- Position of bit j of a signal; j = 0 is the least significant. -/
def sigPos (start j : Nat) (mot : Bool) (len : Nat) : Nat := if mot then motorola start (len - 1 - j) else start + j

def bitOf (b : List Byte) (k : Nat) : Bool := (byteAt b (k / 8)).testBit (k % 8)

def setBitOf (k : Nat) (v : Bool) (b : List Byte) : List Byte :=
  if k / 8 < b.length then setNth b (k / 8) (BitVec.ofNat 8 (putFld (byteAt b (k / 8)) (k % 8) (k % 8) (if v then 1 else 0))) else b

/-- The raw value of a signal; none: absent. -/
def sigRead (src : List Byte) (start : Nat) (mot : Bool) (len : Nat) : Option Nat :=
  let ps := (List.range len).map (fun j => sigPos start j mot len)
  if ps.any (fun k => decide (src.length * 8 ≤ k)) then none
  else some (((List.range len).filter (fun j => bitOf src (sigPos start j mot len))).foldl (fun a j => a + 2 ^ j) 0)

def sigWrite (start : Nat) (mot : Bool) (len v : Nat) (b : List Byte) : List Byte :=
  (List.range len).foldl (fun b j => setBitOf (sigPos start j mot len) (v.testBit j) b) b

def signExt (v len : Nat) : Int := if v.testBit (len - 1) then (v : Int) - (2 ^ len : Nat) else v
def signed64 (v : Nat) : Int := signExt v 64

/-- Value that route i writes for a raw value (R178), modulo 2⁶⁴. -/
def routeValue (s : State) (i raw : Nat) : Nat :=
  let ops := rd s (R.SGE_ROUTE_OPS i)
  let k := s.sge.routeK.getD i ⟨0, 0, 0, 0, 0⟩
  let sg := rdb s (R.SGE_ROUTE_SRC i) 29
  let slen := fld ops 31 26 + 1
  if ops.testBit 18 ∧ raw = k.matched then k.subst
  else
    let v : Int := if sg then signExt raw slen else raw
    let v := if ops.testBit 19 then
        (if sg then min (max v (signed64 k.lo)) (signed64 k.hi) else min (max v k.lo) k.hi)
      else v
    (v % (2 ^ 64 : Nat)).toNat

/-- Write a value into route i's destination. -/
def routeWrite (i v : Nat) (s : State) : State :=
  let d := rd s (R.SGE_ROUTE_DST i)
  let l := fld d 24 14
  setPduBuf l (sigWrite (fld d 13 0) (d.testBit 30) (rdf s (R.SGE_ROUTE_OPS i) 25 20 + 1) v (pduBuf s l)) s

/-- Apply route i to a source (R178); an absent signal leaves its destination. -/
def routeApply (i : Nat) (src : List Byte) (s : State) : State :=
  let w := rd s (R.SGE_ROUTE_SRC i)
  match sigRead src (fld w 13 0) (w.testBit 30) (rdf s (R.SGE_ROUTE_OPS i) 31 26 + 1) with
  | none => s
  | some raw => routeWrite i (routeValue s i raw) s

/-- Active routes of source layout l, in index order. -/
def routesOf (s : State) (l : Nat) : List Nat :=
  (s.sge.routeK.map Prod.fst).filter (fun i => rdb s (R.SGE_ROUTE_SRC i) 31 && rdf s (R.SGE_ROUTE_SRC i) 24 14 == l)

/-- Route operations counted towards SGE_OPS. -/
def opsCount (n : Nat) (s : State) : State :=
  let ms := msOf s
  if s.sge.opsMs = ms then { s with sge := { s.sge with ops := s.sge.ops + n } }
  else wr { s with sge := { s.sge with ops := n, opsMs := ms } } R.SGE_OPS (if s.sge.opsMs + 1 = ms then s.sge.ops else 0)

-- Transmit layouts (R180) -----------------------------------------------------------------------------------------

/-- BRS of a frame whose builder the spec gives none: a free value for FD formats. -/
def freeBrs (fmt : Nat) (s : State) : Bool × State :=
  if fmt = 2 ∨ fmt = 3 then ((free s).1 % 2 == 1, (free s).2) else (false, s)

/-- Send layout l's buffer now; `due` is the periodic due time it serves. -/
def pduSend (l : Nat) (due : Option Nat) (s : State) : State :=
  let cfg := rd s (R.SGE_PDU_CFG l)
  let x := s.sge.pduX.getD l ⟨0, 0, none, 0, 0, []⟩
  let data := pduBuf s l
  let late := match due with
    | some d => decide (d + rdf s (R.SGE_PDU_TIME l) 31 16 * 100000 < s.devNs)
    | none => false
  let s := if late then raise 230 (inc s (R.SGE_PDU_CNT l 2)) else s
  let s := setPdu l { pduRun s l with lastTx := some s.devNs, deferred := false, dueNs := none } s
  let s := wrf (inc s (R.SGE_PDU_CNT l 0)) (R.SGE_PDU_STATE l) 31 31 1
  let b := freeBrs x.fmt s
  let f := busFrame x.fmt x.ident false b.1 false false 0 0 (if x.fmt ≤ 1 then data.length else 0) 0 data
  let s := b.2
  let tc := fld cfg 26 24
  if fld cfg 21 16 = 0x3F then
    -- the spec gives this frame no destination set: a free value among ports 0 to 18
    let d := free s
    match x.domain with
    | some dom => sealBuilt none (some l) f (d.1 % 2 ^ 19) tc dom d.2
    | none => msgSend l f (d.1 % 2 ^ 19) tc d.2
  else match x.domain with
    | some dom => sealBuilt none none f (2 ^ fld cfg 21 16) tc dom s
    | none => builtFrame true f (2 ^ fld cfg 21 16) tc 0 false false s

/-- A trigger of layout l fires: sent, or deferred to the end of the gap. -/
def pduFire (l : Nat) (due : Option Nat) (s : State) : State :=
  let r := pduRun s l
  let gap := rdf s (R.SGE_PDU_GAP l) 15 0 * 1000
  let inGap := match r.lastTx with
    | some t => decide (s.devNs < t + gap)
    | none => false
  if inGap then setPdu l { r with deferred := true, dueNs := if r.dueNs.isSome then r.dueNs else due } s else pduSend l due s

/-- Triggers of the layouts that a group touched: `old` holds their buffers before it. -/
def pduTriggers (rs : List Nat) (old : List (Nat × List Byte)) (s : State) : State :=
  forEach old (fun x s =>
    let cfg := rd s (R.SGE_PDU_CFG x.1)
    let event := rs.any (fun i => rdb s (R.SGE_ROUTE_SRC i) 28 && rdf s (R.SGE_ROUTE_DST i) 24 14 == x.1)
    if (cfg.testBit 28 && pduBuf s x.1 != x.2) || (cfg.testBit 27 && event) then pduFire x.1 none s else s) s

/-- Apply a group: `f` per route, then the triggers of what it touched (R179, R180). -/
def groupApply (rs : List Nat) (f : Nat → State → State) (s : State) : State :=
  let ls := (rs.map (fun i => rdf s (R.SGE_ROUTE_DST i) 24 14)).dedup
  let old := ls.map (fun l => (l, pduBuf s l))
  pduTriggers rs old (opsCount rs.length (forEach rs f s))

/-- Layout l's next periodic transmission while its port is UP, device time (R181). -/
def pduDue (s : State) (l : Nat) : Option Nat :=
  let cfg := rd s (R.SGE_PDU_CFG l)
  let p := fld cfg 21 16
  let per := rdf s (R.SGE_PDU_TIME l) 31 16 * 1000000
  -- the rules start afresh after Doze (R186)
  let up := max s.sge.freshNs (if p = 0x3F then s.survey.loadNs else s.pool.upNs.getD p 0)
  let first := up + per + rdf s (R.SGE_PDU_GAP l) 31 16 * 1000
  if cfg.testBit 31 ∧ cfg.testBit 30 ∧ cfg.testBit 29 ∧ (p = 0x3F ∨ linkState s p = 0) then
    match (pduRun s l).periodNs with
    | some t => some (if t < up then first else t + per)
    | none => some first
  else none

/-- What execPduPeriodicTx does. -/
def pduPeriodicTxDo (l : Nat) (due : Nat) (s : State) : State :=
  pduFire l (some due) (setPdu l { pduRun s l with periodNs := some due } s)

/-- PDU_PERIODIC_TX: layout l's periodic trigger is due. -/
def execPduPeriodicTx (l : Nat) (s : State) : Host.Outcome State Fault Refusal :=
  run s (.pduPeriodicTx l)
    (match pduDue s l with
     | none => s
     | some due =>
     if due ≤ s.devNs then pduPeriodicTxDo l due s else s)

/-- What execPduGapEnd does. -/
def pduGapEndDo (l : Nat) (s : State) : State :=
  let r := pduRun s l
  if r.deferred && decide (r.lastTx.getD 0 + rdf s (R.SGE_PDU_GAP l) 15 0 * 1000 ≤ s.devNs) then pduSend l r.dueNs s else s

/-- PDU_GAP_END: the gap ends, and what was deferred in it is sent once. -/
def execPduGapEnd (l : Nat) (s : State) : Host.Outcome State Fault Refusal :=
  run s (.pduGapEnd l)
    (pduGapEndDo l s)

-- Receive layouts and threads (R177, R181) ------------------------------------------------------------------------

/-- Thread t's register. -/
def threadReg (t : Nat) (s : State) : State :=
  let n := (s.sge.threads.getD t []).length
  wr s (R.SGE_THREAD t) ((if 0 < n then 0x80 else 0) + n)

/-- The condition of layout l's receive timer: its source port, the layout's TARGET, is UP and awake. -/
def rxPortUp (s : State) (l : Nat) : Bool :=
  let p := rdf s (R.SGE_PDU_CFG l) 21 16
  p == 0x3F || (linkState s p == 0 && !segDown s p)

/-- Device time since which layout l's receive timer runs: the last reception, or the begin of its port's present time UP
and awake, for a layout of no port of the load or the wake (R186); none where it stands still, or has expired since
(R181). -/
def rxSince (s : State) (l : Nat) : Option Nat :=
  let cfg := rd s (R.SGE_PDU_CFG l)
  let p := fld cfg 21 16
  let t := max ((pduRun s l).rxNs.getD 0) (max s.sge.freshNs (if p = 0x3F then s.survey.loadNs else s.pool.upNs.getD p 0))
  if cfg.testBit 31 && !cfg.testBit 30 && rdf s (R.SGE_PDU_TIME l) 31 16 != 0 && rxPortUp s l &&
      (pduRun s l).expiredNs.all (fun e => decide (e ≤ t)) then some t else none

/-- TIMER_RUN of layout l follows its timer. -/
def rxShow (l : Nat) (s : State) : State :=
  wrf s (R.SGE_PDU_STATE l) 29 29 (if (rxSince s l).isSome then 1 else 0)

/-- A valid reception for layout l: queued to its thread, or OVERRUN. -/
def sigQueue (l : Nat) (data : List Byte) (s : State) : State :=
  let t := l % 16
  let q := s.sge.threads.getD t []
  if 64 ≤ q.length then raise 229 (inc s (R.SGE_PDU_CNT l 3)) else
  let s := { s with sge := { s.sge with threads := s.sge.threads.put t (q ++ [⟨l, data⟩]) } }
  let a := R.SGE_PDU_STATE l
  let s := if rdb s a 30 then raise 228 (wrf s a 30 30 0) else s
  let s := rxShow l (setPdu l { pduRun s l with rxNs := some s.devNs } (wrf s a 31 31 1))
  threadReg t (inc s (R.SGE_PDU_CNT l 0))

/-- What execSignalFrame does. -/
def signalFrameDo (cells mem : Ecc) (s : State) : State :=
  let t := jobTake 4 cells mem s
  match t.1 with
  | none => t.2
  | some j =>
    let l := j.v.bridgeIdx
    let n := pduLen t.2 l
    sigQueue l (if j.bus then (busData j.data ++ j.trailer).take n else slice j.data (rdf t.2 (R.SGE_PDU_TIME l) 10 0) n) t.2

/-- SIGNAL_FRAME. -/
def execSignalFrame (s : State) (cells mem : Ecc := .ok) : Host.Outcome State Fault Refusal :=
  run s (.signalFrame cells mem)
    (signalFrameDo cells mem s)

/-- What execSignalGroupApply does. -/
def signalGroupApplyDo (t : Nat) (ecc : Ecc) (s : State) : State :=
  if ecc = .multi then raiseLine 239 53 { s with sge := { s.sge with stopped := s.sge.stopped ||| 2 ^ t } }
  else
    let s := sgeEcc ecc s
    match s.sge.threads.getD t [] with
    | [] => s
    | x :: rest =>
      let s := threadReg t { s with sge := { s.sge with threads := s.sge.threads.set t rest [] } }
      groupApply (routesOf s x.layout) (fun i s => routeApply i x.data s) s

/-- SIGNAL_GROUP_APPLY: thread t applies its oldest frame; a multi-bit memory error stops the thread (R179, R187). -/
def execSignalGroupApply (t : Nat) (ecc : Ecc) (s : State) : Host.Outcome State Fault Refusal :=
  run s (.signalGroupApply t ecc)
    (if s.sge.stopped.testBit t then s else
     signalGroupApplyDo t ecc s)

/-- What execPduRxTimeout does. -/
def pduRxTimeoutDo (l : Nat) (s : State) : State :=
  if (rxSince s l).any (fun t => decide (t + rdf s (R.SGE_PDU_TIME l) 31 16 * 1000000 ≤ s.devNs)) then
    let s := rxShow l (setPdu l { pduRun s l with expiredNs := some s.devNs } (wrf s (R.SGE_PDU_STATE l) 30 30 1))
    let rs := (routesOf s l).filter (fun i => rdb s (R.SGE_ROUTE_OPS i) 17)
    let s := groupApply rs (fun i s => routeWrite i (s.sge.routeK.getD i ⟨0, 0, 0, 0, 0⟩).timeout s) s
    raise 227 (inc s (R.SGE_PDU_CNT l 1))
  else s

/-- PDU_RX_TIMEOUT: TIMEOUT_MS have passed without a valid reception of layout l (R181). -/
def execPduRxTimeout (l : Nat) (s : State) : Host.Outcome State Fault Refusal :=
  run s (.pduRxTimeout l)
    (pduRxTimeoutDo l s)

-- J1939 frames ----------------------------------------------------------------------------------------------------

/-- A 29-bit identifier: priority, PDU format, PDU specific, source address. -/
def jId (prio pf ps sa : Nat) : Nat := prio * 2 ^ 26 + pf * 2 ^ 16 + ps * 256 + sa

/-- Send an 8-byte frame on CAN port p, with the maximum age of its verdict, 0 where it has none (R162). -/
def jSend (p tc age id : Nat) (data : List Byte) (s : State) : State :=
  builtFrame true (busFrame 1 id false false false false 0 0 8 0 data) (2 ^ p) tc age true false s

-- Transport sessions (R182 to R184) -------------------------------------------------------------------------------

/-- Connection management PDU formats: TP.CM, ETP.CM; data transfer TP.DT, ETP.DT. -/
def tpCm (etp : Bool) : Nat := if etp then 0xC8 else 0xEC
def tpDt (etp : Bool) : Nat := if etp then 0xC7 else 0xEB

/-- Counter k (0 STARTED, 1 DONE, 2 ABORTED, 3 NO_SESSION) of a protocol, with its event. -/
def tpCount (etp : Bool) (k : Nat) (s : State) : State :=
  let s := inc s (R.SGE_TP_CNT (k + if etp then 4 else 0))
  if k = 2 then raise 232 s else if k = 3 then raise 233 s else s

/-- Show session x's state in its registers. -/
def tpReg (x : Nat) (s : State) : State :=
  match s.sge.tp.get? x with
  | none => forEach [0, 4, 8, 12] (fun o s => wr s (R.SGE_TP_SESS x + o) 0) s
  | some t =>
    let s := wr s (R.SGE_TP_SESS x) (t.st * 2 ^ 28 + t.port * 2 ^ 22 + t.sa * 256 + t.da)
    let s := wr (wr s (R.SGE_TP_SESS_4 x) t.pgn) (R.SGE_TP_SESS_C x) t.size
    wr s (R.SGE_TP_SESS_8 x) (if t.st = 4 then min t.size ((t.next - 1) * 7) else t.data.length)

def tpPut (x : Nat) (t : TpSess) (s : State) : State := tpReg x { s with sge := { s.sge with tp := s.sge.tp.put x t } }
def tpEnd (x : Nat) (s : State) : State := tpReg x { s with sge := { s.sge with tp := s.sge.tp.del x } }

/-- A free session of a protocol. -/
def tpFree (s : State) (etp : Bool) : Option Nat :=
  (if etp then List.range' 64 4 else List.range 64).find? (fun x => (s.sge.tp.get? x).isNone)

/-- The session that matches a port and addresses. -/
def tpFind (s : State) (f : TpSess → Bool) : Option (Nat × TpSess) := s.sge.tp.find? (fun x => f x.2)

/-- A connection management frame from `sa` to `da`. -/
def tpCtl (etp : Bool) (p tc age prio sa da : Nat) (ctl : List Byte) (pgn : Nat) (s : State) : State :=
  jSend p tc age (jId prio (tpCm etp) da sa) (ctl ++ leBytes pgn 3) s

/-- Connection Abort with a reason, sent by `own` to `peer`. -/
def tpAbortMsg (etp : Bool) (p tc age own peer reason pgn : Nat) (s : State) : State :=
  tpCtl etp p tc age 7 own peer [0xFF, BitVec.ofNat 8 reason, 0xFF, 0xFF, 0xFF] pgn s

/-- Session x ends ABORTED, with a Connection Abort where the module takes part and a reason is given. -/
def tpAbort (x : Nat) (t : TpSess) (reason : Option Nat) (s : State) : State :=
  let s := tpCount t.etp 2 (tpEnd x s)
  match reason with
  | none => s
  | some r =>
    if t.st = 4 then (if t.da = 255 then s else tpAbortMsg t.etp t.port t.tc t.maxAge t.sa t.da r t.pgn s)
    else if t.answer then tpAbortMsg t.etp t.port t.tc t.maxAge t.da t.sa r t.pgn s else s

def msNs (n : Nat) : Nat := n * 1000000

/-- Number of packets of a message. -/
def tpPackets (size : Nat) : Nat := ceilDiv size 7

/-- Session x asks for its next packets (R182). -/
def tpCts (x : Nat) (t : TpSess) (s : State) : State :=
  let n := min (min (rdf s (R.SGE_TP_CFG t.record) 26 23 + 1) t.limit) (tpPackets t.size + 1 - t.next)
  let t := { t with windowEnd := t.next + n - 1, timerNs := s.devNs + msNs 1250 }
  let s := tpPut x t s
  if t.etp then tpCtl true t.port t.tc t.maxAge 7 t.da t.sa ([21] ++ leBytes n 1 ++ leBytes t.next 3) t.pgn s
  else tpCtl false t.port t.tc t.maxAge 7 t.da t.sa ([17] ++ leBytes n 1 ++ leBytes t.next 1 ++ [0xFF, 0xFF]) t.pgn s

/-- The lowest-numbered TRANSPORT ring. -/
def tpRing (s : State) : Option Nat :=
  (List.range 64).find? (fun k => rdb s (R.HDMA_RING_CFG k) 31 && rdf s (R.HDMA_RING_CFG k) 29 28 == 2)

/-- Place a message on ring k's next descriptor (R463, R466, R468). -/
def msgWrite (k : Nat) (b : List Byte) (etp : Bool) (s : State) : State :=
  let d := ringDesc s k
  if d.2.1 < b.length then
    flightPlace k ⟨none, 0x0E, 2, 0, 18, b.length, 0, true, 0, [], 0, etp⟩ 0 (raise 498 (inc s (R.HDMA_RING_CNT k 2)))
  else flightPlace k ⟨none, 0, 2, 0, 18, b.length, 0, true, d.1, b, 0, etp⟩ (hostNs b.length) s

/-- Write the messages that wait, as descriptors allow; a ring that is disabled or missing aborts them (R463). -/
def msgDrain : List (List Byte × Nat × Bool) → State → State
  | [], s => { s with host := { s.host with msgs := [] } }
  | m :: t, s =>
    match tpRing s with
    | none => msgDrain t (tpCount m.2.2 2 s)
    | some k =>
      let c := ringClean k (ringFree s k) s
      let s := if c.1 then raise 499 c.2 else s
      if !ringRunning s k then msgDrain t (tpCount m.2.2 2 s)
      else if ringFree s k = 0 then { s with host := { s.host with msgs := m :: t } }
      else msgDrain t (msgWrite k m.1 m.2.2 s)

/-- A completed message is sent again on channel port p (R184 RESEGMENT). -/
def tpResend (p : Nat) (t : TpSess) (s : State) : State :=
  match j1939Addr s (p - 20), tpFree s t.etp with
  | some own, some x =>
    let bam := t.da == 255 && !t.etp
    let n : TpSess := { t with
      port := p, sa := own, st := 4, answer := true, next := 1, windowEnd := 0, offset := 0
      timerNs := s.devNs + (if bam then msNs (s.sge.tpGap.getD t.record 50) else msNs 1250) }
    let s := tpPut x n s
    if t.etp then tpCtl true p t.tc t.maxAge 7 own t.da ([20] ++ leBytes t.size 4) t.pgn s
    else tpCtl false p t.tc t.maxAge 7 own t.da ([if bam then 32 else 16] ++ leBytes t.size 2 ++ leBytes (tpPackets t.size) 1 ++ [0xFF]) t.pgn s
  | _, _ => tpCount t.etp 2 s

/-- A completed message goes to its record's output (R184). -/
def tpOutput (t : TpSess) (s : State) : State :=
  match rdf s (R.SGE_TP_CFG t.record) 28 27 with
  | 0 =>
    let b := padTo ((Config.tpHeader t.pgn t.sa t.da t.prio t.port t.size t.firstNs).take 16) 16 ++ t.data
    let s := if t.dest.testBit 18 then msgDrain (s.host.msgs ++ [(b, s.devNs, t.etp)]) s else s
    if t.dest.testBit 19 && !t.etp then builtFrame false b (2 ^ 19) t.tc t.maxAge false false s else s
  | 1 => forEach ((bitsOf t.dest 36).filter isCanPort) (fun p s => tpResend p t s) s
  | _ =>
    let l := rdf s (R.SGE_TP_CFG t.record) 10 0
    sigQueue l (t.data.take (pduLen s l)) s

/-- Session x has all its bytes. -/
def tpDone (x : Nat) (t : TpSess) (s : State) : State :=
  let t := { t with data := t.data.take t.size }
  let s := tpCount t.etp 1 (tpEnd x s)
  let s := if !t.answer then s
    else if t.etp then tpCtl true t.port t.tc t.maxAge 7 t.da t.sa ([23] ++ leBytes t.size 4) t.pgn s
    else tpCtl false t.port t.tc t.maxAge 7 t.da t.sa ([19] ++ leBytes t.size 2 ++ leBytes (tpPackets t.size) 1 ++ [0xFF]) t.pgn s
  tpOutput t s

/-- An RTS or BAM opens a session (R182, R183). -/
def tpOpen (j : Job) (etp bam : Bool) (sa da pgn size limit : Nat) (s : State) : State :=
  let rec' := j.v.bridgeIdx
  let own := if isCanPort j.src then j1939Addr s (j.src - 20) else none
  let wants := rdb s (R.SGE_TP_CFG rec') 29 && !bam
  let mine := wants && own == some da
  let s := match tpFind s (fun t => t.st != 4 && t.port == j.src && t.sa == sa && t.da == da && t.pgn == pgn) with
    | some (x, t) => tpAbort x t none s
    | none => s
  if wants && own.isNone then tpCount etp 3 s
  else if etp && decide (16777216 < size) then
    let s := tpCount true 3 s
    if mine then tpAbortMsg true j.src j.tc j.v.maxAge da sa 2 pgn s else s
  else if !etp && decide (size < 9 ∨ 1785 < size) then s
  else if etp && decide (size < 1786) then s
  else match tpFree s etp with
    | none =>
      let s := tpCount etp 3 s
      if mine then tpAbortMsg etp j.src j.tc j.v.maxAge da sa 1 pgn s else s
    | some x =>
      let t : TpSess := {
        record := rec', port := j.src, sa := sa, da := da, pgn := pgn, prio := fld (busIdent j.data) 28 26, etp := etp
        answer := mine, st := if bam then 1 else if etp then 3 else 2, size := size, data := [], next := 1
        windowEnd := if mine then 0 else tpPackets size, offset := 0, limit := if limit = 0 then 255 else limit
        timerNs := s.devNs + msNs (if bam then 750 else 1250), dest := j.v.dest, tc := j.tc, maxAge := j.v.maxAge
        firstNs := rxFull s j.data }
      let s := tpPut x t (tpCount etp 0 s)
      if mine then tpCts x t s else s

/-- A data packet of a session that is being received. -/
def tpData (etp : Bool) (src sa da : Nat) (b : List Byte) (s : State) : State :=
  match tpFind s (fun t => t.st != 4 && t.etp == etp && t.port == src && t.sa == sa && t.da == da) with
  | none => s
  | some (x, t) =>
    let n := byteAt b 0 + (if etp then t.offset else 0)
    if n ≠ t.next ∨ (t.answer = true ∧ t.windowEnd < n) then tpAbort x t (some (if n < t.next then 8 else 7)) s
    else
      let t := { t with data := t.data ++ padTo (slice b 1 7) 7, next := t.next + 1, timerNs := s.devNs + msNs 750 }
      if t.size ≤ t.data.length then tpDone x t s
      else if t.answer ∧ t.windowEnd < t.next then tpCts x t s
      else tpPut x { t with timerNs := s.devNs + msNs (if t.windowEnd < t.next then 1250 else 750) } s

/-- Send packets `from` on of a sending session. -/
def tpSendData (t : TpSess) : Nat → Nat → State → State
  | 0, _, s => s
  | n + 1, k, s =>
    let d := padTo (slice t.data ((k - 1) * 7) 7) 7
    let d := d.take (min 7 (t.size - (k - 1) * 7)) ++ List.replicate (7 - min 7 (t.size - (k - 1) * 7)) 0xFF
    tpSendData t n (k + 1)
      (jSend t.port t.tc t.maxAge (jId 7 (tpDt t.etp) t.da t.sa) (leBytes (k - t.offset) 1 ++ d) s)

/-- A CTS for a session: the module's own sending one answers it; a watched one goes back to the packet it names. -/
def tpCtsIn (etp : Bool) (src sa da pgn n k : Nat) (s : State) : State :=
  match tpFind s (fun t => t.st == 4 && t.etp == etp && t.port == src && t.sa == da && t.da == sa && t.pgn == pgn) with
  | some (x, t) =>
    if n = 0 then tpPut x { t with timerNs := s.devNs + msNs 1050 } s
    else
      let n := min n (tpPackets t.size + 1 - k)
      let t := { t with offset := if etp then k - 1 else 0, next := k + n, timerNs := s.devNs + msNs 1250 }
      let s := tpPut x t s
      let s := if etp then tpCtl true t.port t.tc t.maxAge 7 t.sa t.da ([22] ++ leBytes n 1 ++ leBytes t.offset 3) t.pgn s else s
      tpSendData t n k s
  | none =>
    match tpFind s (fun t => (t.st == 2 || t.st == 3) && !t.answer && t.etp == etp && t.port == src && t.sa == da && t.da == sa &&
        t.pgn == pgn) with
    | some (x, t) =>
      if n = 0 ∨ t.next < k then tpPut x { t with timerNs := s.devNs + msNs 1050 } s
      else tpPut x { t with next := k, data := t.data.take ((k - 1) * 7), timerNs := s.devNs + msNs 1250 } s
    | none => s

/-- End of message acknowledgement for a sending session. -/
def tpEom (etp : Bool) (src sa da pgn : Nat) (s : State) : State :=
  match tpFind s (fun t => t.st == 4 && t.etp == etp && t.port == src && t.sa == da && t.da == sa && t.pgn == pgn) with
  | some (x, t) => tpCount t.etp 1 (tpEnd x s)
  | none => s

/-- A Connection Abort of either end. -/
def tpAbortIn (etp : Bool) (src sa da pgn : Nat) (s : State) : State :=
  match tpFind s (fun t => t.etp == etp && t.port == src && t.pgn == pgn && ((t.sa == sa && t.da == da) || (t.sa == da && t.da == sa))) with
  | some (x, t) => tpAbort x t none s
  | none => s

/-- A transport frame (J1939-21, ISO 11783-3 ETP). -/
def tpFrame (j : Job) (s : State) : State :=
  let b := busData j.data
  let id := busIdent j.data
  let pf := fld id 23 16
  let da := fld id 15 8
  let sa := fld id 7 0
  let cfg := R.SGE_TP_CFG j.v.bridgeIdx
  let etp := rdb s cfg 30
  let pgn := leAt b 5 3
  let pg := R.SGE_TP_PGN j.v.bridgeIdx
  let wanted := !rdb s pg 31 || rdf s pg 17 0 == pgn
  if busFormat j.data ≠ 1 ∨ !rdb s cfg 31 then s
  else if pf = tpDt etp then tpData etp j.src sa da b s
  else if pf ≠ tpCm etp then s
  else match etp, byteAt b 0 with
    | false, 16 => if wanted then tpOpen j false false sa da pgn (leAt b 1 2) (byteAt b 4) s else s
    | false, 32 => if wanted then tpOpen j false true sa da pgn (leAt b 1 2) 255 s else s
    | false, 17 => tpCtsIn false j.src sa da pgn (byteAt b 1) (byteAt b 2) s
    | false, 19 => tpEom false j.src sa da pgn s
    | true, 20 => if wanted then tpOpen j true false sa da pgn (leAt b 1 4) 255 s else s
    | true, 21 => tpCtsIn true j.src sa da pgn (byteAt b 1) (leAt b 2 3) s
    | true, 22 =>
      match tpFind s (fun t => t.st == 3 && t.port == j.src && t.sa == sa && t.da == da && t.pgn == pgn) with
      | some (x, t) => tpPut x { t with offset := leAt b 2 3, timerNs := s.devNs + msNs 750 } s
      | none => s
    | true, 23 => tpEom true j.src sa da pgn s
    | _, 255 => tpAbortIn etp j.src sa da pgn s
    | _, _ => s

/-- What execTransportPacket does. -/
def transportPacketDo (cells mem : Ecc) (s : State) : State :=
  let t := jobTake 5 cells mem s
  match t.1 with
  | none => t.2
  | some j => tpFrame j t.2

/-- TRANSPORT_PACKET. -/
def execTransportPacket (s : State) (cells mem : Ecc := .ok) : Host.Outcome State Fault Refusal :=
  run s (.transportPacket cells mem)
    (transportPacketDo cells mem s)

/-- A session's timer runs; a BAM that the module sends is paced by TP_BAM_PACKET instead. -/
def tpTimed (t : TpSess) : Bool := !(t.st == 4 && t.da == 255)

/-- TP_TIMER_EXPIRE (R183). -/
def execTpTimerExpire (sess : Nat) (s : State) : Host.Outcome State Fault Refusal :=
  run s (.tpTimerExpire sess)
    (match s.sge.tp.get? sess with
     | none => s
     | some t =>
     if tpTimed t && !recStopped s 5 t.record && decide (t.timerNs ≤ s.devNs) then tpAbort sess t (some 3) s else s)

/-- What execTpBamPacket does. -/
def tpBamPacketDo (sess : Nat) (t : TpSess) (s : State) : State :=
  let s := tpSendData t 1 t.next s
  if tpPackets t.size ≤ t.next then tpCount false 1 (tpEnd sess s)
  else tpPut sess { t with next := t.next + 1, timerNs := s.devNs + msNs (s.sge.tpGap.getD t.record 50) } s

/-- TP_BAM_PACKET: the next packet of a resegmented BAM, BAM_GAP_MS after the last (R184). -/
def execTpBamPacket (sess : Nat) (s : State) : Host.Outcome State Fault Refusal :=
  run s (.tpBamPacket sess)
    (match s.sge.tp.get? sess with
     | none => s
     | some t =>
     if t.st = 4 ∧ t.da = 255 ∧ recStopped s 5 t.record = false ∧ t.timerNs ≤ s.devNs then tpBamPacketDo sess t s else s)

-- J1939 identity (R185) -------------------------------------------------------------------------------------------

def j1939 (s : State) (n : Nat) : J1939 := s.sge.j1939.getD n ⟨1, 0, 0xFE, 0, []⟩

def setJ1939 (n : Nat) (x : J1939) (s : State) : State := { s with sge := { s.sge with j1939 := s.sge.j1939.put n x } }

/-- Address Claimed (or Cannot Claim with address 254), to the global address; its class is a free value. -/
def jClaimSend (n a : Nat) (s : State) : State :=
  let f := free s
  jSend (20 + n) (f.1 % 8) 0 (jId 6 0xEE 0xFF a) (leBytes (cnt f.2 (R.SGE_J1939_NAME n)) 8) f.2

/-- Channel n claims address a: used 250 ms later. -/
def jClaim (n a : Nat) (s : State) : State :=
  let s := setJ1939 n { j1939 s n with candidate := a, claimNs := s.devNs } s
  jClaimSend n a (wrf (wrf s (R.SGE_J1939 n) 30 28 1) (R.SGE_J1939 n) 7 0 0xFE)

/-- The claim when the channel is enabled, and each time its segment wakes. -/
def jStart (n : Nat) (s : State) : State :=
  if rdb s (R.SGE_J1939 n) 31 ∧ rdf s (R.SGE_J1939 n) 30 28 = 0 then jClaim n (rdf s (R.SGE_J1939 n) 15 8) s else s

/-- What execJ1939ClaimTimer does. -/
def j1939ClaimTimerDo (n : Nat) (s : State) : State :=
  let x := j1939 s n
  if rdf s (R.SGE_J1939 n) 30 28 = 1 ∧ x.claimNs + msNs 250 ≤ s.devNs then
    raise 234 (wrf (wrf s (R.SGE_J1939 n) 30 28 2) (R.SGE_J1939 n) 7 0 x.candidate)
  else s

/-- J1939_CLAIM_TIMER: 250 ms after the claim the address is held. -/
def execJ1939ClaimTimer (n : Nat) (s : State) : Host.Outcome State Fault Refusal :=
  run s (.j1939ClaimTimer n)
    (j1939ClaimTimerDo n s)

/-- Channel n has lost its address to a lower NAME. -/
def jLose (n : Nat) (s : State) : State :=
  let x := j1939 s n
  let s := if rdf s (R.SGE_J1939 n) 30 28 = 2 then raise 235 s else s
  let any := (cnt s (R.SGE_J1939_NAME n)).testBit 63
  match (List.range' x.lo (x.hi + 1 - x.lo)).find? (fun a => !x.taken.contains a) with
  | some a =>
    if any then jClaim n a s
    else raise 236 (jClaimSend n 0xFE (wrf (wrf s (R.SGE_J1939 n) 30 28 3) (R.SGE_J1939 n) 7 0 0xFE))
  | none => raise 236 (jClaimSend n 0xFE (wrf (wrf s (R.SGE_J1939 n) 30 28 3) (R.SGE_J1939 n) 7 0 0xFE))

/-- What execJ1939ClaimReceived does. -/
def j1939ClaimReceivedDo (n : Nat) (address : Nat) (name : BitVec 64) (s : State) : State :=
  let x := j1939 s n
  let st := rdf s (R.SGE_J1939 n) 30 28
  if (st = 1 ∨ st = 2) ∧ x.candidate = address ∧ cnt s (R.SGE_J1939_NAME n) < name.toNat then jClaimSend n address s
  else
    let s := setJ1939 n { x with taken := if x.taken.contains address then x.taken else x.taken ++ [address] } s
    if (st = 1 ∨ st = 2) ∧ x.candidate = address then jLose n s else s

/-- J1939_CLAIM_RECEIVED: the lower NAME wins. -/
def execJ1939ClaimReceived (n address : Nat) (name : BitVec 64) (s : State) : Host.Outcome State Fault Refusal :=
  run s (.j1939ClaimReceived n address name)
    (if !rdb s (R.SGE_J1939 n) 31 ∨ address = 0xFE then s else
     j1939ClaimReceivedDo n address name s)

/-- What execJ1939RequestReceived does. -/
def j1939RequestReceivedDo (n : Nat) (dest : Nat) (s : State) : State :=
  let st := rdf s (R.SGE_J1939 n) 30 28
  let x := j1939 s n
  if !rdb s (R.SGE_J1939 n) 31 then s
  else if (st = 1 ∨ st = 2) ∧ (dest = 255 ∨ dest = x.candidate) then jClaimSend n x.candidate s
  else if st = 3 ∧ dest = 255 then jClaimSend n 0xFE s
  else s

/-- J1939_REQUEST_RECEIVED: a Request for PGN 60928 to the global address or the channel's own. -/
def execJ1939RequestReceived (n dest : Nat) (s : State) : Host.Outcome State Fault Refusal :=
  run s (.j1939RequestReceived n dest)
    (j1939RequestReceivedDo n dest s)

-- Power (R186) ----------------------------------------------------------------------------------------------------

/-- Transmit buffers hold their initial patterns, and every rule starts afresh. -/
def sgeFresh (s : State) : State :=
  let s := { s with sge := { s.sge with
    jobs := [], encOpen := [], pdu := [], threads := [], stopped := 0, stoppedRecs := [], tp := [], ops := 0, opsMs := 0,
    freshNs := s.devNs } }
  let s := forEach s.sge.pduX (fun x s =>
    let s := wr s (R.SGE_PDU_STATE x.1) 0
    if rdb s (R.SGE_PDU_CFG x.1) 30 then setPduBuf x.1 (padTo (x.2.init.take (pduLen s x.1)) (pduLen s x.1)) s else s) s
  let s := forEach (List.range 256) (fun e s => wr s (R.SGE_ENC_STATE e) 0) s
  let s := forEach (List.range 256) (fun u s => wrf (wrf s (R.SGE_UNP_CFG u) 15 8 0) (R.SGE_UNP_CFG u) 7 7 0) s
  let s := forEach (List.range 16) threadReg s
  forEach (List.range 16) j1939Off s

/-- Doze or below: open frames and queued frames are discarded, sessions end, the rest is lost (R186). -/
def sgeStop (s : State) : State :=
  let s := forEach s.sge.encOpen (fun x s => inc (inc s (R.SGE_ENC_CNT x.1 5)) (R.SGE_DISCARD_CNT 1)) s
  let n := (s.sge.threads.map (fun x => x.2.length)).foldl (· + ·) 0
  let s := addCnt s (R.SGE_DISCARD_CNT 1) n
  let s := forEach s.sge.tp (fun x s => tpAbort x.1 x.2 none s) s
  sgeFresh s

end Sys2Proof.Machine
end

