-- ==== Sys2Proof/Machine/Survey.lean ====
section
/-! DEFINITION. The wiring survey and the supply and temperature monitors (chapter 1). -/

namespace Sys2Proof.Machine

-- Supplies and temperatures (R29, R39) --------------------------------------------------------------------------

/-- FEED_LOST: one feed below 5.0 V or reversed while the other holds 6.0 V; event 411 (R29). -/
def execFeedLost (mvA mvB : Int) (s : State) : Host.Outcome State Fault Refusal :=
  run s (.feedLost mvA mvB)
    (if (mvA < 5000 ∧ 6000 ≤ mvB) ∨ (mvB < 5000 ∧ 6000 ≤ mvA) then raise 411 s else s)

/-- SUPPLY_RANGE: the higher feed leaves 6.0 to 36.0 V without reaching power fail; event 410 (R29). -/
def execSupplyRange (mv : Nat) (s : State) : Host.Outcome State Fault Refusal :=
  run s (.supplyRange mv)
    (if (4500 ≤ mv ∧ mv < 6000) ∨ (36000 < mv ∧ mv ≤ 58000) then raise 410 s else s)

/-- A measured temperature register: VALID and signed 0.1 °C in 16 bits. -/
def tempWord (d : Int) : Nat := 2 ^ 31 + (d % 0x10000).toNat

/-- Lid temperature and what follows from it (R39): warning 105 °C until below 100, limit 110 °C until below 105. -/
def lidJudge (lid : Int) (s : State) : State :=
  let s := if 1050 ≤ lid ∧ s.gaf.lidWarn = false then raise 412 { s with gaf := { s.gaf with lidWarn := true } }
    else if lid < 1000 then { s with gaf := { s.gaf with lidWarn := false } } else s
  if 1100 ≤ lid ∧ s.gaf.lidLimit = false then
    forEach (List.range 4) lidLimitPort (raise 413 { s with gaf := { s.gaf with lidLimit := true } })
  else if lid < 1050 then { s with gaf := { s.gaf with lidLimit := false } } else s

/-- What execTempMeasure does. -/
def tempMeasureDo (mainDie : Int) (phyDie : Int) (lineDie : Int) (lid : Int) (s : State) : State :=
  let s := wr s (R.SVY_TEMP 0) (tempWord mainDie)
  let s := wr s (R.SVY_TEMP 1) (tempWord phyDie)
  let s := wr s (R.SVY_TEMP 2) (tempWord lineDie)
  let s := wr s (R.SVY_TEMP 3) (tempWord lid)
  let s := lidJudge lid s
  if 1250 ≤ mainDie then (if lineBit s R.RXU_LINE_STATE 76 then s else raiseLine 435 76 s)
  else deassertLine 76 s

/-- TEMP_MEASURE: SVY_TEMP, the lid's events, and line 76 with source 435 while the main die is at 125 °C (R39). -/
def execTempMeasure (mainDie phyDie lineDie lid : Int) (s : State) : Host.Outcome State Fault Refusal :=
  run s (.tempMeasure mainDie phyDie lineDie lid)
    (tempMeasureDo mainDie phyDie lineDie lid s)

-- Start survey (R42 to R47) -------------------------------------------------------------------------------------

/-- A signed value in 8 bits. -/
def sByte (x : Int) : Nat := (x % 0x100).toNat

/-- Own termination as the call sheet gives is pending for the next bus idle (R42, R211). -/
def termPend (n : Nat) (s : State) : State := setCan n { canChan s n with termPending := true } s

/-- States that a wiring measurement reports as a fault (R41): shorts and open. -/
def canWiringFault (st : Nat) : Bool := 2 ≤ st && st ≤ 7

/-- The STATE that a channel's frames have shown (R47): CROSSED once a crossing is recognised or its roles are swapped,
UNKNOWN once the window has ended with no valid frame, else OK. -/
def canSeen (n : Nat) (s : State) : Nat :=
  let c := canChan s n
  if c.swapPending || c.polarity == 3 || rdb s (R.SVY_CAN_WIRING n) 8 then 1 else if c.polarity = 2 then 9 else 0

/-- Write a channel's wiring STATE; a fault raises cause 10 of its port (R41). A measurement that itself finds nothing
leaves what the frames have shown; NO_IDLE, a short or an open replaces it (DESIGN CHOICE, log entry 164). -/
def canWiring (n st : Nat) (s : State) : State :=
  let a := R.SVY_CAN_WIRING n
  let s := wrf (wrf s a 3 0 (if st = 0 then canSeen n s else st)) a 31 31 1
  if canWiringFault st then portCause (20 + n) 10 true s else s

/-- Termination in 0.1 Ω, 0xFFFF above 6,553.4 Ω or open. -/
def ohmCode (o : Option Nat) : Nat :=
  match o with
  | some x => if x ≤ 65534 then x else 0xFFFF
  | none => 0xFFFF

/-- Channel n's item of the start survey has ended (R42). -/
def canItemEnd (n : Nat) (s : State) : State :=
  termPend n { s with survey := { s.survey with canEnded := s.survey.canEnded ||| 2 ^ n } }

/-- What execCanTermMeasureDone does. A short is VALID as well, with the value given (DESIGN CHOICE, log entry 241). -/
def canTermMeasureDoneDo (n : Nat) (ohmX10 : Option Nat) (recH : Int) (recL : Int) (domDiff : Int) (st : Nat) (s : State) : State :=
  let s := wr s (R.SVY_CAN_TERM n) (2 ^ 31 + ohmCode ohmX10)
  let s := wr s (R.SVY_CAN_LEVEL n) (2 ^ 31 + sByte recH * 2 ^ 16 + sByte recL * 2 ^ 8 + sByte domDiff)
  canItemEnd n (canWiring n st s)

/-- CAN_TERM_MEASURE_DONE (R44, R42): the result of 32 idle intervals with own termination off. -/
def execCanTermMeasureDone (n : Nat) (ohmX10 : Option Nat) (recH recL domDiff : Int) (st : Nat) (s : State) :
    Host.Outcome State Fault Refusal :=
  run s (.canTermMeasureDone n ohmX10 recH recL domDiff st)
    (canTermMeasureDoneDo n ohmX10 recH recL domDiff st s)

/-- CAN_TERM_NO_IDLE: state NO_IDLE, result TIMEOUT (R44). -/
def execCanTermNoIdle (n : Nat) (s : State) : Host.Outcome State Fault Refusal :=
  run s (.canTermNoIdle n)
    (canItemEnd n (wrf (canWiring n 8 s) R.SVY_STATUS 31 24 5))

/-- Write one port's cable result (R238): 10BASE-T1S reports NOT_SUPPORTED from its survey item on
(DESIGN CHOICE, log entry 242); a fault raises cause 13 (R41). -/
def cableResult (x : Nat × Nat × Nat) (s : State) : State :=
  let p := x.1
  if 15 < p then s
  else if 12 ≤ p then wr s (R.SVY_ETH_CABLE p) (4 * 2 ^ 24)
  else
    let s := wr s (R.SVY_ETH_CABLE p) (2 ^ 31 + x.2.1 % 8 * 2 ^ 24 + x.2.2 % 0x10000)
    if 1 ≤ x.2.1 ∧ x.2.1 ≤ 3 then portCause p 13 true s else s

/-- What execReflectometryDone does. -/
def reflectometryDoneDo (g : Nat) (results : List (Nat × Nat × Nat)) (s : State) : State :=
  let s := forEach results cableResult s
  let members := [[0, 1, 2], [3, 4, 5], [6, 7, 8], [9, 10, 11]].getD g []
  forEach members (fun p s =>
    if rdb s (R.PORT_ETH_CFG p) 15 && rdf s (R.PORT_ETH_STATE p) 31 28 == 0 && enableScenes s p != 0 then
      wrf s (R.PORT_ETH_STATE p) 31 28 1 else s) s

/-- REFLECTOMETRY_DONE: the group's cable results; auto-negotiation starts on its ports, whose links come up only once
they are enabled (R42, R222). -/
def execReflectometryDone (g : Nat) (results : List (Nat × Nat × Nat)) (s : State) : Host.Outcome State Fault Refusal :=
  run s (.reflectometryDone g results)
    (reflectometryDoneDo g results s)

/-- A crossing has been recognised on channel n (R47): state CROSSED, event 414, and a swap at the next idle where the
sheet permits it, else receive-only with port error cause 10. -/
def canCrossed (n : Nat) (s : State) : State :=
  let a := R.SVY_CAN_WIRING n
  let s := raise 414 (wrf (wrf s a 3 0 1) a 31 31 1)
  if rdb s a 9 then setCan n { canChan s n with swapPending := true } s
  else portCause (20 + n) 10 true (setCan n { canChan s n with polarity := 3 } s)

/-- Channel n listens for polarity before it is enabled: from the power-up of its transceiver group, 40 ms after tL and
0.5 ms for each group before it, until tS (R42, R363). -/
def canListens (s : State) (n : Nat) : Bool :=
  sheetLive s && !startDone s && decide (s.survey.loadNs + 40000000 + n / 4 * 500000 ≤ s.devNs)

/-- A frame valid by CRC shows the pair's polarity (R47). One of correct polarity that comes after the window has ended
sets OK as well and ends the listening (DESIGN CHOICE, log entry 217); a measured short or open STATE stays (DESIGN CHOICE,
log entry 239). -/
def canPolarity (n : Nat) (negative : Bool) (s : State) : State :=
  let c := canChan s n
  if c.polarity = 1 ∨ c.polarity = 3 ∨ c.swapPending = true then s
  else if negative then
    let s := setCan n { c with negSeen := c.negSeen + 1 } s
    if 2 ≤ c.negSeen + 1 then canCrossed n s else s
  else
    let s := canRefresh n (setCan n { c with polarity := 1 } s)
    let a := R.SVY_CAN_WIRING n
    if canWiringFault (rdf s a 3 0) then s else wrf (wrf s a 3 0 0) a 31 31 1

/-- The polarity listening window is over: tL + W has come (R42). -/
def windowOver (s : State) : Bool :=
  sheetLive s && decide (s.survey.loadNs + s.survey.windowMs * 1000000 ≤ s.devNs)

/-- What execPolarityWindowEnd does. -/
def polarityWindowEndDo (s : State) : State :=
  forEach (List.range 16) (fun n s =>
    if (canChan s n).polarity = 0 ∧ (canChan s n).swapPending = false then
      let s := canRefresh n (setCan n { canChan s n with polarity := 2 } s)
      let a := R.SVY_CAN_WIRING n
      let st := rdf s a 3 0
      if 2 ≤ st ∧ st ≤ 8 then s else wrf (wrf s a 3 0 9) a 31 31 1
    else s) s

/-- POLARITY_WINDOW_END (R47), at tL + W and not before: a channel that saw no valid frame has its transmitter enabled as
designed, state UNKNOWN; it goes on listening. One that saw a single negative frame counts as one that saw none settled
(log entry 166). A state that the measurement determined stays (log entry 13). -/
def execPolarityWindowEnd (s : State) : Host.Outcome State Fault Refusal :=
  run s .polarityWindowEnd
    (if windowOver s then polarityWindowEndDo s else s)

/-- What execCanRoleSwap does. -/
def canRoleSwapDo (n : Nat) (s : State) : State :=
  canRefresh n (setCan n { canChan s n with swapPending := false, polarity := 1 } (wrf s (R.SVY_CAN_WIRING n) 8 8 1))

/-- CAN_ROLE_SWAP (R47): at a bus idle with no own frame in transmission the roles change; the counters do not. -/
def execCanRoleSwap (n : Nat) (s : State) : Host.Outcome State Fault Refusal :=
  run s (.canRoleSwap n)
    (if (canChan s n).swapPending && (s.sched.canTx.get? n).isNone then canRoleSwapDo n s else s)

/-- 16-bit two's complement as a signed number. -/
def s16 (n : Nat) : Int := if n % 0x10000 < 0x8000 then ((n % 0x10000 : Nat) : Int) else ((n % 0x10000 : Nat) : Int) - 0x10000

/-- A switch input's voltage, mV, signed 16-bit with the range −1 V to 36 V (R43): the codes above 0xFC17 are the
negative ones, so that 36 V keeps its value (log entry 167). -/
def swMv (n : Nat) : Int := if 0xFC18 ≤ n then (n : Int) - 0x10000 else (n : Int)

/-- The measured quantity of a start condition, in its unit; none: no valid value (R49, R404). -/
def condValue (s : State) (t q : Nat) : Option Int :=
  let get (a hi : Nat) : Option Int := if rdb s a 31 then some ((rdf s a hi 0 : Nat) : Int) else none
  if q = 0 ∧ isCanPort t = true then get (R.SVY_CAN_TERM (t - 20)) 15
  else if q = 1 ∧ isCanPort t = true then
    let v := rdf s (R.SVY_CAN_LENGTH (t - 20)) 31 16
    if v = 0xFFFF then none else some ((v : Nat) : Int)
  else if q = 2 then
    if t = 0xF0 then get R.SVY_VBAT_A 15
    else if t = 0xF1 then get R.SVY_VBAT_B 15
    else if 0xD0 ≤ t ∧ t ≤ 0xD7 then
      (if rdb s (R.SVY_SW (t - 0xD0)) 31 then some (swMv (rdf s (R.SVY_SW (t - 0xD0)) 15 0)) else none)
    else none
  else if q = 3 ∧ 0xE0 ≤ t ∧ t ≤ 0xE3 then
    (if rdb s (R.SVY_TEMP (t - 0xE0)) 31 then some (s16 (rdf s (R.SVY_TEMP (t - 0xE0)) 15 0)) else none)
  else if q = 4 ∧ t ≤ 11 then
    (if rdf s (R.SVY_ETH_CABLE t) 26 24 = 0 then get (R.SVY_ETH_CABLE t) 15 else none)
  else if q = 5 then
    if isCanPort t then get (R.SVY_CAN_WIRING (t - 20)) 3
    else if isLinPort t then (get (R.SVY_LIN (t - 36)) 31).map (fun _ => ((rdf s (R.SVY_LIN (t - 36)) 26 24 : Nat) : Int))
    else if t ≤ 11 then (get (R.SVY_ETH_CABLE t) 31).map (fun _ => ((rdf s (R.SVY_ETH_CABLE t) 26 24 : Nat) : Int))
    else if 0xC0 ≤ t ∧ t ≤ 0xC3 then (get (R.SVY_SO (t - 0xC0)) 31).map (fun _ => ((rdf s (R.SVY_SO (t - 0xC0)) 26 24 : Nat) : Int))
    else none
  else if q = 6 ∧ 0xC0 ≤ t ∧ t ≤ 0xC3 then get (R.SVY_SO (t - 0xC0)) 15
  else if q = 7 ∧ isLinPort t = true then
    (get (R.SVY_LIN (t - 36)) 31).map (fun _ => ((rdf s (R.SVY_LIN (t - 36)) 15 8 : Nat) : Int))
  else none

/-- The condition holds. -/
def condHolds (s : State) (c : StartCond) : Bool :=
  match condValue s c.target c.quantity with
  | some v => decide (c.lo ≤ v ∧ v ≤ c.hi)
  | none => false

/-- Judge the start conditions from index `i` on (R49): a failed one sets its bit, raises 409 (DESIGN CHOICE, log entry 180)
and acts. -/
def condJudge (s0 : State) : List StartCond → Nat → State → State
  | [], _, s => s
  | c :: t, i, s =>
    let s := if condHolds s0 c then s else
      let a := R.SVY_COND_FAIL (i / 32)
      let s := wr s a (rd s a ||| 2 ^ (i % 32))
      let s := raise 409 s
      let s := if c.action ≤ 1 ∧ c.target < 45 then
          { s with ports := { s.ports with keptOff := s.ports.keptOff ||| 2 ^ c.target } } else s
      if c.action = 1 then assertLine 77 { s with rxu := { s.rxu with condHold := true } } else s
    condJudge s0 t (i + 1) s

/-- Outputs take INIT_LEVEL at START_DONE (R259); those under safe state keep SAFE_LEVEL (R260). -/
def soInit (s : State) : State :=
  forEach (List.range 4) (fun k s => if inSafe s then s else soDrive k (rdb s (R.RXU_SO_CFG k) 29) false s) s

/-- What execStartConditionsEvaluate does. -/
def startConditionsEvaluateDo (s : State) : State :=
  let s := wrf (wrf s R.SVY_STATUS 1 1 1) R.SVY_STATUS 0 0 0
  let s := { s with ports := { s.ports with keptOff := 0 } }
  let s := condJudge s s.survey.conds 0 s
  let s := wr s R.GAF_T_START ((s.devNs - s.survey.t0Ns) / 1000)
  let s := { s with rxu := { s.rxu with startHold := false } }
  let s := wrf s R.RXU_STATUS 27 24 1
  let s := forEach (List.range 44) (fun p s => if isSeg p && portEnabled s p && segMode s p == 2 then segRise p 3 s else s) s
  let s := forEach (List.range 44) portStart s
  let s := soInit s
  raise 408 s

/-- Unit u is powered or fenced (R363, R365). -/
def unitSettled (s : State) (u : Nat) : Bool := rdb s R.GAF_UNITS u || rdb s R.GAF_UNITS (16 + u)

/-- tS has come: every group is powered or fenced, and it is the later of the end of every CAN item, tL + 60 ms, by which
every other item has ended, and tL + W (R42, R364). The channels of a fenced group have no item (R365). -/
def tsReached (s : State) : Bool :=
  windowOver s && decide (s.survey.loadNs + 60000000 ≤ s.devNs) && ((List.range 8).map (· + 4)).all (unitSettled s) &&
  (List.range 16).all (fun n => s.survey.canEnded.testBit n || rdb s R.GAF_UNITS (24 + n / 4))

/-- START_CONDITIONS_EVALUATE (R49, R42): at tS, once in every start and not before, the conditions are judged, START_DONE
is set, ports are enabled and event 408 is raised; FAULT_N loses the start-up hold (R364) and the reaction unit's phase is
SERVICE. -/
def execStartConditionsEvaluate (s : State) : Host.Outcome State Fault Refusal :=
  run s .startConditionsEvaluate
    (if startDone s || !tsReached s then s else
     startConditionsEvaluateDo s)

-- Command surveys (R48) -----------------------------------------------------------------------------------------

/-- Result of a survey command: RESULT and TARGET. -/
def svyResult (code target : Nat) (s : State) : State :=
  wrf (wrf s R.SVY_STATUS 31 24 code) R.SVY_STATUS 15 8 target

/-- Port t is asleep or in wrap, so that no survey reaches it. A port that is not enabled has no segment at work: it is
not asleep in this sense, and a port kept off is surveyed as the worked example of chapter 1 does (log entry 168). -/
def svyAsleep (s : State) (t : Nat) : Bool := portEnabled s t && (segDown s t || segState s t == 4)

/-- Port t is an MG or GT port whose link is up. -/
def svyLinked (s : State) (t : Nat) : Bool :=
  t ≤ 11 && (rdf s (R.PORT_ETH_STATE t) 31 28 == 2 || rdf s (R.PORT_ETH_STATE t) 31 28 == 3)

/-- The ports a survey's TARGET takes in: itself, or for 0xFF every port that is not asleep nor, unless the link may drop,
linked (DESIGN CHOICE, log entry 165). -/
def svyPorts (t : Nat) (drop : Bool) (s : State) : List Nat :=
  if t = 0xFF then
    (List.range 16 ++ (List.range 24).map (· + 20)).filter (fun p => !svyAsleep s p && (drop || !svyLinked s p))
  else if t ≤ 43 then [t] else []

/-- The survey of port p begins (a CAN line length whose measurement the command restarts stays at 0xFFFF when the command
is aborted: DESIGN CHOICE, log entry 218): a linked port's link goes down, which is the survey's own act and is reported only as the
port summary event (R48); a CAN channel's line length is measured afresh (R46). -/
def svyBegin (p : Nat) (s : State) : State :=
  if svyLinked s p then
    let s := lpiRxExit p (lpiExit p s)
    let s := txAbort p s
    let s := wrf (wrf (wrf s (R.PORT_ETH_STATE p) 31 28 0) (R.PORT_ETH_STATE p) 27 24 0) (R.SCH_PORT_STATE p) 11 8 0
    raise p (linkEnds p (linkLoss p s))
  else if isCanPort p then canLenStart (p - 20) s
  else s

/-- SVY_CMD_GO (R48). BUSY changes nothing but the result that is returned; a command that is turned away has run no survey
and raises no event 408 (log entry 165). -/
def svyCmdGoDo (val : Word) (s : State) : State :=
  let v := val.toNat
  let t := fld v 15 8
  if !v.testBit 0 then s
  else if rdb s R.SVY_STATUS 0 then wrf s R.SVY_STATUS 31 24 1
  else if !(t ≤ 15 || (20 ≤ t && t ≤ 43) || (0xF0 ≤ t && t ≤ 0xF3) || t == 0xFF) then svyResult 2 t s
  else if t ≤ 43 && (svyAsleep s t || (svyLinked s t && !v.testBit 3)) then svyResult 2 t s
  else
    let ps := svyPorts t (v.testBit 3) s
    let s := { s with survey := { s.survey with target := some t } }
    let s := wrf (wrf s R.SVY_STATUS 0 0 1) R.SVY_STATUS 15 8 t
    forEach ps svyBegin s

/-- One item of a command survey: registers, and whether a STATE changed (R45, R48). -/
def surveyItem (x : SurveyItem) (a : Bool × State) : Bool × State :=
  let s := a.2
  match x with
  | .vbat f mv => (a.1, wr s (if f = 0 then R.SVY_VBAT_A else R.SVY_VBAT_B) (2 ^ 31 + mv % 0x10000))
  | .rail k mv => (a.1, wr s (R.SVY_RAIL k) (2 ^ 31 + mv % 0x10000))
  | .temp k d => (a.1, wr s (R.SVY_TEMP k) (tempWord d))
  | .can n ohm recH recL dd st =>
    let own := rdb s (R.PORT_CAN_STATE (20 + n)) 19
    -- external termination 1/(1/P - 1/120 Ω), in 0.1 Ω (R45), P itself with own termination off (the worked example of
    -- chapter 1); DESIGN CHOICE, log entry 164: rounded down, and open where P is 120 Ω or more with it on
    let ext : Option Nat := match ohm with
      | some p => if own then (if p < 1200 then some (p * 1200 / (1200 - p)) else none) else some p
      | none => none
    let old := rdf s (R.SVY_CAN_WIRING n) 3 0
    let s := wr s (R.SVY_CAN_TERM n) (2 ^ 31 + 2 ^ 30 + ohmCode ext)
    let s := wr s (R.SVY_CAN_LEVEL n) (2 ^ 31 + sByte recH * 2 ^ 16 + sByte recL * 2 ^ 8 + sByte dd)
    let s := canWiring n st s
    (a.1 || old != rdf s (R.SVY_CAN_WIRING n) 3 0, s)
  | .canNoIdle n =>
    let old := rdf s (R.SVY_CAN_WIRING n) 3 0
    let s := wrf (canWiring n 8 s) R.SVY_STATUS 31 24 5
    (a.1 || old != 8, s)
  | .eth p st d =>
    let old := rdf s (R.SVY_ETH_CABLE p) 26 24
    let s := cableResult (p, st, d) s
    (a.1 || old != rdf s (R.SVY_ETH_CABLE p) 26 24, s)
  | .lin m st r d =>
    let old := rdf s (R.SVY_LIN m) 26 24
    let s := wr s (R.SVY_LIN m) (2 ^ 31 + st % 8 * 2 ^ 24 + r % 0x100 * 0x100 + d % 0x100)
    let s := if 2 ≤ st then portCause (36 + m) 8 true s else s
    (a.1 || old != st % 8, s)
  | .sw k mv =>
    if k = 7 ∧ rdb s (R.SVY_SW 7) 30 = true then a else (a.1, wr s (R.SVY_SW k) (2 ^ 31 + mv % 0x10000))
  | .so k st ma =>
    let old := rdf s (R.SVY_SO k) 26 24
    (a.1 || old != st % 8, wr s (R.SVY_SO k) (2 ^ 31 + st % 8 * 2 ^ 24 + ma % 0x10000))

/-- All items in order. -/
def surveyItems : List SurveyItem → Bool × State → Bool × State
  | [], a => a
  | x :: t, a => surveyItems t (surveyItem x a)

/-- What execSurveyComplete does. -/
def surveyCompleteDo (items : List SurveyItem) (s : State) : State :=
  match s.survey.target with
  | none =>
    if rdb s R.SVY_STATUS 0 && !startDone s then
      -- start survey: METHOD stays 0, own termination is off
      forEach items (fun x s =>
        let r := surveyItem x (false, s)
        match x with
        | .can n ohm _ _ _ _ => wr r.2 (R.SVY_CAN_TERM n) (2 ^ 31 + ohmCode ohm)
        | _ => r.2) s
    else s
  | some t =>
    let s := wrf s R.SVY_STATUS 31 24 0
    let r := surveyItems items (false, s)
    let s := { r.2 with survey := { r.2.survey with target := none } }
    let s := wrf s R.SVY_STATUS 0 0 0
    let s := forEach (List.range 12) (fun p s => if t = p ∨ t = 0xFF then portStart p s else s) s
    let s := raise 408 s
    if r.1 then raise 415 s else s

/-- SURVEY_COMPLETE (R48): registers updated, BUSY cleared, event 408, and 415 if a STATE differs. Items of the start
survey arrive the same way while it runs (LIN, switch and output measurements, supplies; R42), and end no command. -/
def execSurveyComplete (items : List SurveyItem) (s : State) : Host.Outcome State Fault Refusal :=
  run s (.surveyComplete items)
    (surveyCompleteDo items s)

/-- A command survey is aborted: result ABORTED, registers keep their values (R48). -/
def surveyAbort (s : State) : State :=
  match s.survey.target with
  | none => s
  | some t =>
    let s := { s with survey := { s.survey with target := none } }
    raise 408 (wrf (svyResult 15 t s) R.SVY_STATUS 0 0 0)

end Sys2Proof.Machine
end

