-- ==== Sys2Proof/Machine/Can.lean ====
section
/-! DEFINITION. The CAN channels (chapter 7) and their egress (R122 to R125): the mover, the transmit buffers, the offer at
an arbitration start, reception, error confinement, LONELY, termination and clapper frames (R279 to R281). -/

namespace Sys2Proof.Machine

-- Registers and timing --------------------------------------------------------------------------------------------

def canSt (s : State) (n : Nat) : Nat := rdf s (R.PORT_CAN_STATE (20 + n)) 31 28
def canTec (s : State) (n : Nat) : Nat := rdf s (R.PORT_CAN_ERRCNT (20 + n)) 8 0
def canRec (s : State) (n : Nat) : Nat := rdf s (R.PORT_CAN_ERRCNT (20 + n)) 23 16
def canAckRun (s : State) (n : Nat) : Nat := rdf s (R.PORT_CAN_ERRCNT (20 + n)) 31 27
def setTec (n v : Nat) (s : State) : State := wrf s (R.PORT_CAN_ERRCNT (20 + n)) 8 0 (min 511 v)
def setRec (n v : Nat) (s : State) : State := wrf s (R.PORT_CAN_ERRCNT (20 + n)) 23 16 (min 255 v)
def setAckRun (n v : Nat) (s : State) : State := wrf s (R.PORT_CAN_ERRCNT (20 + n)) 31 27 (min 16 v)
def canCount (n k : Nat) (s : State) : State := inc s (R.PORT_CAN_CNT (20 + n) k)

/-- Channel n takes part in its bus: past integration, not in bus-off, not asleep (R205). -/
def canLive (s : State) (n : Nat) : Bool :=
  [2, 3, 6, 7, 8].contains (canSt s n) && !(canChan s n).integrating

/-- Channel n may send: NORMAL, integrated, its driver not hot, its segment before its commit point (R193, R218, R337). -/
def canMaySend (s : State) (n : Nat) : Bool :=
  [2, 3, 6].contains (canSt s n) && !(canChan s n).integrating && !(canChan s n).hot && !segCommitted s (20 + n)

/-- Controller clock periods of a bit, 6.25 ns each, from registers that hold value − 1 (R195). -/
def bitClocks (brp tseg1 tseg2 : Nat) : Nat := (brp + 1) * (3 + tseg1 + tseg2)

/-- Nominal bit of port p, ps. -/
def nomPs (s : State) (p : Nat) : Nat :=
  let a := R.PORT_CAN_NBT p
  bitClocks (rdf s a 30 22) (rdf s a 21 14) (rdf s a 13 7) * 6250

/-- Data bit of port p for FD frames or for XL frames, ps. -/
def dataPs (s : State) (p : Nat) (xl : Bool) : Nat :=
  let a := if xl then R.PORT_CAN_XBT p else R.PORT_CAN_DBT p
  bitClocks (rdf s a 31 27) (rdf s a 26 21) (rdf s a 20 16) * 6250

/-- From the start of a nominal bit to its sample point, ns. -/
def samplePs (s : State) (p : Nat) : Nat :=
  (rdf s (R.PORT_CAN_NBT p) 30 22 + 1) * (2 + rdf s (R.PORT_CAN_NBT p) 21 14) * 6250 / 1000

/-- The arbitration key of a frame with this header (R123). -/
def canKey (f : List Byte) : Nat :=
  let id := busIdent f
  let rtr := if busRtr f then 1 else 0
  match busFormat f with
  | 0 => id % 2048 * 2 ^ 21 + rtr * 2 ^ 20
  | 1 => fld id 28 18 * 2 ^ 21 + 2 ^ 20 + 2 ^ 19 + fld id 17 0 * 2 + rtr
  | 2 => id % 2048 * 2 ^ 21 + 2 ^ 18
  | 3 => fld id 28 18 * 2 ^ 21 + 2 ^ 20 + 2 ^ 19 + fld id 17 0 * 2
  | _ => id % 2048 * 2 ^ 21 + 2 ^ 18 + 2 ^ 17

/-- Worst-case nominal and data bits of a frame (R125). -/
def worstBits (fmt n : Nat) : Nat × Nat :=
  match fmt with
  | 0 => (47 + 8 * n + (33 + 8 * n) / 4, 0)
  | 1 => (67 + 8 * n + (53 + 8 * n) / 4, 0)
  | 2 => (34, if n ≤ 16 then 33 + 10 * n else 38 + 10 * n)
  | 3 => (57, if n ≤ 16 then 33 + 10 * n else 38 + 10 * n)
  | _ => (36, ceilDiv ((120 + 8 * n) * 11) 10)

/-- Worst-case duration of a frame on port p, ns (R125). -/
def worstNs (s : State) (p : Nat) (f : List Byte) : Nat :=
  let fmt := busFormat f
  let w := worstBits fmt (if busRtr f then 0 else busLen f)
  let d := if fmt = 4 then dataPs s p true else if busBrs f then dataPs s p false else nomPs s p
  ceilDiv (w.1 * nomPs s p + w.2 * d) 1000

-- Buffers (R122, R124) ----------------------------------------------------------------------------------------------

/-- Insert an entry by key, first come first among equals. -/
def entryIn (e : CanEntry) : List CanEntry → List CanEntry
  | [] => [e]
  | x :: t => if e.key < x.key ∨ (e.key = x.key ∧ e.order < x.order) then e :: x :: t else x :: entryIn e t

/-- The entry of a list that is served last, but for the copy on the bus. -/
def entryLast (air : Option Nat) (l : List CanEntry) : Option CanEntry :=
  (l.filter (fun e => some e.desc != air)).getLast?

/-- Write channel n's two buffers and their levels. -/
def canBufs (n : Nat) (pq txb : List CanEntry) (s : State) : State :=
  let s := { s with sched := { s.sched with canPq := s.sched.canPq.set n pq [], canTxb := s.sched.canTxb.set n txb [] } }
  wr s (R.SCH_CAN_STATE n) (pq.length * 0x10000 + txb.length)

/-- Fill the transmit buffers from the priority queue and displace what is served later (R124); `fuel` bounds the moves. -/
def canRefillN (n : Nat) : Nat → State → State
  | 0, s => s
  | k + 1, s =>
    let pq := s.sched.canPq.getD n []
    let txb := s.sched.canTxb.getD n []
    match pq with
    | [] => s
    | e :: rest =>
      if txb.length < 64 then canRefillN n k (canBufs n rest (entryIn e txb) s)
      else
        let air := (s.sched.canTx.get? n).bind CanAir.desc?
        match entryLast air txb with
        | some x =>
          if e.key < x.key then
            let txb' := txb.filter (fun y => y.desc != x.desc)
            inc (canBufs n (entryIn x rest) (entryIn e txb') s) (R.SCH_CAN_CNT n 2)
          else s
        | none => s

def canRefill (n : Nat) (s : State) : State := canRefillN n 65 s

/-- Take a copy out of channel n's buffers. -/
def canTake (n d : Nat) (s : State) : State :=
  canBufs n ((s.sched.canPq.getD n []).filter (fun e => e.desc != d)) ((s.sched.canTxb.getD n []).filter (fun e => e.desc != d)) s

/-- The frame of an entry's copy. -/
def entryFrame (s : State) (e : CanEntry) : Option (Copy × PFrame) :=
  (s.pool.copies.get? e.desc).bind (fun c => (s.pool.frames.get? c.frame).map (fun f => (c, f)))

/-- Discard every buffered copy and priority-queue entry that is too old, but the one on the bus (R193, R206, R210). -/
def canSweep (n : Nat) (s : State) : State :=
  let air := (s.sched.canTx.get? n).bind CanAir.desc?
  let old := (s.sched.canPq.getD n [] ++ s.sched.canTxb.getD n []).filter (fun e =>
    some e.desc != air && ((s.pool.copies.get? e.desc).map (tooOld s)).getD true)
  canRefill n (forEach old (fun e s => canTake n e.desc (discardCopy e.desc 6 s)) s)

/-- What execCanPqMove does. A copy whose mark is known, or that the mover finds to have a bad cell, is not sent (R105,
R134); one whose descriptor is bad freezes its queue. -/
def canPqMoveDo (n : Nat) (ecc : PoolEcc) (s : State) : State :=
  let p := 20 + n
  let s := canPrune n s
  if linkState s p = 2 then s
  else if 256 ≤ (s.sched.canPq.getD n []).length then raise 170 s
  else match [7, 6, 5, 4, 3, 2, 1, 0].findSome? (fun c =>
      if s.pool.frozen.contains (qOf p c) then none else headOf s (qOf p c)) with
    | none => s
    | some (d, y, f) =>
      let s := poolEcc ecc s
      if ecc = .desc then freezeQueue y.q s
      else if ecc = .cell ∨ f.tailMark = true then
        releaseCopy d (dequeue d (raise 161 (inc s (R.SCH_PORT_CNT p 4))))
      else
      let s := dequeue d s
      let e : CanEntry := ⟨canKey f.data, s.sched.canOrder, d⟩
      let s := { s with sched := { s.sched with canOrder := s.sched.canOrder + 1 } }
      let s := canBufs n (entryIn e (s.sched.canPq.getD n [])) (s.sched.canTxb.getD n []) s
      let s := canRefill n s
      if 256 ≤ (s.sched.canPq.getD n []).length then raise 170 s else s

/-- CAN_PQ_MOVE: the mover takes the head of the highest class that has one into the priority queue while it has room;
a full priority queue raises event 170. -/
def execCanPqMove (n : Nat) (s : State) (ecc : PoolEcc := .ok) : Host.Outcome State Fault Refusal :=
  run s (.canPqMove n ecc)
    (canPqMoveDo n ecc s)

-- Safe-state frames (R384) ------------------------------------------------------------------------------------------

def safePort (s : State) (b : Nat) : Nat := rdf s (R.RXU_SAFE_FRAME b) 30 25

/-- Bytes of safe-state buffer b's frame. -/
def safeBytes (s : State) (b : Nat) : List Byte :=
  ((List.range 60).flatMap (fun i => leBytes (rd s (R.RXU_SAFE_DATA b + 4 * i)) 4)).take (s.rxu.safeLen.getD b 0)

/-- One occurrence of buffer b is over: its next repeat waits, or the buffer is done; `code` is its STATE where none
waits, 5 also where one does. -/
def safeNext (b code : Nat) (s : State) : State :=
  match s.rxu.frames.get? b with
  | none => wrf s (R.RXU_SAFE_STATE b) 31 28 0
  | some r =>
    if r.left = 0 then wr { s with rxu := { s.rxu with frames := s.rxu.frames.del b } } (R.RXU_SAFE_STATE b) (code * 2 ^ 28)
    else
      let run : SafeFrameRun := ⟨r.dueNs + rdf s (R.RXU_SAFE_FRAME_4 b) 15 0 * 1000000, r.left - 1⟩
      let s := { s with rxu := { s.rxu with frames := s.rxu.frames.put b run } }
      wr s (R.RXU_SAFE_STATE b) ((if code = 5 then 5 else 3) * 2 ^ 28 + run.left)

/-- Buffer b's frame has been sent. -/
def safeSent (b : Nat) (s : State) : State := safeNext b 4 (inc s (R.RXU_CNT 11))

/-- The due safe-state buffer of CAN port p with the lowest key. -/
def safeOffer (s : State) (p : Nat) : Option (Nat × Nat) :=
  ((List.range 32).filter (fun b => safePort s b == p && rdf s (R.RXU_SAFE_STATE b) 31 28 == 1)).foldl (fun m b =>
    let k := canKey (safeBytes s b)
    match m with
    | some x => if x.1 ≤ k then some x else some (k, b)
    | none => some (k, b)) none

-- Clapper frames (R214, R279 to R281) --------------------------------------------------------------------------------

/-- The bytes of channel n's clapper frame: KIND, SEQ, FLAGS, TB_ID and 4 bytes of time; its BRS is free. -/
def clapFrame (n kind seq carry t : Nat) (s : State) : List Byte × State :=
  let cfg := rd s (R.TIM_CLAP_CFG n)
  let fmt := fld cfg 30 28
  let flags := rdf s R.TIM_STATUS 7 6 * 64 + carry
  let data := beBytes kind 1 ++ beBytes seq 1 ++ beBytes flags 1 ++ beBytes (fld cfg 15 8) 1 ++ beBytes (t % 0x100000000) 4
  let b := freeBrs fmt s
  (busFrame fmt (rdf s (R.TIM_CLAP_ID n) 28 0) false b.1 false false 0 0 (if fmt ≤ 1 then 8 else 0) 0 data, b.2)

/-- Put a clapper frame into channel n's buffer: at once, or when its seal job has run (R279). -/
def clapPut (n : Nat) (r : ClapRun) (kind carry t : Nat) (s : State) : State :=
  let f := clapFrame n kind r.seq carry t s
  let s := f.2
  if rdb s (R.TIM_CLAP_CFG n) 27 then
    sealBuilt (some n) none f.1 0 7 (rdf s (R.TIM_CLAP_CFG n) 23 16) (setCan n { canChan s n with clap := some { r with frame := none } } s)
  else setCan n { canChan s n with clap := some { r with frame := some f.1 } } s

/-- A sync that is not in the buffer is abandoned: CLAPPER_LATE, cause 9 (R214). -/
def clapLost (n : Nat) (s : State) : State := portCause (20 + n) 9 true (canCount n 17 s)

/-- The sync in channel n's buffer is abandoned (R214). -/
def clapLate (n : Nat) (s : State) : State := clapLost n (setCan n { canChan s n with clap := none } s)

/-- Channel n sends clapper frames now (R214, R337). -/
def clapCan (s : State) (n : Nat) : Bool := [1, 2, 3].contains (canSt s n) && !segCommitted s (20 + n)

/-- A sync that waited for the clapper buffer takes it, once it is free; one late by 10 ms is abandoned (R214). -/
def clapNextUp (n : Nat) (s : State) : State :=
  match (canChan s n).clap, (canChan s n).clapWait with
  | none, some (due, t, seq) =>
    let s := setCan n { canChan s n with clapWait := none } s
    if !clapCan s n || decide (due + 10000000 ≤ s.devNs) then clapLost n s
    else clapPut n ⟨false, due, t, 0, seq, false, none⟩ 0xC1 0 (t / 1000000000) s
  | _, _ => s

/-- What channel n's clapper buffer offers now. -/
def clapOffer (s : State) (n : Nat) : Option (Nat × CanAir) :=
  match (canChan s n).clap with
  | none => none
  | some c =>
    match c.frame with
    | none => none
    | some f => if inSafe s then none else some (canKey f, if c.followup then .followup else .sync)

/-- What execClapperSyncDue does. -/
def clapperSyncDueDo (n : Nat) (t : Nat) (s : State) : State :=
  let air := s.sched.canTx.get? n == some .sync || s.sched.canTx.get? n == some .followup
  let s := match (canChan s n).clap with
    | some c => if air then s else if c.followup then fupDrop n s else clapLate n s
    | none => s
  -- one that still waits for the buffer is late
  let s := if (canChan s n).clapWait.isSome then clapLost n (setCan n { canChan s n with clapWait := none } s) else s
  let seq := rdf s (R.TIM_CLAP_STATE n) 7 0
  let s := wr s (R.TIM_CLAP_STATE n) ((seq + 1) % 256)
  let s := { s with tim := { s.tim with clapNext := s.tim.clapNext.put n (clapInstant s n t true) } }
  if !clapCan s n then clapLost n s
  -- the frame on the bus ends first, and its follow-up goes out from the same buffer
  else if air then setCan n { canChan s n with clapWait := some (s.devNs, t, seq) } s
  else clapPut n ⟨false, s.devNs, t, 0, seq, false, none⟩ 0xC1 0 (t / 1000000000) s

/-- Channel n is a clapper master and its clapper is enabled (R216, R279). -/
def clapOn (s : State) (n : Nat) : Bool := rdb s (R.PORT_CAN_CLAP (20 + n)) 31 && rdb s (R.TIM_CLAP_CFG n) 31

/-- CLAPPER_SYNC_DUE: the scheduled instant has come; SEQ advances. A channel in LONELY, bus-off, LISTEN or RESTRICTED, or
out of service or past its segment's commit point (R337), abandons the sync (R208, R214). A frame of the previous period still in the buffer is abandoned. -/
def execClapperSyncDue (n : Nat) (s : State) : Host.Outcome State Fault Refusal :=
  run s (.clapperSyncDue n)
    (match s.tim.clapNext.get? n with
     | none => s
     | some t =>
     if s.globalNs < t ∨ clapOn s n = false then s else
     clapperSyncDueDo n t s)

/-- A sync that waits behind another on channel n is abandoned 10 ms after its instant (R281). -/
def clapWaitLate (n : Nat) (s : State) : State :=
  if (canChan s n).clapWait.any (fun w => decide (w.1 + 10000000 ≤ s.devNs)) then
    clapLost n (setCan n { canChan s n with clapWait := none } s) else s

/-- CLAPPER_ABANDON: a sync not sent within 10 ms of its scheduled time. -/
def execClapperAbandon (n : Nat) (s : State) : Host.Outcome State Fault Refusal :=
  run s (.clapperAbandon n)
    (match (canChan s n).clap with
     | none => s
     | some c =>
     let t := clapWaitLate n s
     if c.followup = false ∧ s.sched.canTx.get? n ≠ some .sync ∧ c.dueNs + 10000000 ≤ s.devNs then clapNextUp n (clapLate n t) else t)

/-- FOLLOWUP_ABANDON: a follow-up not sent within 10 ms of its sync (R281). -/
def execFollowupAbandon (n : Nat) (s : State) : Host.Outcome State Fault Refusal :=
  run s (.followupAbandon n)
    (match (canChan s n).clap with
     | none => s
     | some c =>
     if c.followup = true ∧ s.sched.canTx.get? n ≠ some .followup ∧ c.dueNs + 10000000 ≤ s.devNs then clapNextUp n (fupDrop n s) else s)

-- The offer at an arbitration start (R124, R201, R208) ----------------------------------------------------------------

/-- What R125 and R121 say of a copy's frame now: 0 fits, 1 its class is closed, 2 it waits for the next window, 3 it never
fits. -/
def canFit (s : State) (p c : Nat) (f : List Byte) : Nat :=
  let d := worstNs s p f
  if (longestOpen s p c).any (fun run => decide (run < d)) then 3
  else if !gateOpen s p c then 1
  else match gateClose s p c with
    | none => 0
    | some close => if s.globalNs + d ≤ close then 0 else 2

/-- The lowest-keyed eligible copy of a list of entries, with the discards and counts on the way (R100, R121, R125). -/
def canPick (n : Nat) : List CanEntry → State → Option CanEntry × State
  | [], s => (none, s)
  | e :: t, s =>
    match entryFrame s e with
    | none => canPick n t (canTake n e.desc s)
    | some (c, f) =>
      if tooOld s c then canPick n t (canTake n e.desc (discardCopy e.desc 6 s))
      else match canFit s (20 + n) (c.q % 8) f.data with
        | 0 => (some e, s)
        | 1 => canPick n t s
        | 2 => canPick n t (inc s (R.SCH_CAN_CNT n 0))
        | _ => canPick n t (canTake n e.desc (releaseCopy e.desc (raise 163 (inc s (R.SCH_CAN_CNT n 1)))))

/-- The buffers are kept filled with the lowest keys while copies are discarded from them, until one is eligible or every
one has been judged, each once (R124, R125); `seen` holds those that have been, and `fuel` bounds the rounds. -/
def canChoose (n : Nat) : Nat → List Nat → State → Option CanEntry × State
  | 0, _, s => (none, s)
  | k + 1, seen, s =>
    let s := canRefill n s
    let l := (s.sched.canTxb.getD n []).filter (fun e => !seen.contains e.desc)
    let r := canPick n l s
    if r.1.isSome || l.isEmpty then (r.1, canRefill n r.2) else canChoose n k (seen ++ l.map CanEntry.desc) r.2

/-- The lower of two offers; the first where the keys are equal. -/
def lowerOffer (a b : Option (Nat × CanAir)) : Option (Nat × CanAir) :=
  match a, b with
  | some x, some y => if y.1 < x.1 then some y else some x
  | some x, none => some x
  | none, y => y

/-- Channel n offers: its lowest-keyed eligible copy, a due clapper frame or a due safe-state frame, by key (R384). -/
def canOffer (n : Nat) (probe : Bool) (s : State) : Option CanAir × State :=
  let r := if linkState s (20 + n) = 0 then canChoose n 320 [] s else (none, s)
  let s := r.2
  let copy := r.1.map (fun e => (e.key, CanAir.copy e))
  let clap := if probe then none else clapOffer s n
  let safe := (safeOffer s (20 + n)).map (fun x => (x.1, CanAir.safe x.2))
  ((lowerOffer (lowerOffer copy clap) safe).map Prod.snd, s)

/-- The bytes of what channel n has on the bus. -/
def airBytes (s : State) (n : Nat) : CanAir → List Byte
  | .copy e => ((entryFrame s e).map (fun x => x.2.data)).getD []
  | .safe b => safeBytes s b
  | _ => (((canChan s n).clap).bind ClapRun.frame).getD []

/-- Air a is in arbitration or transmission on channel n. -/
def canStart (n : Nat) (a : CanAir) (s : State) : State :=
  let s := { s with sched := { s.sched with canTx := s.sched.canTx.put n a } }
  let s := setCan n { canChan s n with airNs := s.devNs } s
  match a with
  | .safe b => wrf s (R.RXU_SAFE_STATE b) 31 28 2
  | .sync => match (canChan s n).clap with
    | some c => setCan n { canChan s n with clap := some { c with txNs := s.globalNs + samplePs s (20 + n), stale := false } } s
    | none => s
  | _ => s

/-- The attempt on channel n is over without success: its frame stays buffered; a safe-state frame is withdrawn once safe
state has ended (R201, R381). -/
def canAttemptEnds (n : Nat) (s : State) : State :=
  match s.sched.canTx.get? n with
  | none => s
  | some a =>
    let s := trcvIdle n { s with sched := { s.sched with canTx := s.sched.canTx.del n } }
    match a with
    | .safe b => wrf s (R.RXU_SAFE_STATE b) 31 28 (if (s.rxu.frames.get? b).isSome then 1 else 0)
    -- its next start of frame would come after a step (R281)
    | .followup => canRefill n (if (canChan s n).clap.any ClapRun.stale then clapNextUp n (fupDrop n s) else s)
    | _ => canRefill n s

/-- The frame in arbitration on channel n has lost it (R124). -/
def canArbLost (n : Nat) (s : State) : State :=
  if (s.sched.canTx.get? n).isSome then canAttemptEnds n (canCount n 3 s) else s

/-- What execCanArbitrationStart does. -/
def canArbitrationStartDo (n : Nat) (s : State) : State :=
  let s := canPrune n s
  let s := canArbLost n s
  if canSt s n = 5 ∨ canSt s n = 7 ∨ canSt s n = 8 then canSweep n s
  else if !([2, 3].contains (canSt s n)) || !canMaySend s n || (canChan s n).lonelyDue.isSome then s
  else
    let r := canOffer n false s
    match r.1 with
    | some a => canStart n a r.2
    | none => r.2

/-- CAN_ARBITRATION_START: at bus idle. An attempt that has neither succeeded nor failed by now has lost its arbitration. A
channel that selects nothing for long still discards by age (R193, R206). -/
def execCanArbitrationStart (n : Nat) (s : State) : Host.Outcome State Fault Refusal :=
  run s (.canArbitrationStart n)
    (canArbitrationStartDo n s)

/-- What execLonelyProbe does. -/
def lonelyProbeDo (n : Nat) (s : State) : State :=
  let c := canChan s n
  if canSt s n ≠ 6 ∨ s.devNs < c.lonelyNs + 100000000 then s
  else
    let s := canArbLost n (canPrune n s)
    let s := setCan n { canChan s n with lonelyNs := c.lonelyNs + (s.devNs - c.lonelyNs) / 100000000 * 100000000 } s
    if !canMaySend s n then s
    else
      let r := canOffer n true s
      match r.1 with
      | some a => canStart n a (canCount n 13 r.2)
      | none => r.2

/-- LONELY_PROBE: every 100 ms from entry the lowest-keyed eligible copy or due safe-state frame is offered once. -/
def execLonelyProbe (n : Nat) (s : State) : Host.Outcome State Fault Refusal :=
  run s (.lonelyProbe n)
    (lonelyProbeDo n s)

-- Error confinement (R204 to R210) --------------------------------------------------------------------------------------

/-- Recoveries begun in the last 60 s, and RECOV_60S. -/
def canRecent (n : Nat) (s : State) : State :=
  let l := (canChan s n).recoveries.filter (fun t => decide (s.devNs < t + 60000000000))
  wrf (setCan n { canChan s n with recoveries := l } s) (R.PORT_CAN_ERRCNT (20 + n)) 12 9 (min 15 l.length)

/-- A recovery sequence begins. -/
def canRecoveryBegin (n : Nat) (s : State) : State :=
  let s := setCan n { canChan s n with recoveries := (canChan s n).recoveries ++ [s.devNs] } s
  canRecent n (wrf s (R.PORT_CAN_STATE (20 + n)) 31 28 4)

/-- LONELY is left with cause 6; old copies are discarded first (R208, R210). -/
def lonelyLeave (n : Nat) (s : State) : State :=
  if canSt s n = 6 then canSweep n (portCause (20 + n) 6 false (canShow n s)) else s

/-- Bus-off entry: automatic recovery, or BUS_OFF_HELD (R205, R209). -/
def canBusOff (n : Nat) (s : State) : State :=
  let p := 20 + n
  let lonely := canSt s n = 6
  let s := canRecent n (canCount n 10 (setAckRun n 0 (canAttemptEnds n s)))
  let held := rdf s (R.PORT_CAN_LIMITS p) 3 0 ≤ (canChan s n).recoveries.length
  let s := setCan n { canChan s n with integrating := false } s
  let s := if held then wrf s (R.PORT_CAN_STATE p) 31 28 5 else canRecoveryBegin n s
  let s := if lonely then portCause p 6 false s else s
  let s := portFault p 2 s
  if held then portFault p 4 s else s

/-- LONELY entry (R208). -/
def lonelyEnter (n : Nat) (s : State) : State :=
  let s := setCan n { canChan s n with lonelyDue := none } s
  let s := wrf s (R.PORT_CAN_STATE (20 + n)) 31 28 6
  let s := setCan n { canChan s n with lonelyNs := s.devNs } s
  portCause (20 + n) 5 true (canCount n 12 s)

/-- The state that channel n's counters give after a change; `was`: it was error passive before. -/
def canJudge (n : Nat) (was : Bool) (s : State) : State :=
  let p := 20 + n
  if 255 < canTec s n then canBusOff n s
  else
    let s := if canSt s n = 6 then s else canShow n s
    let s := if canPassive s n && !was then portCause p 1 true (canCount n 9 s) else s
    if 16 ≤ canAckRun s n ∧ canSt s n ≠ 6 then
      -- a valid frame received in the same bit time comes first (R215)
      (if (canChan s n).lonelyDue.isSome then s
       else setCan n { canChan s n with lonelyDue := some (s.devNs + nomPs s (20 + n) / 1000) } s)
    else setCan n { canChan s n with lonelyDue := none } s

/-- In each tick: LONELY is entered once the bit time in which ACK_RUN reached 16 has passed, and the transceiver of an XL
frame's transmitter goes into fast mode for its data phase, 30 nominal bits after its start (R208, R215, R194; log entry
177). -/
def canTick (s : State) : State :=
  forEach (s.ports.can.map Prod.fst) (fun n s =>
    let c := canChan s n
    let s := if c.lonelyDue.any (fun t => decide (t ≤ s.devNs)) then
        (if 16 ≤ canAckRun s n ∧ [2, 3].contains (canSt s n) = true then lonelyEnter n s
         else setCan n { c with lonelyDue := none } s)
      else s
    if rdf s (R.PORT_CAN_STATE (20 + n)) 27 24 = 3 ∧ rdb s (R.PORT_CAN_CFG (20 + n)) 7 = true ∧
        rdf s (R.PORT_CAN_CFG (20 + n)) 2 0 = 3 ∧ c.airNs + 30 * nomPs s (20 + n) / 1000 ≤ s.devNs ∧
        (s.sched.canTx.get? n).any (fun a => busFormat (airBytes s n a) == 4) = true then
      wrf s (R.PORT_CAN_STATE (20 + n)) 27 24 4
    else s) s

/-- Code of an error in LAST_ERR. -/
def errCode : CanErr → Nat
  | .bit => 1 | .stuff => 2 | .form => 3 | .crc => 4 | .ack => 5

/-- Error signalling is disabled: the error falls in an XL data phase in fast mode (R194). -/
def canSilentErr (s : State) (n : Nat) (asTx : Bool) (place : CanWhere) : Bool :=
  rdb s (R.PORT_CAN_CFG (20 + n)) 7 && rdf s (R.PORT_CAN_CFG (20 + n)) 2 0 == 3 && place == .xlData &&
  (!asTx || (s.sched.canTx.get? n).any (fun a => busFormat (airBytes s n a) == 4))

/-- TEC and REC after an error, by ISO 11898-1 and R204: a transmitter adds 8, but for an acknowledge error while passive
with no dominant bit in its passive error flag, and for a stuff error in arbitration at a bit sent recessive and read
dominant; a receiver adds 1; both add 8 for a bit error in an active error flag or an overload flag that they send, and for
each run of dominant bits that follows. -/
def canErrCounters (n : Nat) (kind : CanErr) (asTx domInPassiveFlag : Bool) (extra8 : Nat) (place : CanWhere) (s : State) :
    State :=
  let flag := if kind = .bit then 8 else 0
  if place = .flag then
    (if asTx then setTec n (canTec s n + flag + 8 * extra8) s else setRec n (canRec s n + flag + 8 * extra8) s)
  else if asTx then
    let base := if (kind = .ack ∧ canPassive s n = true ∧ domInPassiveFlag = false) ∨
      (kind = .stuff ∧ place = .arbitrationStuff) then 0 else 8
    let s := if kind = .ack then setAckRun n (canAckRun s n + 1) s else s
    setTec n (canTec s n + base + 8 * extra8) s
  else setRec n (canRec s n + 1 + 8 * extra8) s

/-- The frame carries a delay measurement: an FD frame at its FDF edge, an XL frame at its ADS sequence (R196). -/
def hasTdc (f : List Byte) : Bool := 2 ≤ busFormat f && busFormat f ≤ 4

/-- The transmitter delay measured in air a is what TDCV reads (R196). -/
def canTdc (n tdcv : Nat) (a : CanAir) (s : State) : State :=
  if hasTdc (airBytes s n a) && rdb s (R.PORT_CAN_CFG (20 + n)) 9 then wrf s (R.PORT_CAN_TDC (20 + n)) 6 0 tdcv else s

/-- Frame f ends in a bit error: its data phase runs above 1 Mbit/s with compensation, and the measured delay plus TDCO is
more than 127 clock periods (R196). -/
def tdcOver (s : State) (n tdcv : Nat) (a : CanAir) : Bool :=
  let f := airBytes s n a
  let xl := busFormat f == 4
  hasTdc f && (xl || busBrs f) && rdb s (R.PORT_CAN_CFG (20 + n)) 9 && decide (dataPs s (20 + n) xl < 1000000) &&
  decide (127 < tdcv + rdf s (if xl then R.PORT_CAN_XBT (20 + n) else R.PORT_CAN_DBT (20 + n)) 10 4)

/-- What execCanErrorDetected does. -/
def canErrorDetectedDo (n : Nat) (kind : CanErr) (asTx : Bool) (domInPassiveFlag : Bool) (extra8 : Nat)
    (tdcv : Option Nat) (place : CanWhere) (s : State) : State :=
  let was := canPassive s n
  let s := match asTx, tdcv, s.sched.canTx.get? n with
    | true, some v, some a => canTdc n v a s
    | _, _, _ => s
  let hush := canSilentErr s n asTx place
  let s := wrf (canCount n (3 + errCode kind) s) (R.PORT_CAN_STATE (20 + n)) 23 20 (errCode kind)
  -- a flag comes after the frame: what is offered by then stays
  let s := if place = .flag then s else if asTx then canAttemptEnds n s else canArbLost n (trcvIdle n s)
  let s := if canSt s n = 7 ∨ canSt s n = 8 then s else canErrCounters n kind asTx domInPassiveFlag extra8 place s
  let s := if hush then setCan n { canChan s n with integrating := true } s else s
  canJudge n was s

/-- CAN_ERROR_DETECTED (R201, R204, R207). -/
def execCanErrorDetected (n : Nat) (kind : CanErr) (asTx : Bool) (domInPassiveFlag : Bool) (extra8 : Nat)
    (tdcv : Option Nat) (s : State) (place : CanWhere := .elsewhere) :
    Host.Outcome State Fault Refusal :=
  run s (.canErrorDetected n kind asTx domInPassiveFlag extra8 tdcv place)
    (if !canLive s n || (asTx && place != .flag && (s.sched.canTx.get? n).isNone) then s else
     canErrorDetectedDo n kind asTx domInPassiveFlag extra8 tdcv place s)

/-- What execCanRecoveryComplete does. -/
def canRecoveryCompleteDo (n : Nat) (s : State) : State :=
  let s := setAckRun n 0 (setRec n 0 (setTec n 0 s))
  let back := (canChan s n).off ≠ 0
  let s := setCan n { canChan s n with off := 0 } s
  let s := canSweep n (portCause (20 + n) 3 false (canCount n 11 (canShow n s)))
  -- a channel that came back to service in bus-off takes part in its bus only now (R203)
  if back then jStart n (portCause (20 + n) 0 false s) else s

/-- CAN_RECOVERY_COMPLETE: 128 occurrences of 11 recessive bits (R205, R210). -/
def execCanRecoveryComplete (n : Nat) (s : State) : Host.Outcome State Fault Refusal :=
  run s (.canRecoveryComplete n)
    (if canSt s n ≠ 4 then s else
     canRecoveryCompleteDo n s)

/-- CAN_RECOVER: the RECOVER command, the way out of BUS_OFF_HELD (R206). -/
def canRecoverDo (n : Nat) (val : Word) (s : State) : State :=
  (if !val.toNat.testBit 0 then s
     else
       let a := R.PORT_CAN_CMD_STATUS (20 + n)
       if canSt s n = 5 then canRecoveryBegin n (wrf s a 7 0 0) else wrf s a 7 0 2)

/-- What execCanDomTimeout does. -/
def canDomTimeoutDo (n : Nat) (s : State) : State :=
  let s := canAttemptEnds n s
  let s := if canSt s n = 4 ∨ canSt s n = 5 then s else setCan n { canChan s n with integrating := true } s
  portCause (20 + n) 7 true (canCount n 15 s)

/-- CAN_DOM_TIMEOUT: the transmitter of a channel in service is released and waits for 11 recessive bits (R207). -/
def execCanDomTimeout (n : Nat) (s : State) : Host.Outcome State Fault Refusal :=
  run s (.canDomTimeout n)
    (if canSt s n = 0 ∨ canSt s n = 9 then s else
     canDomTimeoutDo n s)

/-- What execCanProtocolException does. -/
def canProtocolExceptionDo (n : Nat) (s : State) : State :=
  let cfg := rd s (R.PORT_CAN_CFG (20 + n))
  if !canLive s n || !cfg.testBit 6 || 3 ≤ cfg % 8 then s
  else
    let s := canAttemptEnds n s
    let s := setCan n { canChan s n with integrating := true } s
    let s := wrf (canCount n 14 s) (R.PORT_CAN_STATE (20 + n)) 23 20 6
    portCause (20 + n) 8 true s

/-- CAN_PROTOCOL_EXCEPTION: a frame of a higher format with PEX = 1; no counter of errors changes (R192). -/
def execCanProtocolException (n : Nat) (s : State) : Host.Outcome State Fault Refusal :=
  run s (.canProtocolException n)
    (canProtocolExceptionDo n s)

/-- What execCanIntegrated does. -/
def canIntegratedDo (n : Nat) (s : State) : State :=
  let s := setCan n { canChan s n with integrating := false } s
  if canSt s n = 1 then jStart n (portCause (20 + n) 0 false (canShow n s)) else s

/-- CAN_INTEGRATED: 11 recessive bits have been seen. A channel that starts is UP, cause 0; one that was cut off takes
part again (R203, R207, R482). -/
def execCanIntegrated (n : Nat) (s : State) : Host.Outcome State Fault Refusal :=
  run s (.canIntegrated n)
    (canIntegratedDo n s)

-- Driver and termination (R211, R212, R218) ----------------------------------------------------------------------------

/-- What execCanTerminationApply does. -/
def canTerminationApplyDo (n : Nat) (s : State) : State :=
  let a := R.PORT_CAN_TERM (20 + n)
  let bias := rdb s a 31
  let s := setCan n { canChan s n with termPending := false } s
  -- off while the start survey measures the channel (R42)
  let on := rdb s a (scene s) && !bias && (startDone s || s.survey.canEnded.testBit n)
  let s := wrf s (R.PORT_CAN_STATE (20 + n)) 19 19 (if on then 1 else 0)
  wrf s (R.PORT_CAN_STATE (20 + n)) 18 18 (if bias then 1 else 0)

/-- CAN_TERMINATION_APPLY: at a bus idle of 11 recessive bits. -/
def execCanTerminationApply (n : Nat) (s : State) : Host.Outcome State Fault Refusal :=
  run s (.canTerminationApply n)
    (if !(canChan s n).termPending then s else
     canTerminationApplyDo n s)

/-- What execCanTrcvFault does. -/
def canTrcvFaultDo (n : Nat) (s : State) : State :=
  let s := canAttemptEnds n s
  portFault (20 + n) 12 (setCan n { canChan s n with hot := true } s)

/-- CAN_TRCV_FAULT: cause 12; the transmitter is recessive until the driver has cooled. -/
def execCanTrcvFault (n : Nat) (s : State) : Host.Outcome State Fault Refusal :=
  run s (.canTrcvFault n)
    (canTrcvFaultDo n s)

/-- What execCanDriverCooled does. -/
def canDriverCooledDo (n : Nat) (s : State) : State :=
  setCan n { canChan s n with hot := false } s

/-- CAN_DRIVER_COOLED: 10 ms later it transmits again. -/
def execCanDriverCooled (n : Nat) (s : State) : Host.Outcome State Fault Refusal :=
  run s (.canDriverCooled n)
    (canDriverCooledDo n s)

-- Reception (R199, R200) -------------------------------------------------------------------------------------------------

/-- The receive filters' answer: the first active match decides, else DEFAULT_ACCEPT. -/
def canAccept (s : State) (p : Nat) (f : List Byte) : Bool :=
  let hit (i : Nat) : Bool :=
    let w := rd s (R.PORT_CAN_FILT p i)
    w.testBit 31 && w.testBit 29 == is29 (busFormat f) &&
      (busIdent f ^^^ w % 2 ^ 29) &&& rdf s (R.PORT_CAN_FMASK p i) 28 0 == 0
  match (List.range 64).find? hit with
  | some i => !rdb s (R.PORT_CAN_FILT p i) 30
  | none => rdb s (R.PORT_CAN_CFG p) 10

/-- A valid frame from another node: counters and states of the channel (R204, R208). -/
def canHeard (n : Nat) (s : State) : State :=
  let was := canPassive s n
  let s := canCount n 0 s
  let s := if canSt s n = 7 ∨ canSt s n = 8 then s
    else setRec n (if 127 < canRec s n then 119 else canRec s n - 1) s
  let s := setAckRun n 0 s
  let lonely := canSt s n = 6
  let s := lonelyLeave n (canJudge n was s)
  -- a probe in arbitration continues as an ordinary transmission (R209)
  if lonely then s else canArbLost n s

/-- Frames of channel n that wait in its four shadow buffers for the gathering unit (R199). -/
def shadowUsed (s : State) (n : Nat) : Nat := (s.ing.filter (fun x => x.src == 20 + n && x.decided.isNone)).length

/-- A received frame with its RX_TIME (R197): global time at the sample point of its start-of-frame bit, `since` ns ago, in
steps of the channel clock's 6.25 ns (R270). -/
def canStamped (since : Nat) (f : List Byte) (s : State) : List Byte :=
  f.take 12 ++ (leBytes ((s.globalNs - since) * 4 / 25 * 25 / 4 % 0x100000000) 4).take (f.length - 12) ++ f.drop 16

/-- The data phase of another node's XL frame begins on channel n: the frame that is offered there has lost the arbitration, and
the transceiver goes into fast mode (R194). -/
def canDataPhase (n : Nat) (frame : List Byte) (s : State) : State :=
  let p := 20 + n
  if canLive s n && canModeAllows s p 4 && busFormat frame == 4 && rdb s (R.PORT_CAN_CFG p) 7 then
    let s := canArbLost n s
    if rdf s (R.PORT_CAN_STATE p) 27 24 = 3 then wrf s (R.PORT_CAN_STATE p) 27 24 5 else s
  else s

/-- What execCanFrameReceived does. Before a channel is enabled a frame shows its polarity and nothing else (R42, R47). -/
def canFrameReceivedDo (n : Nat) (frame : List Byte) (negative : Bool) (since : Nat) (s : State) : State :=
  let p := 20 + n
  if canListens s n && !canLive s n then canPolarity n negative s
  else if !canLive s n || !canModeAllows s p (busFormat frame) || 4 < busFormat frame then s
  else
    let s := canHeard n (canPolarity n negative (activity (trcvIdle n s)))
    let s := validFrame p s
    if 4 ≤ shadowUsed s n then stageOverrun p s
    else if !canAccept s p frame then canCount n 1 s
    else if isKaCan s n frame then keepaliveIn p s
    else match resyncDom s n frame with
      | some d => resyncIn n d frame s
      | none => ingBus p (canStamped since frame s) none s

/-- CAN_FRAME_RECEIVED: a frame of another node is valid at the last bit but one of its end of frame. -/
def execCanFrameReceived (n : Nat) (frame : List Byte) (negative : Bool) (since : Nat) (s : State) (dataPhase : Bool := false) :
    Host.Outcome State Fault Refusal :=
  run s (.canFrameReceived n frame negative since dataPhase)
    (if dataPhase then canDataPhase n frame s else canFrameReceivedDo n frame negative since s)

-- Success (R46, R201, R214) -----------------------------------------------------------------------------------------------

/-- Line length from acknowledge delays: the mean over the first 64 frames, halved, by the propagation constant (R46). -/
def canLength (n nearPs farPs : Nat) (s : State) : State :=
  let c := canChan s n
  if 64 ≤ c.lenN then s
  else
    let c := { c with lenN := c.lenN + 1, lenNear := c.lenNear + nearPs, lenFar := c.lenFar + farPs }
    let s := setCan n c s
    if c.lenN < 64 then s
    else
      let k := 128 * max 1 (rdf s R.SVY_PROP 15 0)
      wr s (R.SVY_CAN_LENGTH n) (min 0xFFFE (c.lenFar / k) * 0x10000 + min 0xFFFE (c.lenNear / k))

/-- A sync has been sent: its follow-up is built with the transmit time (R280). -/
def syncSent (n : Nat) (s : State) : State :=
  match (canChan s n).clap with
  | none => s
  | some c =>
    if c.stale then clapNextUp n (fupDrop n s) else
    let carry := if c.txNs / 1000000000 = c.schedNs / 1000000000 then 0 else 1
    clapPut n { c with followup := true, dueNs := s.devNs, frame := none } 0xC2 carry (c.txNs % 1000000000) s

/-- What the end of a successful transmission does with air a. -/
def airDone (n : Nat) (a : CanAir) (s : State) : State :=
  match a with
  | .copy e =>
    let len := busLen (airBytes s n a)
    let s := addCnt (inc s (R.SCH_PORT_CNT (20 + n) 0)) (R.SCH_PORT_CNT (20 + n) 1) len
    canRefill n (canTake n e.desc (releaseCopy e.desc s))
  | .sync => syncSent n (canCount n 16 s)
  | .followup => clapNextUp n (setCan n { canChan s n with clap := none } (canCount n 16 s))
  | .safe b => safeSent b s

/-- The DLC that the transmitter derives from a header (R198). -/
def canDlc (f : List Byte) : Nat :=
  let n := busLen f
  match busFormat f with
  | 4 => n - 1
  | 0 => if busRtr f then hdrWord f 2 % 16 else n
  | 1 => if busRtr f then hdrWord f 2 % 16 else n
  | _ => (([0, 1, 2, 3, 4, 5, 6, 7, 8, 12, 16, 20, 24, 32, 48, 64].findIdx? (fun x => n ≤ x)).getD 15)

/-- Frame f has ended on channel n's bus, with the DLC derived from its header, the channel's own error state as ESI in FD
frames, and no RX_TIME (R167, R198). -/
def canEmit (n : Nat) (f : List Byte) (s : State) : State :=
  let esi := (busFormat f == 2 || busFormat f == 3) && canPassive s n
  let w1 := hdrWord f 1 &&& 0xDFFFFFFF
  let g := f.take 4 ++ leBytes (w1 + (if esi then 2 ^ 29 else 0)) 4 ++ slice f 8 4 ++ leBytes 0 4 ++ f.drop 16
  emit (.canWire n (canDlc f) esi g) s

/-- What execCanTxSuccess does. -/
def canTxSuccessDo (n : Nat) (nearPs : Nat) (farPs : Nat) (tdcv : Nat) (a : CanAir) (s : State) : State :=
  let s := canTdc n tdcv a (canCount n 2 (activity s))
  let s := canEmit n (airBytes s n a) s
  let s := canLength n nearPs farPs s
  let was := canPassive s n
  let s := setAckRun n 0 (setTec n (canTec s n - 1) s)
  let s := canJudge n was s
  let s := airDone n a s
  let s := canRefill n (trcvIdle n { s with sched := { s.sched with canTx := s.sched.canTx.del n } })
  lonelyLeave n s

/-- CAN_TX_SUCCESS: the frame on the bus is acknowledged. -/
def execCanTxSuccess (n nearPs farPs tdcv : Nat) (s : State) : Host.Outcome State Fault Refusal :=
  run s (.canTxSuccess n nearPs farPs tdcv)
    (match s.sched.canTx.get? n with
     | none => s
     | some a =>
     if !canLive s n || tdcOver s n tdcv a then s else
     canTxSuccessDo n nearPs farPs tdcv a s)

end Sys2Proof.Machine
end

