-- ==== Sys2Proof/Machine/HostRing.lean ====
section
/-! DEFINITION. The PCI Express link and the host DMA rings (R458 to R469): port 18's link state, the start and the stop
of a ring, doorbells, and what a PCIe reset does. -/

namespace Sys2Proof.Machine

-- The link and port 18 (R469) -------------------------------------------------------------------------------------

/-- Bring port 18's link state and rate up to date (R463, R469): source 18 when it comes UP, 66 when it goes DOWN. -/
def hpUpdate (s : State) : State :=
  let want := hpWant s
  if want == rdb s R.HDMA_STATUS 1 then s
  else if want then linkReturn 18 (portCause 18 0 false (hpShow s))
  else linkLoss 18 (portCause 18 1 true (hpShow s))

/-- Set HDMA_STATUS LINK; any change raises source 501 (R480). -/
def linkCode (v : Nat) (s : State) : State :=
  if rdf s R.HDMA_STATUS 31 28 = v then s else raise 501 (wrf s R.HDMA_STATUS 31 28 v)

-- Stops without completion (R460, R467) ---------------------------------------------------------------------------

/-- Messages that wait for ring k are written as its descriptors allow; where it no longer runs they are aborted at once
(R463). -/
def ringFed (k : Nat) (s : State) : State := if tpRing s == some k then msgDrain s.host.msgs s else s

/-- Ring k loses what waits to be completed or signalled. -/
def ringForget (k : Nat) (s : State) : State :=
  { s with host := { s.host with wait := s.host.wait.del k, unsig := s.host.unsig.del k } }

/-- Ring k stops with ENABLE = 0 and no completion; what stands in its queue is discarded, and its completion address is
cleared (R460). -/
def ringHalt (k : Nat) (s : State) : State :=
  let s := flightsDrop k s
  let s := wrf (wrf s (R.HDMA_RING_CTRL k) 31 31 0) (R.HDMA_RING_STATE k) 31 28 0
  wrq (ringForget k s) (R.HDMA_RING_CMPL k) 0

/-- PERST_N, hot reset, function-level reset, link loss or Bus Master Enable = 0 (R460): every ring stops and port 18
goes DOWN; source 501. -/
def ringsHalt (s : State) : State :=
  hpUpdate (raise 501 (msgDrain s.host.msgs (forEach (List.range 64) ringHalt s)))

/-- The PCIe link goes down: LINK 0, width, generation and Bus Master Enable cleared, and R460. -/
def pcieDown (s : State) : State :=
  ringsHalt (wr s R.HDMA_STATUS (rd s R.HDMA_STATUS % 4))

/-- A DMA or memory error stops ring k in STOPPED_ERROR with no further completion, and line 18 is asserted (R467). -/
def ringError (k src : Nat) (s : State) : State :=
  let s := wrf (ringForget k (flightsDrop k s)) (R.HDMA_RING_STATE k) 31 28 2
  let s := { s with host := { s.host with erred := insertAsc k (s.host.erred.filter (fun x => x != k)) } }
  raiseLine src 18 (ringFed k s)

-- ENABLE (R467) ---------------------------------------------------------------------------------------------------

/-- The descriptor numbered n of ring k. -/
def descAt (s : State) (k n : Nat) : Nat × Nat × Nat := s.host.descs.getD (1024 * k + n % ringSize s k) (0, 0, 0)

/-- Complete `n` posted descriptors of ring k with ABORTED, from number `i`: a to-host ring's at once, a from-host ring's
in descriptor order behind those that wait (R465, R467). -/
def ringAbort (k : Nat) : Nat → Nat → State → State
  | 0, _, s => s
  | n + 1, i, s =>
    let kind := ringKind s k
    if kind = 3 then
      let x : PendCompl := ⟨i % 0x10000, (descAt s k i).2.1, s.devNs, false, 15, 18, s.globalNs, true⟩
      let s := { s with host := { s.host with wait := s.host.wait.put k (s.host.wait.getD k [] ++ [x]) } }
      ringAbort k n (i + 1) s
    else ringAbort k n (i + 1) (complete k 15 kind 0 (if kind = 1 then 44 else 18) 0 s.globalNs true s)

/-- Transfers under way complete; what ring k still has posted beyond the descriptors already fetched is aborted (R467). -/
def ringAbortRest (k : Nat) (s : State) : State :=
  let s := flightsFinish k s
  let w := (s.host.wait.getD k []).length
  let s := ringAbort k (ringPosted s k - w) (rdf s (R.HDMA_RING_IDX k) 31 16 + w) s
  complDrain k (s.host.wait.getD k []) s

/-- ENABLE = 0: a ring that ran completes what is posted as ABORTED; one that an error stopped completes nothing. -/
def ringOff (k : Nat) (s : State) : State :=
  if !rdb s (R.HDMA_RING_CTRL k) 31 then s else
  let ran := ringRunning s k
  let s := wrf (wrf s (R.HDMA_RING_CTRL k) 31 31 0) (R.HDMA_RING_STATE k) 31 28 0
  let s := { s with host := { s.host with offTick := s.host.offTick.put k (tickOf s) } }
  hpUpdate (ringFed k (if ran then ringAbortRest k s else s))

/-- ENABLE = 1: a defined ring starts empty with PHASE 1; a restart after an error is counted (R467). -/
def ringOn (k : Nat) (s : State) : State :=
  if rdb s (R.HDMA_RING_CTRL k) 31 then s else
  let s := wrf s (R.HDMA_RING_CTRL k) 31 31 1
  if !rdb s (R.HDMA_RING_CFG k) 31 then s else
  let s := wrf (ringForget k s) (R.HDMA_RING_IDX k) 31 16 (rdf s (R.HDMA_RING_IDX k) 15 0)
  let s := wrf (wrf s (R.HDMA_RING_STATE k) 31 28 1) (R.HDMA_RING_STATE k) 16 16 1
  let s := if s.host.erred.contains k then
      inc { s with host := { s.host with erred := s.host.erred.filter (fun x => x != k) } } (R.HDMA_CNT 5)
    else s
  hpUpdate s

/-- The fields of HDMA_RING_CTRL besides ENABLE. -/
def ringCoal (k : Nat) (v : Nat) (s : State) : State :=
  wrf (wrf s (R.HDMA_RING_CTRL k) 23 16 (fld v 23 16)) (R.HDMA_RING_CTRL k) 15 0 (fld v 15 0)

/-- A write of HDMA_RING_CTRL (R466, R467). -/
def ringCtrl (k : Nat) (v : Nat) (s : State) : State :=
  let s := ringCoal k v s
  if v.testBit 31 then ringOn k s else ringOff k s

-- Doorbells (R462, R477) ------------------------------------------------------------------------------------------

/-- A write of ENABLE = 0 to ring k waits in this tick (R477). -/
def disableWaits (s : State) (k : Nat) : Bool :=
  s.pending.any (fun c => match c with
    | .ringDisable _ q _ => q == k
    | .registerWrite _ a be v => a == R.HDMA_RING_CTRL k && be == 15 && !v.toNat.testBit 31
    | _ => false)

/-- A doorbell of ring k carries PROD (R462). A count that goes backward or exceeds the ring's size stops it; one that
meets ENABLE = 0 in its tick has its descriptors completed as ABORTED, whichever is served first (R477). -/
def doorbell (k prod : Nat) (s : State) : State :=
  let s := if disableWaits s k then ringOff k s else s
  let prod := prod % 0x10000
  let cons := rdf s (R.HDMA_RING_IDX k) 31 16
  let posted := (prod + 0x10000 - cons) % 0x10000
  let bad := decide (ringSize s k < posted ∨ posted < ringPosted s k)
  if ringRunning s k then
    if bad then
      let s := wrf (ringForget k (flightsDrop k s)) (R.HDMA_RING_STATE k) 31 28 2
      raise 499 (ringFed k { s with host := { s.host with erred := insertAsc k (s.host.erred.filter (fun x => x != k)) } })
    else ringFed k (wrf s (R.HDMA_RING_IDX k) 15 0 prod)
  else if s.host.offTick.get? k = some (tickOf s) ∧ bad = false then
    ringAbortRest k (wrf s (R.HDMA_RING_IDX k) 15 0 prod)
  else s

-- From-host frames (R464, R465) -----------------------------------------------------------------------------------

/-- Descriptor d is one that R462 and R464 allow on a from-host ring. -/
def fromHostOk (s : State) (d : Nat × Nat × Nat) (data : List Byte) : Bool :=
  decide (d.2.2 < 4) &&
  (if d.2.2.testBit 0 then decide (16 ≤ data.length) && d.2.1 == 16 + busLen data
   else decide (60 ≤ d.2.1 ∧ d.2.1 + 4 ≤ maxFrame s 18))

/-- A frame enters ingress whole from port p, 18 or 19: an Ethernet frame gets its FCS on entry (R133, R464, R471). -/
def hostIngress (p : Nat) (bus : Bool) (data : List Byte) (tsReq : Option Nat) (s : State) (slot : Option Nat := none) : State :=
  let s := activity s
  if bus then ingBus p data tsReq s false slot
  else if data.length < 60 then lkuCount p 1 s
  else ingPush ⟨p, false, withFcs data, s.devNs, scene s, .good, none, tsReq, false, false, slot⟩ s

/-- Add a completion of from-host ring k behind those that wait and write out what no longer does. -/
def complAdd (k : Nat) (x : PendCompl) (s : State) : State := complDrain k (s.host.wait.getD k [] ++ [x]) s

/-- Ring k's next descriptor, numbered n, is fetched; `data` is what its buffer holds. -/
def descRun (k n : Nat) (data : List Byte) (s : State) : State :=
  let d := descAt s k n
  let b := padTo (data.take d.2.1) (min d.2.1 9216)
  if fromHostOk s d b then
    let ts := d.2.2.testBit 1
    -- the bytes of a frame count its FCS, which LEN does not (R9, R464)
    let len := if d.2.2.testBit 0 then d.2.1 else d.2.1 + 4
    let s := addCnt (inc s (R.PORT18_CNT 0)) (R.PORT18_CNT 1) len
    let s := addCnt s (R.HDMA_RING_CNT k 1) len
    let s := complAdd k ⟨n, len, s.devNs, ts, 0, 18, s.globalNs, true⟩ s
    hostIngress 18 (d.2.2.testBit 0) b (if ts then some (tsOfRing k n) else none) s
  else
    let s := raise 499 (inc (inc s (R.HDMA_RING_CNT k 3)) (R.PORT18_CNT 6))
    complAdd k ⟨n, d.2.1, s.devNs, false, 2, 18, s.globalNs, true⟩ s

/-- A from-host GENERAL ring that runs, with the link up and Bus Master Enable (R461, R469). -/
def canFetch (s : State) (k : Nat) : Bool := rdf s (R.HDMA_RING_CFG k) 31 28 == 12 && ringRunning s k && dmaUp s && !lineBit s R.RXU_FENCED_LINES 18

-- Commands --------------------------------------------------------------------------------------------------------

/-- PCIE_RESET: PERST_N, hot reset or function-level reset. -/
def execPcieReset (s : State) : Host.Outcome State Fault Refusal :=
  run s .pcieReset
    (pcieDown s)

/-- What execPcieLinkUp does. -/
def pcieLinkUpDo (gen : Nat) (width : Nat) (bme : Bool) (s : State) : State :=
  let was := rdb s R.HDMA_STATUS 2
  let s := wrf (wrf s R.HDMA_STATUS 27 24 gen) R.HDMA_STATUS 23 20 width
  let s := wrf s R.HDMA_STATUS 2 2 (if bme then 1 else 0)
  let s := linkCode 2 s
  if was && !bme then ringsHalt s else hpUpdate s

/-- PCIE_LINK_UP: the link trains up with its generation, width and Bus Master Enable (R458, R469). -/
def execPcieLinkUp (gen width : Nat) (bme : Bool) (s : State) : Host.Outcome State Fault Refusal :=
  run s (.pcieLinkUp gen width bme)
    (if s.gaf.inReset ∨ 2 < rung s then s else
     pcieLinkUpDo gen width bme s)

/-- A read of the descriptor or completion memory of running to-host ring k met an error (R480). -/
def ringMemory (k : Nat) (ecc : Ecc) (s : State) : State :=
  match ecc with
  | .ok => s
  | .corrected => raise 506 (inc s R.HDMA_ECC_COUNT)
  | .multi => ringError k 507 s

/-- What execHostDescFetch does. -/
def hostDescFetchDo (k : Nat) (data : List Byte) (ecc : Ecc) (s : State) : State :=
  if !rdb s (R.HDMA_RING_CFG k) 30 && ringRunning s k then ringMemory k ecc s else
  let w := (s.host.wait.getD k []).length
  if !canFetch s k || decide (ringPosted s k ≤ w) then s
  else
    let s := if ecc = .corrected then raise 506 (inc s R.HDMA_ECC_COUNT) else s
    if ecc = .multi then ringError k 507 s
    else descRun k ((rdf s (R.HDMA_RING_IDX k) 31 16 + w) % 0x10000) data s

/-- HOST_DESC_FETCH: the next descriptor of from-host ring k, where one is posted; a multi-bit error in descriptor memory
stops the ring (R480). On a to-host ring it is the error alone that the command brings: the module fetches such a descriptor
itself (log entry 257). -/
def execHostDescFetch (k : Nat) (data : List Byte) (ecc : Ecc) (s : State) : Host.Outcome State Fault Refusal :=
  run s (.hostDescFetch k data ecc)
    (hostDescFetchDo k data ecc s)

/-- RING_ENABLE. -/
def ringEnableDo (k : Nat) (val : Word) (s : State) : State :=
  (ringOn k (ringCoal k val.toNat s))

/-- RING_DISABLE. -/
def ringDisableDo (k : Nat) (val : Word) (s : State) : State :=
  (ringOff k (ringCoal k val.toNat s))

/-- RING_DMA_ERROR: an error on a transfer of a ring that runs (R467). -/
def execRingDmaError (k : Nat) (s : State) : Host.Outcome State Fault Refusal :=
  run s (.ringDmaError k)
    (if ringRunning s k then ringError k 500 (inc s (R.HDMA_CNT 0)) else s)

/-- COMPLETION_COALESCE_EXPIRE: COAL_US since the oldest unsignalled completion of ring k (R466). -/
def execCompletionCoalesceExpire (k : Nat) (s : State) : Host.Outcome State Fault Refusal :=
  run s (.completionCoalesceExpire k)
    (match s.host.unsig.get? k with
     | none => s
     | some u =>
     if u.2 + rdf s (R.HDMA_RING_CTRL k) 15 0 * 1000 ≤ s.devNs then ringSignal k s else s)

/-- What execTsReqTimeout does. -/
def tsReqTimeoutDo (k : Nat) (s : State) : State :=
  if 64 ≤ k then
    match s.host.injSince.get? (k - 64) with
    | some t =>
      if t + 100000000 ≤ s.devNs then
        let s := { s with host := { s.host with injSince := s.host.injSince.del (k - 64) } }
        raise 510 (wr s (R.PORT19_CP_RES (k - 64)) 5)
      else s
    | none => s
  else match (s.host.wait.getD k []).find? PendCompl.waits with
    | some x =>
      if x.sinceNs + 100000000 ≤ s.devNs then
        raise 510 (complSettle k x.n 5 18 s.globalNs true (inc s (R.PORT18_CNT 7)))
      else s
    | none => s

/-- TS_REQ_TIMEOUT: the oldest frame of ring k, or of injection slot k − 64, that waits for its stamp has waited 100 ms
(R465, R471). -/
def execTsReqTimeout (k : Nat) (s : State) : Host.Outcome State Fault Refusal :=
  run s (.tsReqTimeout k)
    (tsReqTimeoutDo k s)

/-- What execTransportRingWaitExpire does. -/
def transportRingWaitExpireDo (s : State) : State :=
  let late (m : List Byte × Nat × Bool) : Bool := decide (m.2.1 + 1000000000 ≤ s.devNs)
  let s' := { s with host := { s.host with msgs := s.host.msgs.filter (fun m => !late m) } }
  forEach (s.host.msgs.filter late) (fun m s => tpCount m.2.2 2 s) s'

/-- TRANSPORT_RING_WAIT_EXPIRE: messages that have waited 1,000 ms for a descriptor are counted as ABORTED (R463). -/
def execTransportRingWaitExpire (s : State) : Host.Outcome State Fault Refusal :=
  run s .transportRingWaitExpire
    (transportRingWaitExpireDo s)

end Sys2Proof.Machine
end

