-- ==== Sys2Proof/Machine/TimeStep.lean ====
section
/-! DEFINITION. A step of global time (R269, R271, R278, R281): what falls due at its boundary is served first, under the old
time. -/

namespace Sys2Proof.Machine

/-- A step abandons the follow-ups that wait for their start of frame, and those of syncs whose transmit time has passed
(R281); one that is on the bus is abandoned if its attempt fails. -/
def stepFups (s : State) : State :=
  forEach (List.range 16) (fun n s =>
    match (canChan s n).clap with
    | some c =>
      let mark (s : State) : State := setCan n { canChan s n with clap := some { c with stale := true } } s
      if c.followup then (if s.sched.canTx.get? n = some .followup then mark s else clapNextUp n (fupDrop n s))
      else if s.sched.canTx.get? n = some .sync ∧ c.txNs ≤ s.globalNs then mark s
      else s
    | none => s) s

/-- What falls due by the old time at the boundary of a step: clapper syncs, a snapshot, gate entries (R271). -/
def stepServe (s : State) : State :=
  let s := forEach s.tim.clapNext (fun x s => if x.2 ≤ s.globalNs ∧ clapOn s x.1 then clapperSyncDueDo x.1 x.2 s else s) s
  let s := if snapDue s then snapScheduleDo s else s
  forEach s.sched.gates (fun x s => if x.2.endNs ≤ s.globalNs then gateEntryChangeDo x.1 .ok x.2 s else s) s

/-- A step from `old` to `g` meets the armed ACT_TIME: due at its boundary under the old time, or crossed forward (R278,
R435). -/
def actCross (old g : Nat) (s : State) : State :=
  let t := actTimeNs s
  if rdb s R.UPD_STATUS 1 && rdf s R.TIM_STATUS 7 6 != 0 && decide ((t ≤ old ∧ old < t + 1001) ∨ (old < t ∧ t ≤ g)) then
    { s with upd := { s.upd with crossed := true } }
  else s

/-- Global time steps (R271): what is due is served; STEPS, source 257, gates (R119), schedules (R278), follow-ups (R281). -/
def timeStepTo (g : Nat) (s : State) : State :=
  let old := s.globalNs
  let s := stepFups (stepServe s)
  let s := { s with globalNs := g, tim := { s.tim with step := none } }
  let s := raise 257 (inc s (R.TIM_CNT 0))
  let s := if g ≤ old + 1000 ∧ old ≤ g + 1000 then s else gatesStep old s
  actCross old g (schedMove (old ≤ g) s)

/-- What execTimeStep does. -/
def timeStepDo (s : State) : State :=
  match s.tim.step with
  | none => s
  | some (due, absolute, v) =>
    if due ≤ s.devNs then timeStepTo (if absolute then v.toNat else ((s.globalNs : Int) + v).toNat) s else s

/-- TIME_STEP: a step that waits is made at its tick boundary. -/
def execTimeStep (s : State) : Host.Outcome State Fault Refusal :=
  run s .timeStep
    (timeStepDo s)

end Sys2Proof.Machine
end

