-- ==== Sys2Proof/Machine/Rxu.lean ====
section
/-! DEFINITION. The reaction unit's commands (chapter 15): fault lines, escalation, shadows, safe state and its release,
line tests and safe-state frames. -/

namespace Sys2Proof.Machine

/-- Result of a command of the reaction unit. -/
def rxuResult (code : Nat) (s : State) : State := wr s R.RXU_CMD_STATUS code

-- Fault lines (R373 to R377, R383, R385) -----------------------------------------------------------------------------

/-- A multi-bit error in the recorder's pointers or buffers: source 458, line 44, rings restarted empty (R389). -/
def recMemoryFault (s : State) : State := recRestart (raiseLine 458 44 s)

/-- Event source that the reaction unit raises itself for a line (R398). -/
def lineSource (l : Nat) : Option Nat :=
  match l with
  | 19 => some 431 | 78 => some 432 | 79 => some 433 | 81 => some 434 | 76 => some 435 | _ => none

/-- What execFaultLineAssert does. -/
def faultLineAssertDo (l : Nat) (s : State) : State :=
  if l = 44 then recMemoryFault s
  else if l = 82 then raiseLine 491 82 (inc s (R.UPD_CNT 15))  -- an uncorrectable NAND read
  else match lineSource l with
    | some src => if isLevelLine l && lineBit s R.RXU_LINE_STATE l then s else raiseLine src l s
    | none => assertLine l s

/-- FAULT_LINE_ASSERT: a detector asserts line l. -/
def execFaultLineAssert (l : Nat) (s : State) : Host.Outcome State Fault Refusal :=
  run s (.faultLineAssert l)
    (faultLineAssertDo l s)

/-- FAULT_LINE_DEASSERT: the condition of a level line ends. -/
def execFaultLineDeassert (l : Nat) (s : State) : Host.Outcome State Fault Refusal :=
  run s (.faultLineDeassert l)
    (if isLevelLine l then deassertLine l s else s)

/-- Mark line l's action done now: it settles from here. -/
def actionDone (l doneNs : Nat) (s : State) : State :=
  let f (a : Reaction) : Reaction := if a.line = l then { a with doneNs := some doneNs } else a
  let s := { s with rxu := { s.rxu with actions := s.rxu.actions.map f } }
  wr s (R.RXU_ENTRY_STATE l) (2 * 2 ^ 28 + rdf s (R.RXU_ENTRY_SETTLE l) 15 0)

/-- Line l's RESET_UNIT still runs. -/
def resetting (s : State) (l : Nat) : Option Reaction :=
  s.rxu.actions.find? (fun a => a.line == l && a.act == 1 && a.doneNs.isNone)

/-- RESET_UNIT_DONE: the unit reports ready, and its reaction settles (R374). -/
def execResetUnitDone (l : Nat) (s : State) : Host.Outcome State Fault Refusal :=
  run s (.resetUnitDone l)
    (if (resetting s l).isSome then actionDone l s.devNs s else s)

/-- The unit of line l reports ready at this instant. -/
def readyWaits (s : State) (l : Nat) : Bool :=
  s.pending.any (fun c => match c with
    | .resetUnitDone k => k == l
    | _ => false)

/-- What execReactionEscalate does. -/
def reactionEscalateDo (l : Nat) (a : Reaction) (s : State) : State :=
  let s := raise 421 (inc (actionDone l (s.devNs + 20000) s) (R.RXU_CNT 5))
  let s := if rdf s R.RXU_STATUS 27 24 = 1 then stormCheck l (stormPush s) else s
  enterSafe 2 l false s

/-- REACTION_ESCALATE: a reset that is not complete within LIMIT_MS becomes safe state (R376). -/
def execReactionEscalate (l : Nat) (s : State) : Host.Outcome State Fault Refusal :=
  run s (.reactionEscalate l)
    (match resetting s l with
     | none => s
     | some a =>
     -- a unit that is ready in the same cycle wins (R385)
     if s.devNs < a.startNs + rdf s (R.RXU_ENTRY_CFG l) 15 0 * 1000000 ∨ readyWaits s l = true then s else
     reactionEscalateDo l a s)

/-- SHADOW_SETTLE_END: shadows whose settle time has passed are lifted (R376). -/
def execShadowSettleEnd (l : Nat) (s : State) : Host.Outcome State Fault Refusal :=
  run s (.shadowSettleEnd l)
    (settleEnd s)

/-- The first implemented line from n on. -/
def nextLine (n : Nat) : Option Nat := (List.range 128).find? (fun l => decide (n ≤ l) && lineListed l)

/-- Line l's test is due: lines are taken in ascending order, each 10 µs after the last; a pass begins at a start before tL,
and then every TEST_PERIOD_S (R383). -/
def lineTurn (s : State) (l : Nat) : Bool :=
  match s.rxu.testNext with
  | some n => nextLine n == some l && decide (s.rxu.testAt ≤ s.devNs)
  | none => nextLine 0 == some l && s.rxu.testDue.any (fun t => decide (t ≤ s.devNs))

/-- Line l's window is over: the next line's comes, or the pass ends. -/
def lineTested (l : Nat) (s : State) : State :=
  let start := if s.rxu.testNext.isSome then s.rxu.testStart else s.devNs
  let period := rdf s R.RXU_TEST_CFG 16 0
  let next := nextLine (l + 1)
  let due := if next.isSome then s.rxu.testDue
    else if sheetLive s && period != 0 then some (start + period * 1000000000) else none
  { s with rxu := { s.rxu with testNext := next, testAt := s.devNs + 10000, testStart := start, testDue := due } }

/-- What execLineTest does. -/
def lineTestDo (l : Nat) (registered : Bool) (s : State) : State :=
  let s := lineTested l s
  if registered then inc s (R.RXU_CNT 8)
  else raiseLine 426 83 (inc (inc s (R.RXU_CNT 8)) (R.RXU_CNT 9))

/-- LINE_TEST: the test assertion of an implemented line takes no action; one that does not register asserts line 83
(R383). -/
def execLineTest (l : Nat) (registered : Bool) (s : State) : Host.Outcome State Fault Refusal :=
  run s (.lineTest l registered)
    (if !lineTurn s l then s else
     lineTestDo l registered s)

/-- What execRxuTableFault does. -/
def rxuTableFaultDo (ecc : Ecc) (s : State) : State :=
  if ecc = .corrected then raise 430 (inc s R.RXU_ECC_COUNT)
  else
    let s := if rdf s R.RXU_STATUS 31 28 = 2 then s else inc s (R.RXU_CNT 3)
    raise 425 (enterSafe 4 0 true s)

/-- RXU_TABLE_FAULT: the unit's own fault is latched safe state without the table; a corrected error is counted (R382). -/
def execRxuTableFault (ecc : Ecc) (s : State) : Host.Outcome State Fault Refusal :=
  run s (.rxuTableFault ecc)
    (rxuTableFaultDo ecc s)

-- Safe state (R378 to R381) ------------------------------------------------------------------------------------------

/-- ENTER_SAFE: safe state with cause HOST. -/
def enterSafeDo (s : State) : State :=
  (rxuResult 0 (enterSafe 5 0 false s))

/-- The low pulse of FAULT_N has lasted: PULSE_DONE in safe state; where that ended during the pulse, FAULT_N is released now
(R380). -/
def pulseDone (s : State) : State :=
  if inSafe s then wrf s R.RXU_FAULTN 1 1 1
  else wrf { s with rxu := { s.rxu with safeSince := none } } R.RXU_STATUS 1 1 0

/-- FAULTN_PULSE_DONE: 1.0 ms after t2 (R380). -/
def execFaultnPulseDone (s : State) : Host.Outcome State Fault Refusal :=
  run s .faultnPulseDone
    (match s.rxu.safeSince with
     | none => s
     | some t =>
     if t + 1000000 ≤ s.devNs then pulseDone s else s)

/-- Host software or the safety pair. -/
def hostOrPair (req : Requester) : Bool := reqIsHost req || req == .safetyPair

/-- RXU_FAULTN_WRITE: LEVEL_LOW after PULSE_DONE in safe state, else DENIED (R380). -/
def rxuFaultnWriteDo (req : Requester) (val : Word) (s : State) : State :=
  (if inSafe s && rdb s R.RXU_FAULTN 1 && hostOrPair req then
       let v := val.toNat % 2
       wrf (wrf s R.RXU_FAULTN 0 0 v) R.RXU_STATUS 1 1 v
     else deniedWrite req R.RXU_FAULTN s)

/-- The port is in service by its own state: a return of its link follows safe state. -/
def portServes (s : State) (p : Nat) : Bool :=
  portEnabled s p && !segDown s p &&
  (if isEthPort p then linked s p
   else if isCanPort p then canSt s (p - 20) != 0 && canSt s (p - 20) != 9
   else linRuns s p)

/-- Safe state ends (R381): ports return, outputs take their stored levels, frames not yet started are withdrawn. -/
def leaveSafe (s : State) : State :=
  -- FAULT_N stays low for 1.0 ms from t2 (R380)
  let pulse := s.rxu.safeSince.isSome && !rdb s R.RXU_FAULTN 1
  let s := wrf (wrf s R.RXU_STATUS 31 28 0) R.RXU_STATUS 1 1 (if pulse then 1 else 0)
  let s := wr s R.RXU_FAULTN 1
  let s := { s with rxu := { s.rxu with safeSince := if pulse then s.rxu.safeSince else none, frames := [] } }
  let s := forEach (List.range 32) (fun b s =>
    if rdf s (R.RXU_SAFE_STATE b) 31 28 = 2 then s else wr s (R.RXU_SAFE_STATE b) 0) s
  let s := forEach (List.range 16 ++ (List.range 24).map (· + 20)) (fun p s =>
    if portServes s p then poolUp p s
    -- a link-loss hold that still runs shows as HOLD again (R101, R379)
    else if holding s p && linkState s p == 2 then wrf s (R.CPL_PORT_STATE p) 9 8 1 else s) s
  let s := forEach (List.range 4) soApply s
  raise 418 (inc s (R.RXU_CNT 2))

/-- A release command is refused with a code: source 427; DENIED raises 429 too, BUSY is counted (R381). -/
def releaseRefused (code : Nat) (s : State) : State :=
  let s := if code = 1 then inc s (R.RXU_CNT 10) else s
  let s := raise 427 (rxuResult code s)
  if code = 2 then raise 429 s else s

/-- A line whose action is SAFE_STATE asserts in this tick: it comes before a release (R385). -/
def safeAsserts (s : State) : Bool :=
  s.rxu.actions.any (fun a => a.act == 3 && a.startNs / 1000 == tickOf s) ||
  s.pending.any (fun c => match c with
    | .faultLineAssert l => wouldSafe s l
    | _ => false)

/-- Requesters of RELEASE: host software, and the safety pair until line 78 or 79 shows a fault of it (R381, R385). -/
def mayRelease (req : Requester) (s : State) : Bool := reqIsHost req || (req == .safetyPair && !s.rxu.pairFault)

/-- RELEASE: ends an unlatched safe state. A SAFE_STATE line of the same tick comes first, from NORMAL too: BUSY (R381,
R385). -/
def releaseDo (req : Requester) (s : State) : State :=
  (let st := rdf s R.RXU_STATUS 31 28
     if st = 2 ∨ mayRelease req s = false ∨ (st = 0 ∧ safeAsserts s = false) then releaseRefused 2 s
     else if !rdb s R.RXU_FAULTN 1 || levelHeld s || safeAsserts s then
       releaseRefused 1 s
     else rxuResult 0 (leaveSafe s))

/-- The release tag that is right now: the GMAC of R381 under key i. -/
def releaseTag (s : State) (i : Nat) : Nat :=
  let chal := beBytes (cnt s R.RXU_REL_CHAL) 8
  Config.gcmTag (keyVal s i) (beBytes 0x524C5300 4 ++ chal) (chal ++ beBytes (rd s R.RXU_LATCH_COUNT) 4) [] % 2 ^ 128

/-- The tag the host has written: byte 4i in [31:24] of word i. -/
def releaseGiven (s : State) : Nat :=
  [0, 1, 2, 3].foldl (fun t i => t * 2 ^ 32 + rd s (R.RXU_REL_TAG i)) 0

/-- RELEASE_AUTH: an authenticated tag releases a latched safe state (R381). -/
def releaseAuthDo (req : Requester) (s : State) : State :=
  (let i := rdf s R.RXU_RELEASE_CFG 11 0
     let soon := s.rxu.lastTagFail.any (fun t => decide (s.devNs < t + 10000000000))
     if rdf s R.RXU_STATUS 31 28 ≠ 2 ∨ reqIsHost req = false ∨ i = 0xFFF ∨ lifecycle s ≠ 1 ∨ ktUsage s i 4 = false then
       releaseRefused 2 s
     else if soon then releaseRefused 1 s
     else
       let u := keyUse i s
       if u.1 ≠ 0 then releaseRefused u.1 u.2
       else if releaseGiven u.2 = releaseTag u.2 i then rxuResult 0 (leaveSafe u.2)
       else
         let s := { u.2 with rxu := { u.2.rxu with lastTagFail := some u.2.devNs } }
         let s := wrq s R.RXU_REL_CHAL (Config.drbg s.drawn % 0x10000000000000000)
         releaseRefused 6 { s with drawn := s.drawn + 1 })

-- Safe-state frames on Ethernet (R384) ---------------------------------------------------------------------------------

/-- What MACSEC_OUT makes of a safe-state frame of port p, and the state after it; none: it is skipped (R313). One whose SA is
END counts OUT_COUNTER_END too (R314). -/
def safeProtect (p : Nat) (b : List Byte) (s : State) : Option (List Byte) × State :=
  if !secyOn s p then (some b, s)
  else if secBypass b then (some b, bypass p 12 1 s)
  else if !rdb s R.CIP_STATUS 0 || lifecycle s != 1 then (none, s)
  else match txSa s p with
    | none => (none, s)
    | some a =>
      let key := rdf s (R.CIP_TX_SA p a) 11 0
      if txEnd s p a then (none, inc s (R.CIP_PORT_CNT p 13))
      else if (keyDeny s (key, 3)).isSome then (none, s)
      else
        let t := pnTake p a s
        let an := rdf s (R.CIP_TX_SA p a) 29 28
        let f := secProtect (keyVal s key) (txIv s p a t.1) (cnt s (R.CIP_SECY_TXSCI p)) an t.1 (rdb s (R.CIP_SECY_CFG p) 30)
          (rdb s (R.CIP_SECY_CFG p) 28) b
        (some f, outCounts p (b.length - 16) t.2)

/-- Send buffer b's frame on Ethernet port p at this frame boundary, gates not applied. -/
def safeEth (b p : Nat) (s : State) : State :=
  if !linked s p then s
  else
    let r := safeProtect p (withFcs (safeBytes s b)) (lpiExit p s)
    match r.1 with
    | none => safeNext b 5 (inc r.2 (R.RXU_CNT 13))
    | some f => safeSent b (emit (.wire p f false) r.2)

/-- What execSafeFrameDue does. -/
def safeFrameDueDo (b : Nat) (r : SafeFrameRun) (s : State) : State :=
  let s := wrf s (R.RXU_SAFE_STATE b) 31 28 1
  let p := safePort s b
  if isEthPort p then safeEth b p s else s

/-- SAFE_FRAME_DUE: buffer b is due. On CAN its frame waits for an arbitration start. -/
def execSafeFrameDue (b : Nat) (s : State) : Host.Outcome State Fault Refusal :=
  run s (.safeFrameDue b)
    (match s.rxu.frames.get? b with
     | none => s
     | some r =>
     if !inSafe s || s.devNs < r.dueNs || rdf s (R.RXU_SAFE_STATE b) 31 28 == 2 then s else
     safeFrameDueDo b r s)

/-- SAFE_FRAME_LATE: not sent within 100 ms of being due. -/
def execSafeFrameLate (b : Nat) (s : State) : Host.Outcome State Fault Refusal :=
  run s (.safeFrameLate b)
    (match s.rxu.frames.get? b with
     | none => s
     | some r =>
     if rdf s (R.RXU_SAFE_STATE b) 31 28 = 1 ∧ r.dueNs + 100000000 ≤ s.devNs then safeNext b 4 (raise 428 (inc s (R.RXU_CNT 12))) else s)

end Sys2Proof.Machine
end

