-- ==== Sys2Proof/Machine/Image.lean ====
section
/-! DEFINITION. Takes (chapter 17): shot lists and their signatures (R422 to R425, R407), take states, the boot-pointer
and floor records (R419, R420, R426), and the resident loader's start (R421, R431, R433). -/

namespace Sys2Proof.Machine

-- Signature blocks (R407) ---------------------------------------------------------------------------------------------

/-- Hash chains of an LM-OTS type that the module accepts: LMOTS_SHA256_N32 with W1, W2, W4, W8 (R407). -/
def otsChains (t : Nat) : Option Nat :=
  match t with
  | 1 => some 265 | 2 => some 133 | 3 => some 67 | 4 => some 34 | _ => none

/-- Height of an LMS type that the module accepts: LMS_SHA256_M32 with H5, H10, H15, H20 (R407). -/
def lmsHeight (t : Nat) : Option Nat :=
  match t with
  | 5 => some 5 | 6 => some 10 | 7 => some 15 | 8 => some 20 | _ => none

/-- Both type words of an LMS public key are accepted (R407). -/
def lmsTypesOk (key : List Byte) : Bool := (lmsHeight (beAt key 0 4)).isSome && (otsChains (beAt key 4 4)).isSome

/-- The type words of a signature's level and of the `n` levels below it, each the signed public key of the next, are accepted
(R407, RFC 8554). -/
def hssLevelsOk : Nat → List Byte → Bool
  | n, sig =>
    match otsChains (beAt sig 4 4) with
    | none => false
    | some p =>
      let o := 40 + 32 * p
      match lmsHeight (beAt sig o 4) with
      | none => false
      | some h =>
        let next := sig.drop (o + 4 + 32 * h)
        match n with
        | 0 => true
        | n + 1 => lmsTypesOk next && hssLevelsOk n (next.drop 56)

/-- Parameter sets of an HSS key and of a signature under it: 1 to 3 levels of accepted types (R407). -/
def hssOk (key sig : List Byte) : Bool :=
  let levels := beAt key 0 4
  decide (1 ≤ levels ∧ levels ≤ 3) && lmsTypesOk (key.drop 4) && beAt sig 0 4 == levels - 1 && hssLevelsOk (levels - 1) (sig.drop 4)

/-- A signature block verifies over `msg` under `key`: algorithm, parameter sets, signer, length, signature. -/
def sigOk (key msg blk : List Byte) : Bool :=
  let n := leAt blk 20 4
  leAt blk 0 4 == 1 && slice blk 4 16 == slice key 12 16 && decide (n ≤ 16384 ∧ 24 + n ≤ blk.length) &&
  hssOk key (slice blk 24 n) && Config.hssVerify key msg (slice blk 24 n)

-- Shot list (R422 to R424) --------------------------------------------------------------------------------------------

/-- One entry of the part table (R422). -/
structure ImgPart where
  ty : Nat
  signer : Nat
  inst : Nat
  version : Nat
  off : Nat
  size : Nat
  digest : List Byte
  deriving DecidableEq, Repr

def slCount (b : List Byte) : Nat := leAt b 6 2
def slBody (b : List Byte) : Nat := leAt b 8 4
def slLen (b : List Byte) : Nat := leAt b 12 4
def slOem (b : List Byte) : Nat := leAt b 16 4
def slSv (b : List Byte) : Nat := leAt b 20 4
def slTimed (b : List Byte) : Bool := (leAt b 32 2).testBit 0
def slAtTimeOnly (b : List Byte) : Bool := (leAt b 32 2).testBit 1
def slActNs (b : List Byte) : Nat := leAt b 36 4
def slActSec (b : List Byte) : Nat := leAt b 40 8 % 2 ^ 48
def slImageLen (b : List Byte) : Nat := leAt b 48 4

def slPart (b : List Byte) (i : Nat) : ImgPart :=
  let o := 64 + 64 * i
  ⟨byteAt b o, byteAt b (o + 1), byteAt b (o + 2), leAt b (o + 4) 4, leAt b (o + 8) 4, leAt b (o + 12) 4, slice b (o + 16) 32⟩

def slParts (b : List Byte) : List ImgPart := (List.range (min 10 (slCount b))).map (slPart b)

/-- Vendor block (R424). -/
def vbOff (b : List Byte) : Nat := 64 + 64 * slCount b
def vbOem (b : List Byte) : Nat := leAt b (vbOff b + 8) 4
def vbAnchor (b : List Byte) : Nat := leAt b (vbOff b + 12) 4
def vbOemKey (b : List Byte) : List Byte := slice b (vbOff b + 16) 60
def vbCompatKey (b : List Byte) : List Byte := slice b (vbOff b + 76) 60
def vbCount (b : List Byte) : Nat := leAt b (vbOff b + 136) 2
def vbSig (b : List Byte) : Nat := vbOff b + 140 + 40 * vbCount b

/-- Entry i of the vendor block: TYPE, VERSION, DIGEST. -/
def vbEntry (b : List Byte) (i : Nat) : Nat × Nat × List Byte :=
  let o := vbOff b + 140 + 40 * i
  (byteAt b o, leAt b (o + 4) 4, slice b (o + 8) 32)

/-- Largest size of a part type (R423). -/
def partMax (ty : Nat) : Nat :=
  match ty with
  | 1 => 32 * 0x100000 | 2 => 0x100000 | 3 => 2 * 0x100000 | 4 => 0x100000 | 5 => 0x10000 | 6 => 16 * 0x100000
  | 7 => 4 * 0x100000 | _ => 0

/-- No two parts overlap. -/
def partsApart : List ImgPart → Bool
  | [] => true
  | p :: t => t.all (fun q => decide (p.off + p.size ≤ q.off ∨ q.off + q.size ≤ p.off)) && partsApart t

/-- The part follows R423. -/
def partFormOk (p : ImgPart) : Bool :=
  decide (1 ≤ p.ty ∧ p.ty ≤ 7 ∧ p.size ≤ partMax p.ty ∧ p.off % 65536 = 0 ∧ 65536 ≤ p.off) &&
  p.signer == (if p.ty ≤ 5 then 0 else 1) && (p.ty != 7 || decide (p.inst ≤ 3))

/-- Bytes of a signature block with n signature bytes: padded to a multiple of 4 (R407). -/
def sigBytes (n : Nat) : Nat := ceilDiv (24 + n) 4 * 4

/-- `n` bytes at offset o are 0. -/
def zeroAt (b : List Byte) (o n : Nat) : Bool := (slice b o n).all (fun x => x == 0)

/-- The signature block at o is padded with 0x00 (R407). -/
def sigPadOk (b : List Byte) (o : Nat) : Bool := let n := leAt b (o + 20) 4; zeroAt b (o + 24 + n) (sigBytes n - 24 - n)

/-- Every byte of the shot list's header and part table that R422 gives as 0 is 0, and so are the FLAGS bits from 2 on. -/
def slZeros (b : List Byte) : Bool :=
  decide (leAt b 32 2 < 4) && zeroAt b 34 2 && zeroAt b 52 8 &&
  (List.range (min 10 (slCount b))).all (fun i => zeroAt b (67 + 64 * i) 1 && zeroAt b (112 + 64 * i) 16)

/-- BODY_LEN ends the vendor block, and LENGTH the OEM signature block (R422, R424). -/
def slLengths (b : List Byte) : Bool :=
  decide (slLen b ≤ 65536 ∧ slBody b % 4 = 0) && slBody b == vbSig b + sigBytes (leAt b (vbSig b + 20) 4) &&
  slLen b == slBody b + sigBytes (leAt b (slBody b + 20) 4) && sigPadOk b (vbSig b) && sigPadOk b (slBody b)

/-- Step 1 of R425. -/
def slFormOk (b : List Byte) : Bool :=
  let ps := slParts b
  leAt b 0 4 == 0x4C534758 && leAt b 4 2 == 1 && leAt b 60 4 == crc32 (b.take 60) &&
  decide (6 ≤ slCount b ∧ slCount b ≤ 10 ∧ slOem b ≠ 0) && slLengths b && slZeros b &&
  ps.all partFormOk && partsApart ps && decide ((ps.filter (fun p => p.ty == 7)).length ≤ 4) &&
  slImageLen b == (ps.map (fun p => p.off + p.size)).foldl max 0 && decide (slImageLen b + 0x100000 ≤ NandRegion.takeA.bytes)

/-- Steps 3 of R425: the vendor block under the vendor key, then the whole body under OEM_KEY. -/
def slSignedOk (b : List Byte) : Bool :=
  leAt b (vbOff b) 4 == 0x42564758 &&
  sigOk Config.vendorKey (slice b (vbOff b) (140 + 40 * vbCount b)) (slice b (vbSig b) (slBody b - vbSig b)) &&
  sigOk (vbOemKey b) (b.take (slBody b)) (slice b (slBody b) (slLen b - slBody b))

/-- The vendor block's own form: 5 entries, and its 0 bytes (R424). -/
def vbFormOk (b : List Byte) : Bool :=
  vbCount b == 5 && zeroAt b (vbOff b + 138) 2 && (List.range 5).all (fun i => zeroAt b (vbOff b + 141 + 40 * i) 3)

/-- Step 4 of R425. -/
def slVendorOk (b : List Byte) : Bool :=
  let ps := slParts b
  let es := (List.range 5).map (vbEntry b)
  vbFormOk b && (ps.filter (fun p => p.signer == 0)).all (fun p => es.contains (p.ty, p.version, p.digest)) &&
  [1, 2, 3, 4, 5, 6].all (fun t => (ps.filter (fun p => p.ty == t)).length == 1)

/-- Step 5 of R425: against the floors; a recovery accepts equality in SECURITY_VERSION too (R445). -/
def slNewer (recovery : Bool) (b : List Byte) (s : State) : Bool :=
  let sv := rd s (R.UPD_FLOOR 1)
  (if recovery then decide (sv ≤ slSv b) else decide (sv < slSv b)) &&
  (slParts b).all (fun p => decide (rd s (R.UPD_PART_FLOOR p.ty) ≤ p.version)) &&
  decide (rd s (R.UPD_FLOOR 3) ≤ vbAnchor b)

/-- The checks of an offer in order (R425): 0, or the status code of the first failure. With `compat`, step 3 is left out
(R443). -/
def offerCheck (recovery compat : Bool) (b : List Byte) (s : State) : Nat :=
  let bound := rd s (R.UPD_FLOOR 0)
  if !slFormOk b then 2
  else if slice b 24 8 ≠ targetPart ∨ slOem b ≠ vbOem b ∨ (bound ≠ 0 ∧ slOem b ≠ bound) then 2
  else if !compat && !slSignedOk b then 12
  else if !slVendorOk b then 12
  else if !slNewer recovery b s then 11 else 0

/-- Bytes of a part in a take's image. -/
def partBytes (img : List Byte) (p : ImgPart) : List Byte := slice img p.off p.size

/-- Every part's DIGEST is the SHA-256 of its bytes. -/
def partsIntact (img : List Byte) : Bool := (slParts img).all (fun p => Config.sha256 (partBytes img p) == p.digest)

/-- The CALL_SHEET part's bytes, none where the take holds none. -/
def takeSheet (t : Take) : Option (List Byte) :=
  if t.factory then none else ((slParts t.image).find? (fun p => p.ty == 6)).map (partBytes t.image)

-- Take states (R427) --------------------------------------------------------------------------------------------------

/-- State code of a take. -/
def takeCode (t : Take) : Nat :=
  if 4 ≤ t.mark then t.mark
  else if t.chunks = 0 then 0 else if !t.whole then 1 else if !t.verified then 2 else 3

/-- ACTIVE: 0 take A, 1 take B. -/
def activeTake (s : State) : Nat := rdf s R.UPD_STATUS 16 16

def takeNo (k : Nat) (s : State) : Take := if k = 0 then s.upd.takeA else s.upd.takeB

def loaderOnly (s : State) : Bool := rdb s R.UPD_STATUS 3

/-- The take that downloads go into: the inactive one; in a compatibility overwrite the active one (R428, R443, R445). -/
def loadTake (s : State) : Nat := if loaderOnly s && !s.upd.recovery then activeTake s else 1 - activeTake s

/-- Digest word w of a take's shot list: byte 4w in [31:24]. -/
def digestWord (d : List Byte) (w : Nat) : Nat := beAt d (4 * w) 4

/-- Bring the registers that show the takes up to date. -/
def takeRegs (s : State) : State :=
  let a := activeTake s
  let s := wrf (wrf s R.UPD_STATUS 15 12 (takeCode (takeNo a s))) R.UPD_STATUS 11 8 (takeCode (takeNo (1 - a) s))
  let t := takeNo (loadTake s) s
  let s := wr s R.UPD_RESUME (65536 * t.chunks)
  let s := wr s R.UPD_IMAGE_LEN (if t.chunks = 0 then 0 else slImageLen t.image)
  forEach [0, 1] (fun k s =>
    let t := takeNo k s
    if t.factory then s else
    let d := Config.sha256 (t.image.take (slLen t.image))
    let s := wr s (R.UPD_TAKE_SV k) (if t.chunks = 0 then 0 else slSv t.image)
    forEach (List.range 8) (fun w s => wr s (R.UPD_TAKE_DIGEST k w) (if t.chunks = 0 then 0 else digestWord d w)) s) s

def setTake (k : Nat) (t : Take) (s : State) : State :=
  takeRegs (if k = 0 then { s with upd := { s.upd with takeA := t } } else { s with upd := { s.upd with takeB := t } })

/-- An erased take. -/
def emptyTake : Take := ⟨0, [], [], false, false, false⟩

-- Records (R419, R420, R426) ------------------------------------------------------------------------------------------

/-- STATE_A or STATE_B of a boot-pointer record: states 0 to 3 are not written, the chunk log gives them (R427). -/
def recState (t : Take) : Nat := if 4 ≤ t.mark then t.mark else 0

/-- The boot-pointer record that State stands for (R420). -/
def bpBytes (s : State) : List Byte :=
  let b (n : Nat) : Nat := if rdb s R.UPD_STATUS n then 1 else 0
  let flags := b 1 + (if s.upd.atTimeOnly then 2 else 0) + b 3 * 4 + (if s.upd.pendingRestart then 8 else 0)
  let r := leBytes 0x50424758 4 ++ leBytes s.upd.seq 4 ++ leBytes (rdf s R.UPD_STATUS 16 16) 1 ++
    leBytes (recState s.upd.takeA) 1 ++ leBytes (recState s.upd.takeB) 1 ++ leBytes (rdf s R.UPD_ATTEMPTS 1 0) 1 ++
    leBytes flags 2 ++ leBytes 0 2 ++ leBytes s.upd.clockSaved 4 ++ leBytes (rd s R.UPD_ACT_NS) 4 ++
    leBytes (cnt s R.UPD_ACT_TIME) 8 ++ padTo (s.upd.compatDigest.take 32) 32 ++ leBytes 0 28
  r ++ leBytes (crc32 r) 4

/-- The floor record that State stands for (R420). -/
def floorBytes (s : State) : List Byte :=
  let r := leBytes 0x4C464758 4 ++ leBytes s.upd.flSeq 4 ++
    (List.range 4).flatMap (fun k => leBytes (rd s (R.UPD_FLOOR k)) 4) ++
    (List.range 7).flatMap (fun k => leBytes (rd s (R.UPD_PART_FLOOR (k + 1))) 4) ++ leBytes 0 8
  r ++ leBytes (crc32 r) 4

/-- A boot-pointer record with State's content is written in both copies, SEQ one above the valid record's (R419). -/
def bpWrite (s : State) : State :=
  let s := { s with upd := { s.upd with seq := s.upd.seq + 1 } }
  { s with upd := { s.upd with nand := { s.upd.nand with bp := recProgram (bpBytes s) s.upd.nand.bp } } }

/-- A floor record with State's content is written in both copies, SEQ one above the valid record's (R419). -/
def flWrite (s : State) : State :=
  let s := { s with upd := { s.upd with flSeq := s.upd.flSeq + 1 } }
  { s with upd := { s.upd with nand := { s.upd.nand with floor := recProgram (floorBytes s) s.upd.nand.floor } } }

/-- A page holds a record of `len` bytes with this MAGIC and a correct CRC (R419, R420). -/
def recOk (magic len : Nat) (b : List Byte) : Bool :=
  b.length == len && leAt b 0 4 == magic && leAt b (len - 4) 4 == crc32 (b.take (len - 4))

/-- The content of boot-pointer record b comes into force; LOADER_ONLY without a take OVERWRITING is a recovery (R420, R443,
R445). -/
def bpRead (b : List Byte) (s : State) : State :=
  let f := leAt b 12 2
  let mark (t : Take) (m : Nat) : Take := { t with mark := m }
  let s := wrf (wrf (wrf s R.UPD_STATUS 16 16 (byteAt b 8)) R.UPD_STATUS 1 1 (fld f 0 0)) R.UPD_STATUS 3 3 (fld f 2 2)
  let s := wr (wr s R.UPD_ATTEMPTS (byteAt b 11)) R.UPD_ACT_NS (leAt b 20 4)
  let s := wrq s R.UPD_ACT_TIME (leAt b 24 8)
  { s with upd := { s.upd with
    seq := leAt b 4 4, takeA := mark s.upd.takeA (byteAt b 9), takeB := mark s.upd.takeB (byteAt b 10)
    atTimeOnly := f.testBit 1, pendingRestart := f.testBit 3, clockSaved := leAt b 16 4, compatDigest := slice b 32 32
    recovery := f.testBit 2 && byteAt b 9 != 7 && byteAt b 10 != 7 } }

/-- The content of floor record b comes into force (R420). -/
def floorRead (b : List Byte) (s : State) : State :=
  let s := forEach (List.range 4) (fun k s => wr s (R.UPD_FLOOR k) (leAt b (8 + 4 * k) 4)) s
  let s := forEach (List.range 7) (fun k s => wr s (R.UPD_PART_FLOOR (k + 1)) (leAt b (24 + 4 * k) 4)) s
  { s with upd := { s.upd with flSeq := leAt b 4 4 } }

/-- Step 1 of R421: the valid boot-pointer and floor records are read. Before the module has written one, what it was delivered
with stands. -/
def recordsRead (s : State) : State :=
  let s := match recValid (recOk 0x50424758 96) s.upd.nand.bp with
    | some b => bpRead b s
    | none => s
  match recValid (recOk 0x4C464758 64) s.upd.nand.floor with
  | some b => floorRead b s
  | none => s

def setActive (k : Nat) (s : State) : State := takeRegs (wrf s R.UPD_STATUS 16 16 k)

/-- Disarm: ARMED, AT_TIME_ONLY, PENDING_RESTART, ACT_TIME and what was prepared. -/
def disarm (s : State) : State :=
  let s := wr (wrq (wrf s R.UPD_STATUS 1 1 0) R.UPD_ACT_TIME 0) R.UPD_ACT_NS 0
  { s with upd := { s.upd with atTimeOnly := false, pendingRestart := false, prepared := false, crossed := false } }

/-- The clock domain's state lets the module check ACT_TIME: SYNCED, HOLDOVER or GM (R435). -/
def actClock (s : State) : Bool := rdf s R.TIM_STATUS 7 6 != 0

/-- An armed ACT_TIME is found already past (R436): expired with TIMEOUT under AT_TIME_ONLY, else left to the next
controlled restart; source 488. -/
def actPast (s : State) : State :=
  if !rdb s R.UPD_STATUS 1 || !actClock s || decide (s.globalNs < actTimeNs s) then s
  else if s.upd.atTimeOnly then
    raise 488 (inc (bpWrite (disarm (wrf s R.UPD_STATUS 31 24 5))) (R.UPD_CNT 10))
  else if s.upd.pendingRestart then s
  else raise 488 (bpWrite { s with upd := { s.upd with pendingRestart := true } })

/-- Versions of a take that the floors are raised to (R426): OEM_ID, SECURITY_VERSION, SHEET_FLOOR, ANCHOR_FLOOR. -/
def takeFloors (t : Take) : List Nat :=
  [slOem t.image, slSv t.image, leAt ((takeSheet t).getD []) 20 4, vbAnchor t.image]

/-- Highest VERSION of part type ty in a take. -/
def partVersion (t : Take) (ty : Nat) : Nat :=
  (((slParts t.image).filter (fun p => p.ty == ty)).map ImgPart.version).foldl max 0

/-- A confirmed take's versions exceed the floor, or the floor is unbound. -/
def floorLags (k : Nat) (s : State) : Bool :=
  let t := takeNo k s
  !t.factory &&
  (rd s (R.UPD_FLOOR 0) == 0 || [1, 2, 3].any (fun i => decide (rd s (R.UPD_FLOOR i) < (takeFloors t).getD i 0)) ||
   [1, 2, 3, 4, 5, 6, 7].any (fun y => decide (rd s (R.UPD_PART_FLOOR y) < partVersion t y)))

/-- The floor record under R426; OEM_ID is bound at the first confirmation; source 486 (R433). -/
def floorWrite (k : Nat) (s : State) : State :=
  let t := takeNo k s
  let f := takeFloors t
  let s := if rd s (R.UPD_FLOOR 0) = 0 then wr s (R.UPD_FLOOR 0) (f.getD 0 0) else s
  let s := forEach [1, 2, 3] (fun i s => wr s (R.UPD_FLOOR i) (max (rd s (R.UPD_FLOOR i)) (f.getD i 0))) s
  let s := forEach [1, 2, 3, 4, 5, 6, 7] (fun y s =>
    wr s (R.UPD_PART_FLOOR y) (max (rd s (R.UPD_PART_FLOOR y)) (partVersion t y))) s
  raise 486 (flWrite (wrf s R.UPD_STATUS 2 2 0))

/-- Reversion (R431): the other take ACTIVE, the trial take INVALID, source 487; floors unchanged. -/
def revert (s : State) : State :=
  let a := activeTake s
  let s := setTake a { takeNo a s with mark := 6 } s
  let s := wr (wr (setActive (1 - a) s) R.UPD_ATTEMPTS 0) R.UPD_TRIAL 0
  let s := { s with upd := { s.upd with clockSaved := 0, clockNs := 0 } }
  raise 487 (inc (bpWrite s) (R.UPD_CNT 8))

/-- The flip (R430): the new take ACTIVE in TRIAL, the other CONFIRMED, ATTEMPTS 0; source 484, and a module reset at
the next tick boundary. -/
def flip (s : State) : State :=
  let a := activeTake s
  let n := 1 - a
  let s := setTake a { takeNo a s with mark := 5 } s
  let s := setTake n { takeNo n s with mark := 4 } s
  let s := disarm (setActive n s)
  let s := wr (wr s R.UPD_ATTEMPTS 0) R.UPD_TRIAL 0
  let s := { s with upd := { s.upd with pendingRestart := false, clockSaved := 0, clockNs := 0, trialSafe := false
                                        bootGood := false, restart := some (nextTick s) } }
  raise 484 (inc (bpWrite s) (R.UPD_CNT 6))

-- The resident loader (R421) --------------------------------------------------------------------------------------------

/-- A take's shot list signatures and part digests verify. -/
def takePasses (t : Take) : Bool := t.factory || (slFormOk t.image && slSignedOk t.image && partsIntact t.image)

/-- The resident loader runs C0 itself in LOADER_ONLY: classic frames at 250 kbit/s, 64 quanta of 62.5 ns to the bit (R441,
R444; the sample point is log entry 254). -/
def loaderC0 (s : State) : State :=
  let s := wrf (wrf s (R.PORT_CAN_CFG 20) 5 0 1) (R.PORT_CAN_NBT 20) 30 0 (9 * 2 ^ 22 + 50 * 2 ^ 14 + 11 * 2 ^ 7 + 10)
  portStart 20 (groupOn 8 (setCan 0 { canChan s 0 with polarity := 1 } s))

/-- LOADER_ONLY is in force: ports other than the update ports are silent, FAULT_N stays low, source 489 (R444). -/
def enterLoader (recovery : Bool) (s : State) : State :=
  let s := { (wrf s R.UPD_STATUS 3 3 1) with upd := { s.upd with recovery := recovery } }
  raise 489 (loaderC0 (takeRegs s))

/-- Step 4 of R421 for a take in TRIAL: reversion at ATTEMPTS 3, else one attempt more, source 485. A boot that found
ATTEMPTS above 0 follows a failed one, counted here unless the rejection of its sheet has counted it (R411). -/
def trialAttempt (s : State) : State :=
  let n := rdf s R.UPD_ATTEMPTS 1 0
  let s := if n = 0 || s.upd.bootFailed then s else inc s (R.UPD_CNT 9)
  let s := { s with upd := { s.upd with bootFailed := false } }
  if n = 3 then revert s else raise 485 (bpWrite (wr s R.UPD_ATTEMPTS (n + 1)))

/-- Step 5 of R421: the active take is verified; a CONFIRMED take that fails is marked INVALID, and the other take is started
where it is CONFIRMED and passes, source 487; where none passes, LOADER_ONLY as a recovery. -/
def loaderVerify (s : State) : State :=
  let a := activeTake s
  if takePasses (takeNo a s) then s else
  let s := setTake a { takeNo a s with mark := 6 } s
  let o := takeNo (1 - a) s
  if o.mark = 5 ∧ takePasses o = true then raise 487 (bpWrite (setActive (1 - a) s))
  else bpWrite (enterLoader true (if o.mark = 5 then setTake (1 - a) { o with mark := 6 } s else s))

/-- The loader's start in t3 of R364, in the order of R421: the boot ROM starts copy 0 where its signature verifies, else copy 1
(R418). -/
def loaderStart (s : State) : State :=
  let s := { s with upd := { s.upd with takeA := { s.upd.takeA with verified := false }
                                        takeB := { s.upd.takeB with verified := false }
                                        nand := { s.upd.nand with loader := if Config.loaderVerifies 0 then 0 else 1 } } }
  let s := takeRegs (recordsRead s)
  let a := activeTake s
  let s := if (takeNo a s).mark = 5 ∧ floorLags a s = true then floorWrite a s else s
  if loaderOnly s then enterLoader s.upd.recovery s else
  let s := if (takeNo a s).mark = 4 then trialAttempt s else s
  loaderVerify s

/-- A pending activation can be made at a controlled restart: its take is VERIFIED (R430, R436). -/
def flipReady (s : State) : Bool :=
  s.upd.pendingRestart && !loaderOnly s && takeCode (takeNo (1 - activeTake s) s) == 3

-- Position records (R449) -------------------------------------------------------------------------------------------------

/-- Authenticated content of a position record: HWM, SEQ, NEXT, CLEAN (the layout is log entry 255). -/
def posBody (seq hwm next : Nat) (clean : Bool) : List Byte :=
  leBytes hwm 4 ++ leBytes seq 4 ++ leBytes next 4 ++ leBytes (if clean then 1 else 0) 4

/-- Its HMAC-SHA-256 under the KEK-derived key of label XG9680-POS (R449). -/
def posMac (s : State) (b : List Byte) : List Byte :=
  padTo ((hmac (beBytes (kdf256 (s.vault.kek.getD 0) "XG9680-POS" []) 32) b).take 32) 32

def posOk (s : State) (b : List Byte) : Bool := b.length == 48 && b.drop 16 == posMac s (b.take 16)

/-- CLEAN of a position record. -/
def posClean (b : List Byte) : Bool := byteAt b 12 == 1

/-- The valid position record; none without the KEK. -/
def posValid (s : State) : Option (List Byte) := if s.vault.kek.isSome then recValid (posOk s) s.upd.nand.pos else none

/-- A position record with the present HWM and NEXT is written twice (R449). -/
def posWrite (clean : Bool) (s : State) : State :=
  if s.vault.kek.isNone then s else
  let b := posBody (((posValid s).map (fun r => leAt r 4 4)).getD 0 + 1) (rd s R.ATT_HWM) (rd s R.ATT_NEXT) clean
  { s with upd := { s.upd with nand := { s.upd.nand with pos := recProgram (b ++ posMac s b) s.upd.nand.pos } } }

end Sys2Proof.Machine
end

