-- ==== Sys2Proof/Machine/SheetFmt.lean ====
section
/-! DEFINITION. The call sheet's bytes (chapter 16): header, sections and records (R399 to R402), the layout of each
record kind (R404 to R406), and stages 1 to 6 of R408. -/

namespace Sys2Proof.Machine

-- Image (R399 to R402) ------------------------------------------------------------------------------------------------

/-- A record: its section's TYPE, its ordinal in the section, its kind and its bytes with the record header. -/
structure SRec where
  sec : Nat
  ord : Nat
  kind : Nat
  b : List Byte
  deriving DecidableEq, Repr

/-- A section as its header gives it. -/
structure SSec where
  ty : Nat
  count : Nat
  body : List Byte
  deriving DecidableEq, Repr

/-- A rejection (R408, UPD_SHEET_STATUS): stage, status code, section, record ordinal, byte offset, section of the
earlier claim. -/
structure Rej where
  stage : Nat
  code : Nat
  sec : Nat
  ord : Nat
  off : Nat
  other : Nat
  deriving DecidableEq, Repr

/-- A rejection at the header or the signature. -/
def rejHead (stage code : Nat) : Rej := ⟨stage, code, 0, 0xFFFFFFFF, 0xFFFF, 0⟩

/-- A rejection at section level. -/
def rejSec (stage code sec : Nat) : Rej := ⟨stage, code, sec, 0xFFFFFFFF, 0xFFFF, 0⟩

/-- A rejection at byte `off` of a record; 0xFFFF the whole record. -/
def rejRec (stage code : Nat) (r : SRec) (off : Nat) : Rej := ⟨stage, code, r.sec, r.ord, off, 0⟩

def u8 (b : List Byte) (o : Nat) : Nat := byteAt b o
def u16 (b : List Byte) (o : Nat) : Nat := leAt b o 2
def u32 (b : List Byte) (o : Nat) : Nat := leAt b o 4
def u64 (b : List Byte) (o : Nat) : Nat := leAt b o 8

-- Header fields (R400)
def shBody (b : List Byte) : Nat := u32 b 8
def shLen (b : List Byte) : Nat := u32 b 12
def shOem (b : List Byte) : Nat := u32 b 16
def shSecVer (b : List Byte) : Nat := u32 b 20
def shVersion (b : List Byte) : Nat := u32 b 32
def shSections (b : List Byte) : Nat := u16 b 36

/-- Call sheet digest (R407). -/
def sheetHash (b : List Byte) : List Byte := Config.sha256 (b.take (shLen b))

/-- Section types of *Scope and Conventions*, ascending. -/
def sectionTypes : List Nat :=
  [0x10, 0x20, 0x21, 0x22, 0x23, 0x30, 0x31, 0x32, 0x33, 0x40, 0x41, 0x42, 0x50, 0x60, 0x61, 0x62, 0x70, 0x80, 0x81,
   0x82, 0x90, 0x91, 0xA0, 0xB0, 0xB1, 0xC0, 0xD0, 0xE0, 0xF0]

/-- Stage 1: the header; `b` is the CALL_SHEET part. -/
def stage1 (b : List Byte) : Option Rej :=
  if u32 b 0 = 0x53434758 ∧ u16 b 4 = 1 ∧ u16 b 6 = 64 ∧ u32 b 60 = crc32 (b.take 60) ∧ u16 b 38 = 0 ∧
     (slice b 48 12).all (· == 0) ∧ shBody b % 4 = 0 ∧ shLen b % 4 = 0 ∧ 64 ≤ shBody b ∧ shBody b + 24 ≤ shLen b ∧
     shLen b ≤ 16 * 0x100000 ∧ shLen b ≤ b.length
  then none else some (rejHead 1 2)

/-- Stage 2: the target part and the installed OEM identifier (R424). -/
def stage2 (b : List Byte) (oem : Nat) : Option Rej :=
  if slice b 24 8 = targetPart ∧ shOem b = oem then none else some (rejHead 2 2)

/-- Stage 3: the signature under the take's OEM key (R407, R424). -/
def stage3 (b key : List Byte) : Option Rej :=
  if sigOk key (b.take (shBody b)) (slice b (shBody b) (shLen b - shBody b)) then none else some (rejHead 3 12)

/-- Stage 4: the call sheet floor. -/
def stage4 (b : List Byte) (floor : Nat) : Option Rej := if floor ≤ shSecVer b then none else some (rejHead 4 11)

/-- Stage 5: `n` sections from offset `o`, of types above `prev`, filling the body exactly. -/
def sections (b : List Byte) : Nat → Nat → Nat → Except Rej (List SSec)
  | 0, o, _ => if o = shBody b then .ok [] else .error (rejHead 5 2)
  | n + 1, o, prev =>
    let ty := u16 b o
    let len := u32 b (o + 4)
    if sectionTypes.contains ty && decide (prev < ty ∧ u8 b (o + 2) = 1 ∧ u8 b (o + 3) = 0 ∧ 16 ≤ len ∧ len % 4 = 0 ∧
        o + len ≤ shBody b) && u32 b (o + 12) == crc32 (slice b (o + 16) (len - 16)) then
      match sections b n (o + len) ty with
      | .ok t => .ok (⟨ty, u32 b (o + 8), slice b (o + 16) (len - 16)⟩ :: t)
      | .error e => .error e
    else .error (rejSec 5 2 (if sectionTypes.contains ty then ty else 0))

def stage5 (b : List Byte) : Except Rej (List SSec) :=
  if 29 < shSections b then .error (rejHead 5 2) else sections b (shSections b) 64 0

/-- The records of a section's body, at most `fuel` of them; an RLEN that does not fit ends in a rejection. -/
def records (sec : Nat) : Nat → Nat → List Byte → List SRec × Option Rej
  | 0, _, _ => ([], none)
  | fuel + 1, i, body =>
    if body = [] then ([], none) else
    let len := u16 body 2
    if 4 ≤ len ∧ len % 4 = 0 ∧ len ≤ body.length then
      let t := records sec fuel (i + 1) (body.drop len)
      (⟨sec, i, u8 body 0, body.take len⟩ :: t.1, t.2)
    else ([], some ⟨6, 2, sec, i, 2, 0⟩)

-- Record layouts (R404 to R406) ---------------------------------------------------------------------------------------

/-- Layout of one record: length of its fixed part with the record header, whether RLEN must equal it, its filler
bytes, its register images by offset and address, and what it defines among the records of its kind. -/
structure RecFmt where
  len : Nat
  exact : Bool := false
  fill : List (Nat × Nat) := []
  imgs : List (Nat × Nat) := []
  key : Nat
  /-- a second definition is a claim of R409 -/
  claim : Bool := false
  deriving DecidableEq, Repr

/-- Port of CAN channel n, of LIN channel m. -/
def pCan (n : Nat) : Nat := 20 + n
def pLin (m : Nat) : Nat := 36 + m

/-- Key of a record that defines nothing by an index: its own ordinal. -/
def ownKey (ord : Nat) : Nat := 2 ^ 48 + ord

/-- Layouts of the port, pin and input-output sections (R404). -/
def fmtPorts (sec kind ord : Nat) (b : List Byte) : Option RecFmt :=
  let k := u8 b 4
  match sec, kind with
  | 0x10, 1 => some { len := 12, fill := [(11, 1)], key := 0 }
  | 0x10, 2 => some { len := 16, fill := [(7, 1)], key := ownKey ord }
  | 0x20, 1 => some (if 18 ≤ k then
      { len := 48, fill := [(6, 2), (8, 32)], imgs := [(40, R.LKU_PORT_CFG k), (44, R.LKU_PORT_KEY k)], key := k }
    else
      { len := 48, fill := [(6, 2)], key := k
        imgs := [(8, R.PORT_ETH_CFG k), (12, R.PORT_ETH_MAC_LO k), (16, R.PORT_ETH_MAC_HI k), (20, R.PORT_ETH_LPI k),
                 (24, R.PORT_ETH_STEP k), (28, R.PORT_ETH_STEP_WAIT k), (32, R.PORT_ETH_PLCA k),
                 (36, R.PORT_ETH_PLCA_BT k), (40, R.LKU_PORT_CFG k), (44, R.LKU_PORT_KEY k)] })
  | 0x21, 1 =>
    let p := pCan k
    some { len := 48, fill := [(5, 3)], key := k
           imgs := [(8, R.PORT_CAN_CFG p), (12, R.PORT_CAN_NBT p), (16, R.PORT_CAN_DBT p), (20, R.PORT_CAN_XBT p),
                    (24, R.PORT_CAN_PWM p), (28, R.PORT_CAN_TERM p), (32, R.PORT_CAN_CLAP p), (36, R.PORT_CAN_LIMITS p),
                    (40, R.LKU_PORT_CFG p), (44, R.LKU_PORT_KEY p)] }
  | 0x21, 2 =>
    let f := u8 b 5
    some { len := 16, fill := [(6, 2)], key := 64 * k + f
           imgs := [(8, R.PORT_CAN_FILT (pCan k) f), (12, R.PORT_CAN_FMASK (pCan k) f)] }
  | 0x22, 1 =>
    let p := pLin k
    some { len := 32, fill := [(5, 3)], key := k
           imgs := [(8, R.PORT_LIN_CFG p), (12, R.PORT_LIN_BAUD p), (16, R.PORT_LIN_SCENE p 0), (20, R.PORT_LIN_SCENE p 1),
                    (24, R.LKU_PORT_CFG p), (28, R.LKU_PORT_KEY p)] }
  | 0x22, 2 => some { len := 20, fill := [(6, 2)], key := 64 * k + u8 b 5, imgs := [(8, R.PORT_LIN_FRAME (pLin k) (u8 b 5))] }
  | 0x22, 3 =>
    let e := u16 b 6
    some { len := 8 + 4 * e, exact := true, key := 8 * k + u8 b 5
           imgs := (List.range e).map (fun i => (8 + 4 * i, R.PORT_LIN_TBL (pLin k) (u8 b 5) i)) }
  | 0x23, 1 => some { len := 16, fill := [(5, 3)], key := k, imgs := [(8, R.GAF_SW_CFG k), (12, R.GAF_SW_THR k)] }
  | 0x23, 2 => some { len := 8, key := 0, imgs := [(4, R.GAF_SW_POLL)] }
  | 0x23, 3 => some { len := 12, fill := [(5, 3)], key := k, imgs := [(8, R.RXU_SO_CFG k)] }
  | _, _ => none

/-- Bytes of a flow record that its KEY leaves at 0x00: the fillers of a TUPLE and of a CANSRC key, and what follows the key
(R405; log entry 234). -/
def flowFill (keyType : Nat) : List (Nat × Nat) :=
  match keyType with
  | 1 => [(16, 32)]
  | 2 => [(16, 32)]
  | 3 => [(41, 1), (46, 2)]
  | 4 => [(10, 2), (17, 31)]
  | _ => []

/-- Layouts of the lookup and queue sections (R405). -/
def fmtQueues (sec kind ord : Nat) (b : List Byte) : Option RecFmt :=
  let k := u8 b 4
  let q := u16 b 4
  match sec, kind with
  | 0x30, 1 => some { len := 16, fill := [(7, 1)], key := q }
  | 0x30, 2 => some { len := 36, key := ownKey ord }
  | 0x31, 1 => some { len := 72, fill := (6, 2) :: flowFill k, key := ownKey ord }
  | 0x32, 1 => some { len := 44, fill := [(7, 1), (39, 1)], key := ownKey ord }
  | 0x32, 2 => some { len := 52, fill := [(47, 1)], key := ownKey ord }
  | 0x33, 1 => some { len := 24, fill := [(7, 1)], key := q }
  | 0x40, 1 => some { len := 20, key := 0 }
  | 0x40, 2 => some { len := 12, fill := [(5, 3)], key := k, imgs := [(8, R.CPL_PORT_CFG k)] }
  | 0x40, 3 => some { len := 16, fill := [(6, 2), (14, 2)], key := 8 * k + u8 b 5, imgs := [(8, R.CPL_PFC k (u8 b 5))] }
  | 0x40, 4 => some { len := 16, fill := [(6, 2)], key := q, imgs := [(8, R.CPL_Q_CFG q), (12, R.CPL_Q_WAIT q)] }
  | 0x40, 5 => some { len := 16, fill := [(5, 3)], key := k, claim := true
                      imgs := [(8, R.CPL_DEEP_CFG k), (12, R.CPL_DEEP_QUOTA k)] }
  | 0x40, 6 => some { len := 20, fill := [(5, 3)], key := k
                      imgs := [(8, R.CPL_WM_CFG k), (12, R.CPL_WM_UP k), (16, R.CPL_WM_DOWN k)] }
  | 0x41, 1 => some { len := 16, fill := [(5, 3)], key := k, imgs := [(8, R.SCH_PORT_CFG k), (12, R.SCH_PORT_PAUSE k)] }
  | 0x41, 2 => some { len := 20, fill := [(6, 2)], key := q
                      imgs := [(8, R.SCH_Q_CFG q), (12, R.SCH_Q_RATE q), (16, R.SCH_Q_BURST q)] }
  | 0x42, 1 =>
    let e := u16 b 6
    some { len := 20 + 8 * e, exact := true, key := k
           fill := (5, 1) :: (List.range e).map (fun i => (21 + 8 * i, 3)) }
  | 0x42, 2 => some { len := 24, fill := [(6, 2)], key := k }
  | _, _ => none

/-- Layouts of the engine and time sections (R406). -/
def fmtEngines (sec kind : Nat) (b : List Byte) : Option RecFmt :=
  let k := u8 b 4
  let q := u16 b 4
  match sec, kind with
  | 0x50, 1 => some { len := 8, fill := [(7, 1)], key := q }
  | 0x50, 2 => some { len := 24, fill := [(6, 2)], key := q
                      imgs := [(8, R.COL_CTX_CFG q), (12, R.COL_CTX_TIMERS q), (16, R.COL_CTX_LATENT q), (20, R.COL_CTX_LPER q)] }
  | 0x60, 1 => some { len := 60, fill := [(6, 2)], key := q
                      imgs := [(8, R.SGE_ROUTE_SRC q), (12, R.SGE_ROUTE_DST q), (16, R.SGE_ROUTE_OPS q)] }
  | 0x61, 1 => some { len := 16, fill := [(6, 2)], key := q, imgs := [(8, R.SGE_CONV_CFG q), (12, R.SGE_CONV_ID q)] }
  | 0x61, 2 => some { len := 48, fill := [(5, 3), (46, 2)], key := k, imgs := [(8, R.SGE_ENC_CFG k), (12, R.SGE_ENC_WIN k)] }
  | 0x61, 3 => some { len := 44, fill := [(5, 3)], key := k, imgs := [(8, R.SGE_UNP_CFG k)] }
  | 0x61, 4 => some { len := 32 + u16 b 30, fill := [(6, 2), (29, 1)], key := q
                      imgs := [(8, R.SGE_PDU_CFG q), (12, R.SGE_PDU_TIME q), (16, R.SGE_PDU_GAP q)] }
  | 0x62, 1 => some { len := 20, fill := [(5, 3), (17, 3)], key := k, imgs := [(8, R.SGE_TP_CFG k), (12, R.SGE_TP_PGN k)] }
  | 0x62, 2 => some { len := 16, key := k }
  | 0x70, 1 => some { len := 20, fill := [(5, 3)], key := 0
                      imgs := [(8, R.TIM_PPS_CFG), (12, R.TIM_LIMITS), (16, R.TIM_SYNC_LIMIT)] }
  | 0x70, 2 => some { len := 12, fill := [(5, 3)], key := k, imgs := [(8, R.TIM_DOM_CFG k)] }
  | 0x70, 3 => some { len := 12, fill := [(5, 3)], key := k, imgs := [(8, R.TIM_PORT_CFG k)] }
  | 0x70, 4 => some { len := 24, fill := [(5, 3)], key := k
                      imgs := [(8, R.TIM_CLAP_CFG k), (12, R.TIM_CLAP_ID k), (16, R.TIM_CLAP_PERIOD k), (20, R.TIM_CLAP_OFFSET k)] }
  | _, _ => none

/-- Layouts of the security, management, reaction and host sections (R406). -/
def fmtRest (sec kind ord : Nat) (b : List Byte) : Option RecFmt :=
  let k := u8 b 4
  let q := u16 b 4
  match sec, kind with
  | 0x80, 1 => some { len := 16, key := 0, imgs := [(4, R.CIP_COMMIT)] }
  | 0x80, 2 => some { len := 28, fill := [(5, 3)], key := k
                      imgs := [(8, R.CIP_DOM_CFG k), (12, R.CIP_DOM_KEYS k), (16, R.CIP_DOM_WIN k), (20, R.CIP_DOM_RESYNC k),
                               (24, R.CIP_DOM_CHAN k)] }
  | 0x80, 3 => some { len := 16, fill := [(6, 2)], key := q, imgs := [(8, R.CIP_FV_CFG q), (12, R.CIP_FV_ID q)] }
  | 0x81, 1 => some { len := 12, key := 0 }
  | 0x81, 2 => some { len := 16, fill := [(5, 3)], key := k, imgs := [(8, R.CIP_SECY_CFG k), (12, R.CIP_SECY_REPLAY k)] }
  | 0x81, 3 => some { len := 36, fill := [(7, 1), (10, 2)], key := 0x10000 * k + 0x100 * u8 b 5 + u8 b 6 }
  | 0x82, 1 => some { len := 8, key := 0 }
  | 0x82, 2 => some { len := 32, fill := [(6, 2)], key := q }
  | 0x82, 3 => some { len := 4 + 1104 + 80 * beAt b 16 2, key := ownKey ord }
  | 0x90, 1 => some { len := 32, fill := [(7, 1), (10, 2), (30, 2)], key := k
                      imgs := [(12, R.GAF_NM_TIMES k), (16, R.GAF_NM_TIMES_4 k), (20, R.GAF_NM_TIMES_8 k)] }
  | 0x90, 2 => some { len := 12, fill := [(9, 3)], key := 0 }
  | 0x90, 3 => some { len := 16, fill := [(14, 2)], key := 0 }
  | 0x91, 1 => some { len := 20, fill := [(10, 2)], key := k }
  | 0x91, 2 => some { len := 24, fill := [(7, 1)], key := k }
  | 0x91, 3 => some { len := 12, fill := [(10, 2)], key := 8 * k + u8 b 5 }
  | 0xA0, 1 => some { len := 40, fill := [(37, 3)], key := 0
                      imgs := [(4, R.GAF_DWELL0), (8, R.GAF_DWELL1), (12, R.GAF_DWELL2), (16, R.GAF_BATT),
                               (20, R.GAF_SCENE_DEEPEST 0), (24, R.GAF_SCENE_DEEPEST 1), (28, R.GAF_HOST_CFG),
                               (32, R.GAF_ALARM_PERIOD)] }
  | 0xB0, 1 => some { len := 12, key := 0, imgs := [(4, R.RXU_RELEASE_CFG), (8, R.RXU_TEST_CFG)] }
  | 0xB0, 2 => some { len := 32, fill := [(5, 3)], key := k
                      imgs := [(8, R.RXU_ENTRY_CFG k), (12, R.RXU_ENTRY_SETTLE k), (16, R.RXU_ENTRY_SHADOW k 0),
                               (20, R.RXU_ENTRY_SHADOW k 1), (24, R.RXU_ENTRY_SHADOW k 2), (28, R.RXU_ENTRY_SHADOW k 3)] }
  | 0xB1, 1 => some { len := 16 + u16 b 6, fill := [(5, 1)], key := k, claim := true
                      imgs := [(8, R.RXU_SAFE_FRAME k), (12, R.RXU_SAFE_FRAME_4 k)] }
  | 0xC0, 1 => some { len := 156, fill := [(26, 2)], key := 0
                      imgs := [(4, R.REC_WINDOW_CFG), (8, R.REC_CFG), (12, R.REC_TRACE_HWM), (16, R.REC_STREAM)] }
  | 0xD0, 1 => some { len := 24, key := k }
  | 0xE0, 1 => some { len := 24, key := 0 }
  | 0xF0, 1 => some { len := 20, fill := [(6, 2)], key := 0 }
  | 0xF0, 2 => some { len := 12, fill := [(9, 3)], key := k, claim := true }
  | 0xF0, 3 => some { len := 8, fill := [(6, 2)], key := k, claim := true }
  | _, _ => none

/-- Layout of a record; none where its section has no such kind. -/
def SRec.fmt (r : SRec) : Option RecFmt :=
  if r.sec < 0x30 then fmtPorts r.sec r.kind r.ord r.b
  else if r.sec < 0x50 then fmtQueues r.sec r.kind r.ord r.b
  else if r.sec < 0x80 then fmtEngines r.sec r.kind r.b
  else fmtRest r.sec r.kind r.ord r.b

/-- What a record defines among the records of its kind. -/
def SRec.key (r : SRec) : Nat := ((r.fmt).map RecFmt.key).getD 0

/-- Offset of the first index of a record that lies outside its range; none where all lie inside. -/
def badIndex (r : SRec) : Option Nat :=
  let k := u8 r.b 4
  let q := u16 r.b 4
  let c := u8 r.b 5
  let first (l : List (Bool × Nat)) : Option Nat := (l.find? (fun x => !x.1)).map Prod.snd
  match r.sec, r.kind with
  | 0x20, 1 => first [(k ≤ 19, 4)]
  | 0x21, 1 => first [(k ≤ 15, 4)]
  | 0x21, 2 => first [(k ≤ 15, 4), (c ≤ 63, 5)]
  | 0x22, 1 => first [(k ≤ 7, 4)]
  | 0x22, 2 => first [(k ≤ 7, 4), (c ≤ 63, 5)]
  | 0x22, 3 => first [(k ≤ 7, 4), (c ≤ 7, 5), (decide (1 ≤ u16 r.b 6 ∧ u16 r.b 6 ≤ 64), 6)]
  | 0x23, 1 => first [(k ≤ 7, 4)]
  | 0x23, 3 => first [(k ≤ 3, 4)]
  | 0x30, 1 => first [(decide (1 ≤ q ∧ q ≤ 4094), 4)]
  | 0x33, 1 => first [(q ≤ 8191, 4)]
  | 0x40, 2 => first [(k ≤ 44, 4)]
  | 0x40, 3 => first [(k ≤ 18, 4), (c ≤ 7, 5)]
  | 0x40, 4 => first [(q < 360 || (384 ≤ q && q ≤ 511), 4)]
  | 0x40, 5 => first [(k ≤ 63, 4)]
  | 0x40, 6 => first [(k ≤ 63, 4)]
  | 0x41, 1 => first [(k ≤ 19 || k == 44, 4)]
  | 0x41, 2 => first [(q ≤ 159 || (352 ≤ q && q ≤ 359), 4)]
  | 0x42, 1 => first [(k ≤ 63, 4), (decide (1 ≤ u16 r.b 6 ∧ u16 r.b 6 ≤ 256), 6)]
  | 0x42, 2 => first [(k ≤ 17 || (20 ≤ k && k ≤ 35), 4)]
  | 0x50, 1 => first [(q ≤ 4095, 4)]
  | 0x50, 2 => first [(q ≤ 1023, 4)]
  | 0x60, 1 => first [(q ≤ 4095, 4)]
  | 0x61, 1 => first [(q ≤ 1023, 4)]
  | 0x61, 4 => first [(q ≤ 2047, 4)]
  | 0x62, 2 => first [(k ≤ 15, 4)]
  | 0x70, 2 => first [(k ≤ 1, 4)]
  | 0x70, 3 => first [(k ≤ 17, 4)]
  | 0x70, 4 => first [(k ≤ 15, 4)]
  | 0x80, 3 => first [(q ≤ 4095, 4)]
  | 0x81, 2 => first [(k ≤ 17, 4)]
  | 0x81, 3 => first [(k ≤ 17, 4), (c ≤ 3 || c == 0xFF, 5), (u8 r.b 6 ≤ 3, 6), (u16 r.b 8 ≤ 2047, 8)]
  | 0x82, 2 => first [(q ≤ 2047, 4)]
  | 0x82, 3 => first ((List.range (beAt r.b 16 2)).map (fun i =>
      (decide (beAt r.b (4 + 1104 + 80 * i) 2 ≤ 2047), 4 + 1104 + 80 * i)))
  | 0x90, 1 => first [(isSeg k, 4)]
  | 0x91, 1 => first [(isSeg k, 4)]
  | 0x91, 2 => first [(k ≤ 15, 4)]
  | 0x91, 3 => first [(isSeg k, 4), (c ≤ 7, 5)]
  | 0xB0, 2 => first [(k ≤ 127, 4)]
  | 0xB1, 1 => first [(k ≤ 31, 4)]
  | 0xD0, 1 => first [(k ≤ 15, 4)]
  | 0xF0, 2 => first [(k ≤ 63, 4)]
  | 0xF0, 3 => first [(k ≤ 63, 4)]
  | _, _ => none

/-- Records that a section may hold of a kind that carries no index (R49, R78, R304). -/
def kindCapacity (sec kind : Nat) : Option Nat :=
  match sec, kind with
  | 0x10, 2 => some 64
  | 0x30, 2 => some 65536
  | 0x31, 1 => some 32768
  | 0x32, 1 => some 16384
  | 0x32, 2 => some 2048
  | 0x82, 3 => some 16
  | _, _ => none

/-- First byte from `o` on, of `n`, that is not 0. -/
def nonZero (b : List Byte) (o : Nat) : Nat → Option Nat
  | 0 => none
  | n + 1 => if byteAt b o = 0 then nonZero b (o + 1) n else some o

/-- Bits of the register at `a` that a sheet gives: its RL bits, MAX_FRAME only on ports 0 to 18 (R402, LKU_PORT_CFG). An
image for TIM_PORT_CFG of ports 12 to 15 has the fields of the row; a role that it sets fails at stage 7 (R284). -/
def sheetBits (a : Nat) : Nat :=
  match regAt (if R.TIM_PORT_CFG 12 ≤ a ∧ a ≤ R.TIM_PORT_CFG 15 then R.TIM_PORT_CFG 0 else a) with
  | some (r, w) =>
    let m := r.mask r.rl w
    if R.LKU_PORT_CFG 19 ≤ a ∧ a ≤ R.LKU_PORT_CFG 44 then putFld m 13 0 0 else m
  | none => 0

/-- First byte of a register image that holds a bit the sheet does not give. -/
def badImage (b : List Byte) (x : Nat × Nat) : Option Nat :=
  let v := u32 b x.1
  let extra := v - (v &&& sheetBits x.2)
  if extra = 0 then none
  else ([0, 1, 2, 3].find? (fun i => fld extra (8 * i + 7) (8 * i) != 0)).map (x.1 + ·)

/-- Byte that makes a record fail stage 6 on its own: kind, RLEN, indices, filler, padding, image bits. -/
def recBad (r : SRec) : Option Nat :=
  match r.fmt with
  | none => some 0
  | some f =>
    if r.b.length < f.len ∨ (f.exact = true ∧ r.b.length ≠ f.len) then some 2
    else match badIndex r with
      | some o => some o
      | none =>
        if byteAt r.b 1 ≠ 0 then some 1 else
        match f.fill.findSome? (fun x => nonZero r.b x.1 x.2) with
        | some o => some o
        | none => match nonZero r.b f.len (r.b.length - f.len) with
          | some o => some o
          | none => f.imgs.findSome? (badImage r.b)

/-- Indices that a KEY_IMPORT record defines (R305). -/
def keyDefs (r : SRec) : List Nat :=
  if r.sec ≠ 0x82 then []
  else if r.kind = 2 then [u16 r.b 4]
  else if r.kind = 3 then (List.range (beAt r.b 16 2)).map (fun i => beAt r.b (4 + 1104 + 80 * i) 2)
  else []

/-- Numbers that occur twice in a list, or in both. -/
def clash (l m : List Nat) : Bool := l.any (fun x => m.contains x)

/-- Stage 6 over one section's records, in order; `seen` are those before. -/
def stage6Recs : List SRec → List SRec → Option Rej
  | _, [] => none
  | seen, r :: t =>
    match recBad r with
    | some o => some (rejRec 6 2 r o)
    | none =>
      let same := seen.filter (fun x => x.kind == r.kind)
      if (kindCapacity r.sec r.kind).any (fun n => decide (n ≤ same.length)) then some (rejRec 6 4 r 0xFFFF)
      else if !((r.fmt).any RecFmt.claim) && same.any (fun x => x.key == r.key) then some (rejRec 6 2 r 4)
      else if seen.any (fun x => clash (keyDefs x) (keyDefs r)) then some (rejRec 6 2 r 4)
      else stage6Recs (seen ++ [r]) t

/-- Stage 6 of one section. -/
def stage6Sec (x : SSec) : Except Rej (List SRec) :=
  let p := records x.ty (x.body.length + 1) 0 x.body
  match stage6Recs [] p.1 with
  | some e => .error e
  | none => match p.2 with
    | some e => .error e
    | none => if p.1.length = x.count then .ok p.1 else .error (rejSec 6 2 x.ty)

/-- Stage 6: every record of the sheet, in order. -/
def stage6 : List SSec → Except Rej (List SRec)
  | [] => .ok []
  | x :: t => match stage6Sec x with
    | .error e => .error e
    | .ok l => match stage6 t with
      | .error e => .error e
      | .ok m => .ok (l ++ m)

end Sys2Proof.Machine
end

