-- ==== Sys2Proof/Machine/SheetApply.lean ====
section
/-! DEFINITION. What each record of the call sheet writes (R404 to R406, R410), the computed pool sizes (R88, R107), and
the vault's reconciliation with the KEY_IMPORT section (R297). -/

namespace Sys2Proof.Machine

/-- Write a register image: the bits the sheet gives, the others as they are (R402). A row that the module does not have
keeps reading 0. -/
def putImage (b : List Byte) (x : Nat × Nat) (s : State) : State :=
  if absentRow x.2 then s else
  let m := sheetBits x.2
  let v := rd s x.2
  wr s x.2 (v - (v &&& m) + (u32 b x.1 &&& m))

/-- A 24-byte verdict (R403). -/
def verdictAt (b : List Byte) (o : Nat) : Verdict :=
  let w2 := u32 b (o + 8)
  let w3 := u32 b (o + 12)
  let w4 := u32 b (o + 16)
  let w5 := u32 b (o + 20)
  { dest := u64 b o, maxAge := fld w2 31 16, capture := w2.testBit 15, early := w2.testBit 14
    cipher := (match fld w2 13 11 with
      | 1 => .doSeal | 2 => .verify | 3 => .reseal | 4 => .encrypt | 5 => .decrypt | _ => .none)
    bridge := (match fld w2 10 8 with
      | 1 => .canConvert | 2 => .encap1722 | 3 => .unpack1722 | 4 => .signal | 5 => .transport | _ => .none)
    tc := fld w2 7 4
    meter := if w3.testBit 31 then some (fld w3 30 18) else none
    stream := if w3.testBit 17 then some (fld w3 16 5) else none
    sealDomain := if w4.testBit 31 then some (fld w4 30 23) else none
    bridgeIdx := fld w4 22 12, key := fld w4 11 0, scenes := fld w5 31 16
    flood := if fld w5 15 0 = 0xFFFF then none else some (fld w5 15 0) }

/-- A flood limiter at offset `o`: RATE_FPS, BURST, SPACING_US. -/
def limiterAt (b : List Byte) (o : Nat) : Limiter := ⟨u16 b o, u8 b (o + 2), u32 b (o + 4)⟩

/-- Add one to a field. -/
def bumpFld (a hi lo : Nat) (s : State) : State := wrf s a hi lo (rdf s a hi lo + 1)

/-- Words of a byte string into consecutive registers, byte 0 in [7:0] of the first. -/
def putWords (a : Nat) : Nat → List Byte → State → State
  | 0, _, s => s
  | n + 1, b, s => putWords (a + 4) n (b.drop 4) (wr s a (leAt b 0 4))

/-- Claim time-trigger unit u: KIND 1 gate list, 2 CAN windows, 3 clapper (R117). -/
def claimTtu (u kind p : Nat) (s : State) : State := wr s (R.GATE_TTU u) (2 ^ 31 + kind * 2 ^ 28 + p)

/-- What PINS, PORTS and SWITCH_IO records write beyond their images (R404). -/
def applyPorts (r : SRec) (s : State) : State :=
  let b := r.b
  let k := u8 b 4
  match r.sec, r.kind with
  | 0x10, 1 =>
    let s := { (wr s R.SVY_PROP (u16 b 4)) with survey := { s.survey with windowMs := u16 b 6 } }
    let s := forEach (List.range 16) (fun n s => wrf s (R.SVY_CAN_WIRING n) 9 9 (fld (u16 b 8) n n)) s
    wrf s (R.SVY_SW 7) 30 30 (u8 b 10)
  | 0x10, 2 =>
    let c : StartCond := ⟨u8 b 4, u8 b 5, u8 b 6, ofU32 (u32 b 8), ofU32 (u32 b 12)⟩
    bumpFld R.SVY_COND_COUNT 6 0 { s with survey := { s.survey with conds := s.survey.conds ++ [c] } }
  | 0x21, 1 =>
    let p := pCan k
    let clap := rd s (R.PORT_CAN_CLAP p)
    let s := if clap.testBit 31 then claimTtu (clap % 32) 3 p s else s
    wrf s (R.PORT_CAN_CFG p) 8 8 (rdf s (R.PORT_CAN_CFG p) 7 7)
  | 0x22, 2 => putWords (R.PORT_LIN_DATA (pLin k) (u8 b 5)) 2 (slice b 12 8) s
  | 0x22, 3 => wr s (R.PORT_LIN_TBL_CFG (pLin k) (u8 b 5)) (2 ^ 31 + u16 b 6)
  | _, _ => s

/-- What lookup records write (R405). -/
def applyLookup (r : SRec) (s : State) : State :=
  let b := r.b
  let l := s.lku
  match r.sec, r.kind with
  | 0x30, 1 => { s with lku := { l with vlans := l.vlans.put (u16 b 4) ⟨u8 b 6, u64 b 8⟩ } }
  | 0x30, 2 =>
    bumpFld R.LKU_FWD_COUNT 16 0 { s with lku := { l with fwd := l.fwd ++ [⟨u16 b 4, beAt b 6 6, verdictAt b 12⟩] } }
  | 0x31, 1 =>
    let v := { verdictAt b 48 with yellow := u8 b 5 == 1 }
    bumpFld R.LKU_FLOW_COUNT 15 0 { s with lku := { l with flows := l.flows ++ [⟨u8 b 4, slice b 8 40, v⟩] } }
  | 0x32, 1 =>
    let e : CanRoute := { src := u8 b 4, fmt := u8 b 5, vcid := u8 b 6, sdt := 0, ident := u32 b 8, v := verdictAt b 12
                          lim := limiterAt b 36 }
    bumpFld R.LKU_CANR_COUNT 15 0 { s with lku := { l with exact := l.exact ++ [e] } }
  | 0x32, 2 =>
    let e : CanRoute := { src := u8 b 4, fmt := u8 b 5, vcid := u8 b 6, sdt := u8 b 7, ident := u32 b 8, mSrc := u8 b 12
                          mFmt := u8 b 13, mVcid := u8 b 14, mSdt := u8 b 15, mIdent := u32 b 16, v := verdictAt b 20
                          lim := limiterAt b 44 }
    bumpFld R.LKU_CANR_COUNT 31 16 { s with lku := { l with masked := l.masked ++ [e] } }
  | 0x33, 1 =>
    let m := u8 b 6
    let c : MeterCfg := ⟨m.testBit 0, m.testBit 1, m.testBit 2, u32 b 8, u32 b 12, u32 b 16, u32 b 20⟩
    bumpFld R.LKU_MTR_COUNT 13 0 { s with lku := { l with meters := l.meters.put (u16 b 4) c } }
  | _, _ => s

/-- One entry of a GATES LIST record. -/
def gateEntryPut (l e : Nat) (b : List Byte) (s : State) : State :=
  wr (wr s (R.GATE_LIST_ENTRY l e) (u8 b (20 + 8 * e))) (R.GATE_LIST_ENTRY_4 l e) (u32 b (24 + 8 * e))

/-- Queue q is deep queue d. -/
def deepMark (q d : Nat) (s : State) : State := wrf (wrf s (R.CPL_Q_CFG q) 31 31 1) (R.CPL_Q_CFG q) 29 24 d

/-- What QUEUES, GATES and STREAMS records write beyond their images (R405, R406). A queue that a DEEP record names is deep
whatever its QUEUE record says, in either order (R402; DESIGN CHOICE, log entry 224). -/
def applyQueues (r : SRec) (s : State) : State :=
  let b := r.b
  let k := u8 b 4
  match r.sec, r.kind with
  | 0x40, 1 =>
    wr (wr (wr (wr s (R.CPL_PART_SIZE 1) (u32 b 4)) R.CPL_SHARED_T1 (u32 b 8)) R.CPL_SHARED_T2 (u32 b 12)) R.CPL_STALL_LIMIT (u32 b 16)
  | 0x40, 3 => wrf s (R.CPL_PFC_HDRM k (u8 b 5)) 15 0 (u16 b 12)
  | 0x40, 4 =>
    let q := u16 b 4
    match (List.range 64).find? (fun d => rdb s (R.CPL_DEEP_CFG d) 31 && rdf s (R.CPL_DEEP_CFG d) 24 16 == q) with
    | some d => deepMark q d s
    | none => s
  | 0x40, 5 => deepMark (rdf s (R.CPL_DEEP_CFG k) 24 16) k s
  | 0x40, 6 =>
    if rdf s (R.CPL_WM_CFG k) 31 28 = 0 then s
    else { s with pool := { s.pool with wmUnits := insertAsc k s.pool.wmUnits } }
  | 0x42, 1 =>
    let n := u16 b 6
    let s := wrq (wr s (R.GATE_LIST_CFG k) (2 ^ 31 + n)) (R.GATE_LIST_BASE k) (u64 b 8)
    forEach (List.range n) (fun e s => gateEntryPut k e b s) (wr s (R.GATE_LIST_CYCLE k) (u32 b 16))
  | 0x42, 2 =>
    let u := u8 b 5
    let s := forEach (List.range 16) (fun sc s =>
      let l := u8 b (8 + sc)
      wr s (R.GATE_SCENE_LIST k sc) (if l = 0xFF then 0 else 0x40 + l)) s
    let gated := (List.range 16).any (fun sc => u8 b (8 + sc) != 0xFF)
    let s := wrf s (R.GATE_PORT k) 31 31 (if gated then 1 else 0)
    if u ≤ 31 then claimTtu u (if isCanPort k then 2 else 1) k (wrf s (R.GATE_PORT k) 28 24 u) else s
  | 0x50, 1 => wr s (R.LKU_SEQ (u16 b 4)) (2 ^ 31 + u8 b 6 * 2 ^ 30)
  | 0x50, 2 => bumpFld R.COL_CTX_COUNT 10 0 s
  | _, _ => s

/-- What engine and time records write beyond their images (R406). -/
def applyEngines (r : SRec) (s : State) : State :=
  let b := r.b
  let k := u8 b 4
  let q := u16 b 4
  let g := s.sge
  match r.sec, r.kind with
  | 0x60, 1 =>
    bumpFld R.SGE_SIG_COUNT 28 16
      { s with sge := { g with routeK := g.routeK.put q ⟨u64 b 20, u64 b 28, u64 b 36, u64 b 44, u64 b 52⟩ } }
  | 0x61, 1 => bumpFld R.SGE_CONV_COUNT 10 0 s
  | 0x61, 2 =>
    let s := bumpFld R.SGE_BRIDGE_COUNT 8 0 s
    let s := wrq s (R.SGE_ENC_STREAM k) (beAt b 16 8)
    { s with sge := { g with encX := g.encX.put k ⟨beAt b 24 6, beAt b 30 6, u16 b 36, u16 b 38, beAt b 40 6⟩ } }
  | 0x61, 3 =>
    let s := bumpFld R.SGE_BRIDGE_COUNT 24 16 s
    forEach (List.range 32) (fun i s => wr s (R.SGE_UNP_MAP k i) (u8 b (12 + i))) s
  | 0x61, 4 =>
    let s := bumpFld R.SGE_SIG_COUNT 11 0 s
    let dom := u16 b 22
    let ini := slice b 32 (u16 b 30)
    let x : PduExtra := ⟨u8 b 20, u8 b 21, if dom = 0xFFFF then none else some dom, u32 b 24, u8 b 28, ini⟩
    let s := { s with sge := { g with pduX := g.pduX.put q x } }
    putWords (R.SGE_PDU_DATA q) (min 64 (ceilDiv ini.length 4)) ini s
  | 0x62, 1 => bumpFld R.SGE_TP_COUNT 8 0 { s with sge := { g with tpGap := g.tpGap.put k (u8 b 16) } }
  | 0x62, 2 =>
    let s := wrf (wrf s (R.SGE_J1939 k) 31 31 1) (R.SGE_J1939 k) 15 8 (u8 b 5)
    let s := wrq s (R.SGE_J1939_NAME k) (u64 b 8)
    { s with sge := { g with j1939 := g.j1939.put k ⟨u8 b 6, u8 b 7, 0xFE, 0, []⟩ } }
  | 0x70, 1 => wrf s R.TIM_STATUS 4 4 k
  | _, _ => s

/-- Slot of a static SA of port p and SC sc: that of its AN, else the first free one. They are installed in the order of their
ANs (`applyRecs`), and the lowest transmit AN is the current one (DESIGN CHOICE, log entry 235). -/
def staticSlot (s : State) (p sc an : Nat) : Nat :=
  let w := if sc = 0xFF then R.CIP_TX_SA p 0 else R.CIP_RX_SA p sc 0
  if rdb s w 31 && rdf s w 29 28 != an then 1 else 0

/-- What security and management records write beyond their images (R406). A KEY_IMPORT ENTRY or BLOB is left to the
vault's reconciliation. -/
def applySecurity (r : SRec) (s : State) : State :=
  let b := r.b
  let k := u8 b 4
  match r.sec, r.kind with
  | 0x80, 1 => wrq s R.CIP_FV_WARN (u64 b 8)
  | 0x80, 3 =>
    let q := u16 b 4
    -- a slot that the retention SRAM kept goes on from its value, another from the committed one (R325)
    if s.cip.slots.contains q then s else
    let s := { s with cip := { s.cip with slots := insertAsc q s.cip.slots } }
    wrq s (R.CIP_FV q) (s.cip.fvCommit.getD q 0)
  | 0x81, 1 => wrq s R.CIP_PN_WARN (u64 b 4)
  | 0x81, 3 =>
    let a := staticSlot s k (u8 b 5) (u8 b 6)
    if u8 b 5 = 0xFF then txSaInstall k a (u8 b 6) (u16 b 8) (u32 b 20, leAt b 24 12) true (a == 0) s
    else rxSaInstall k (u8 b 5) a (u8 b 6) (u16 b 8) (u64 b 12) (u32 b 20, leAt b 24 12) true s
  | 0x82, 1 => wr s R.VLT_USE_WARN (u32 b 4)
  | 0x90, 1 =>
    let a := R.GAF_NM_SEG_CFG k
    let s := wrf (wrf s a 31 30 (u8 b 5)) a 7 0 (u8 b 6)
    { s with nm := { s.nm with needScenes := s.nm.needScenes.put k (u16 b 8), user := s.nm.user.put k (slice b 24 6) } }
  | 0x90, 2 =>
    let ports := (List.range 16).map pCan
    let base := ports.foldl (fun m p => m.put p (u32 b 4)) s.nm.kaBase
    let ext := ports.foldl (fun m p => m.put p (u8 b 8 == 1)) s.nm.kaExt
    { s with nm := { s.nm with kaBase := base, kaExt := ext } }
  | 0x90, 3 =>
    let all (v : Nat) (m : SMap Nat) : SMap Nat := (List.range 16).foldl (fun m p => m.put p v) m
    { s with nm := { s.nm with kaIp := all (beAt b 4 4) s.nm.kaIp, kaGroup := all (beAt b 8 4) s.nm.kaGroup
                               kaUdp := all (u16 b 12) s.nm.kaUdp } }
  | 0x91, 1 =>
    let a := R.GAF_NM_SEG_CFG k
    let s := wrf (wrf (wrf s a 29 29 (u8 b 5)) a 28 27 (u8 b 6)) a 26 26 (u8 b 7)
    wrq (wrf s (R.GAF_NM_TIMES_8 k) 31 16 (u16 b 8)) (R.GAF_NM_SEG_COUPLE k) (u64 b 12)
  | 0x91, 2 =>
    let w : Wuf := ⟨u32 b 8, u32 b 12, u8 b 5 == 1, u8 b 6, slice b 16 8⟩
    { s with nm := { s.nm with wuf := s.nm.wuf.put k w } }
  | 0x91, 3 => wr s (R.GAF_NM_POLICY k (u8 b 5)) (u8 b 6 * 2 ^ 30 + u8 b 7 * 2 ^ 16 + u16 b 8)
  | 0xA0, 1 => wr s R.GAF_RUNG_LIMIT (u8 b 36)
  | _, _ => s

/-- What reaction, recorder, scene, update and host records write beyond their images (R406). -/
def applyRest (r : SRec) (s : State) : State :=
  let b := r.b
  let k := u8 b 4
  match r.sec, r.kind with
  | 0xB1, 1 =>
    let n := u16 b 6
    let s := putWords (R.RXU_SAFE_DATA k) (min 60 (ceilDiv n 4)) (slice b 16 n) s
    { s with rxu := { s.rxu with safeLen := s.rxu.safeLen.put k n } }
  | 0xC0, 1 =>
    let l := u16 b 20
    let u := u16 b 22
    let t := u16 b 24
    let s := wr (wr (wr s (R.REC_RING 1) (l * 0x10000 + 1)) (R.REC_RING 2) (u * 0x10000 + 1 + l)) (R.REC_RING 3) (t * 0x10000 + 1 + l + u)
    putWords (R.REC_TRIG_MASK 0) 16 (slice b 92 64) (putWords (R.REC_EVT_MASK 0) 16 (slice b 28 64) s)
  | 0xD0, 1 =>
    let s := wr s R.UPD_SCENE (rd s R.UPD_SCENE ||| 2 ^ (16 + k))
    let s := if (u8 b 5).testBit 0 then wrf s R.UPD_SCENE 3 0 k else s
    wr s (R.UPD_SCENE_ALLOWED k) (u16 b 6)
  | 0xE0, 1 =>
    let s := wr s R.UPD_POLICY (u8 b 7 * 2 ^ 24 + u8 b 6 * 2 ^ 16 + u8 b 5 * 2 ^ 8 + u8 b 4)
    wr (wr (wr (wr s R.UPD_TRIAL_S (u32 b 8)) R.UPD_AUTO_S (u32 b 12)) R.UPD_UDS_RX (u32 b 16)) R.UPD_UDS_TX (u32 b 20)
  | 0xF0, 1 =>
    let s := wr s R.SNAP_SCHED_CFG (u8 b 4 % 2 * 2 ^ 31 + u8 b 5)
    wr (wrq s R.SNAP_SCHED_START (u64 b 8)) R.SNAP_SCHED_PERIOD (u32 b 16)
  | 0xF0, 2 =>
    wr s (R.HDMA_RING_CFG k) (2 ^ 31 + u8 b 5 * 2 ^ 30 + u8 b 8 * 2 ^ 28 + u8 b 6 * 2 ^ 24 + u8 b 7 * 2 ^ 16)
  | 0xF0, 3 => wr s (R.HDMA_CQ_TARGET k) (u8 b 5)
  | _, _ => s

/-- Images that apply: a PORTS_ETH record without the MAC flag leaves the factory address. -/
def recImages (r : SRec) : List (Nat × Nat) :=
  let l := ((r.fmt).map RecFmt.imgs).getD []
  if r.sec = 0x20 ∧ (u8 r.b 5).testBit 0 = false then l.filter (fun x => x.1 != 12 && x.1 != 16) else l

/-- One record. -/
def applyRec (r : SRec) (s : State) : State :=
  let s := forEach (recImages r) (putImage r.b) s
  if r.sec < 0x30 then applyPorts r s
  else if r.sec < 0x40 then applyLookup r s
  else if r.sec < 0x60 then applyQueues r s
  else if r.sec < 0x80 then applyEngines r s
  else if r.sec < 0xB0 then applySecurity r s
  else applyRest r s

-- Computed values -----------------------------------------------------------------------------------------------------

/-- Sum of `f` over a list. -/
def sumOf (l : List Nat) (f : Nat → Nat) : Nat := (l.map f).foldl (· + ·) 0

/-- Staging allowance of ingress port p (R88). -/
def stageCells (s : State) (p : Nat) : Nat :=
  if p ≤ 18 then ceilDiv (rdf s (R.LKU_PORT_CFG p) 13 0) 128 + 4
  else if p = 19 then 76 else if p ≤ 35 then 18 else if p ≤ 43 then 1 else 0

/-- Sizes of STAGING, GUARANTEED and HEADROOM that the sheet's parameters give (R88). -/
def poolSizes (s : State) : Nat × Nat × Nat :=
  (sumOf (List.range 44) (stageCells s), sumOf (List.range 45) (fun p => rdf s (R.CPL_PORT_CFG p) 16 0),
   sumOf (List.range 19) (fun p => sumOf (List.range 8) (fun c => rdf s (R.CPL_PFC_HDRM p c) 15 0)))

/-- A QUEUES POOL record is present: RESERVE, T1 and T2 are its own, else their defaults (R107). -/
def hasRec (l : List SRec) (sec kind : Nat) : Bool := l.any (fun r => r.sec == sec && r.kind == kind)

/-- Step 2 of R410: partition sizes, and the limits that follow SHARED where the section does not give them. -/
def poolCompute (given : Bool) (s : State) : State :=
  let z := poolSizes s
  let s := forEach (List.range 45) (fun p s => wr s (R.CPL_PORT_STAGE p) (stageCells s p)) s
  let s := if given then s else wr s (R.CPL_PART_SIZE 1) 4096
  let shared := 131072 - (z.1 + rd s (R.CPL_PART_SIZE 1) + z.2.1 + z.2.2)
  let s := wr (wr (wr s (R.CPL_PART_SIZE 0) z.1) (R.CPL_PART_SIZE 2) z.2.1) (R.CPL_PART_SIZE 3) z.2.2
  let s := wr s (R.CPL_PART_SIZE 4) shared
  if given then s else wr (wr s R.CPL_SHARED_T1 (shared * 7 / 8)) R.CPL_SHARED_T2 (shared * 3 / 4)

/-- Port 18's class map: class c to the (c + 1)-th to-host GENERAL ring, or to the last (R461). -/
def hpMap (s : State) : State :=
  let rings := (List.range 64).filter (fun k => rdb s (R.HDMA_RING_CFG k) 31 && rdf s (R.HDMA_RING_CFG k) 30 28 == 0)
  let ring (c : Nat) : Nat := if c < rings.length then rings.getD c 0xFF else rings.getLastD 0xFF
  forEach (List.range 8) (fun c s => wrf s (R.PORT18_HP_MAP (c / 4)) (8 * (c % 4) + 7) (8 * (c % 4)) (ring c)) s

/-- Defaults of the block chapters that differ from the Reset value (R78, R137, R216, R245, R264, R283, R329): a section or
record that is absent leaves them (R401). -/
def sheetDefaults (s : State) : State :=
  let s := forEach (List.range 18) (fun p s =>
    let s := wrf s (R.LKU_PORT_CFG p) 17 17 1
    let s := wrf s (R.PORT_ETH_CFG p) 8 4 (if p ≤ 3 then 31 else if p ≤ 11 then 3 else if p ≤ 15 then 0 else 30)
    wrf s (R.CIP_SECY_CFG p) 30 28 7) s
  let s := forEach (List.range 20 ++ [44]) (fun p s => wrf s (R.SCH_PORT_CFG p) 31 29 2) s
  -- seal domains: F 8, T 64, ACCEPT_WINDOW 16; clock domain entry 0
  let s := forEach (List.range 256) (fun d s =>
    wr (wr s (R.CIP_DOM_CFG d) (8 * 2 ^ 23 + 64 * 2 ^ 15)) (R.CIP_DOM_WIN d) 16) s
  let s := wrf s R.TIM_STATUS 4 4 0
  let s := forEach [12, 13, 14, 15] (fun p s => wrf s (R.PORT_ETH_CFG p) 9 9 1) s
  let s := forEach (List.range 8) (fun m s =>
    forEach (List.range 64) (fun i s => wrf s (R.PORT_LIN_FRAME (pLin m) i) 29 29 1) s) s
  let s := forEach (List.range 16) (fun n s => wr s (R.PORT_CAN_PWM (pCan n)) (8 * 0x10000 + 24 * 0x100 + 8)) s
  wrf s (R.TIM_DOM_CFG 0) 31 31 1

/-- The sheet's parameters over `s`, whose RL registers hold their Reset values: records in order, rings replaced where
the section names any (R461), then what the module computes. -/
def applyRecs (l : List SRec) (s : State) : State :=
  let s := sheetDefaults s
  let s := if hasRec l 0xF0 2 then wr (wr s (R.HDMA_RING_CFG 0) 0) (R.HDMA_RING_CFG 1) 0 else s
  let static (r : SRec) : Bool := r.sec == 0x81 && r.kind == 3
  let s := forEach (l.filter (fun r => !static r)) applyRec s
  -- static SAs by AN, whatever the order of their records (R402)
  let s := forEach [0, 1, 2, 3] (fun an s => forEach (l.filter (fun r => static r && u8 r.b 6 == an)) applyRec s) s
  let s := if hasRec l 0xD0 1 then s else wr s R.UPD_SCENE (2 ^ 16)
  let s := wrf s R.TIM_STATUS 5 5 (rdf s (R.TIM_DOM_CFG (rdf s R.TIM_STATUS 4 4)) 30 30)
  let s := if hasRec l 0xA0 1 then s else wr s R.GAF_RUNG_LIMIT 2
  hpMap (poolCompute (hasRec l 0x40 1) s)

-- The vault's key table (R297) ----------------------------------------------------------------------------------------

/-- Definition of an entry: word 0 less STALE, and its derivation data. -/
def keyDefOf (s : State) (i : Nat) : Nat × List Byte :=
  (putFld (rd s (ktAddr i 0)) 30 30 0, s.vault.deriv.getD i [])

/-- One ENTRY record: an equal definition keeps the entry, a GENERATE or changed one is made afresh; a derivation is a use
of the parent (R290), and an entry whose parent refuses it stays undefined. -/
def reconcileEntry (r : SRec) (s : State) : State :=
  let b := r.b
  let i := u16 b 4
  let w := u32 b 8
  let d := slice b 16 16
  let same := ktValid s i && decide (keyDefOf s i = (w, d))
  let s := { s with vault := { s.vault with deriv := s.vault.deriv.put i d, defUses := s.vault.defUses.put i (u32 b 12) } }
  let vol := w.testBit 29
  if fld w 28 27 = 3 then
    let k := drbgKey s
    ktPut i w 1 0 0 k.1 k.2
  else if same && !vol then s
  else
    let u := keyUse (w % 0x1000) s
    if u.1 ≠ 0 then (if ktValid u.2 i then ktDrop i u.2 else u.2)
    else
      let s := u.2
      ktPut i w 1 (ktGen s (w % 0x1000)) (if vol then 0 else u32 b 12) (childKey s i w) s

/-- ENTRY records in an order in which a parent comes before its children: those whose parents are done, `fuel` times. -/
def reconcileEntries : Nat → List SRec → List Nat → State → State
  | 0, _, _, s => s
  | n + 1, l, done, s =>
    let ready (r : SRec) : Bool := u32 r.b 8 % 0x1000 == 0xFFF || done.contains (u32 r.b 8 % 0x1000)
    let now := l.filter ready
    if now = [] then s
    else reconcileEntries n (l.filter (fun r => !ready r)) (done ++ now.map (fun r => u16 r.b 4)) (forEach now reconcileEntry s)

/-- A blob record: one already applied is skipped without error; another is applied under R296. -/
def reconcileBlob (r : SRec) (s : State) : State :=
  let b := r.b.drop 4
  if beAt b 8 4 ≤ rd s R.VLT_IMPORT_SEQ ∧ beAt b 0 4 = 0x58464B49 then s else (importBlob b s).2

/-- Step 3 of R410 in SEALED; in any other state the vault answers no table operation and keeps its table as it is. -/
def reconcile (l : List SRec) (s : State) : State :=
  if lifecycle s ≠ 1 then s else
  let ks := l.filter (fun r => r.sec == 0x82)
  let named := ks.flatMap keyDefs
  let s := forEach (s.vault.keys.map Prod.fst) (fun i s => if named.contains i then s else ktDrop i s) s
  let s := forEach (ks.filter (fun r => r.kind == 3)) reconcileBlob s
  let es := ks.filter (fun r => r.kind == 2)
  let imported := (ks.filter (fun r => r.kind == 3)).flatMap keyDefs
  cipRegs (ktCounts (reconcileEntries (es.length + 1) es imported s))

end Sys2Proof.Machine
end

