-- ==== Sys2Proof/Machine/SheetRules.lean ====
section
/-! DEFINITION. Stage 7 of R408: field ranges and the rules within one section, of every block chapter (R78, R79, R107,
R108, R137, R138, R158, R159, R188, R189, R216, R217, R245, R246, R264, R265, R283, R284, R304, R305, R329, R330, R350,
R351, R370, R396, R397, R451, R452, R478, R479). A rule is a pair: it is broken, and the byte offset it is reported at.
`s` is a scratch state over which the sheet's records have been applied. -/

namespace Sys2Proof.Machine

/-- Offset of the first rule that is broken. -/
def firstBad (l : List (Bool × Nat)) : Option Nat := (l.find? (fun x => x.1)).map Prod.snd

/-- A value lies outside a range. -/
def outside (v lo hi : Nat) : Bool := decide (v < lo ∨ hi < v)

/-- The whole record. -/
def whole : Nat := 0xFFFF

-- Ports ---------------------------------------------------------------------------------------------------------------

/-- A start condition's TARGET (R404). -/
def condTarget (t : Nat) : Bool :=
  t ≤ 15 || (20 ≤ t && t ≤ 43) || t == 0xF0 || t == 0xF1 || (0xE0 ≤ t && t ≤ 0xE3) || (0xD0 ≤ t && t ≤ 0xD7) ||
  (0xC0 ≤ t && t ≤ 0xC3)

/-- Speeds of port p as a mask of rate codes (R219). -/
def portRates (p : Nat) : List Nat :=
  if p ≤ 3 then [2, 3, 4, 5, 6] else if p ≤ 11 then [2, 3] else if p ≤ 15 then [1] else [3, 4, 5, 6]

/-- ADV_SPEEDS bits of port p (R219). -/
def portAdv (p : Nat) : Nat := if p ≤ 3 then 31 else if p ≤ 11 then 3 else if p ≤ 15 then 0 else 30

/-- The MAC address that port p uses (R225). -/
def macOf (s : State) (p : Nat) : Nat := rd s (R.PORT_ETH_MAC_LO p) + 2 ^ 32 * rdf s (R.PORT_ETH_MAC_HI p) 15 0

/-- Rules of an Ethernet port's lookup images. -/
def lkuEthBad (p : Nat) (s : State) : List (Bool × Nat) :=
  let c := rd s (R.LKU_PORT_CFG p)
  let k := rd s (R.LKU_PORT_KEY p)
  [(p ≤ 18 && outside (fld c 13 0) 1522 9216, 41), (18 ≤ p && c.testBit 17, 42), (fld c 19 18 == 3, 42),
   (3 < fld k 3 0, 44), (3 < fld k 11 8, 45), (outside (fld k 27 16) 1 4094, 47)]

/-- Rules of a bus port's lookup images, the key's at offset `o`: no cut-through (R78), CANSRC or nothing. -/
def lkuBusBad (p o : Nat) (s : State) : List (Bool × Nat) :=
  let k := rd s (R.LKU_PORT_KEY p)
  [((rdb s (R.LKU_PORT_CFG p) 17, o - 2) : Bool × Nat), (!([0, 4].contains (fld k 3 0)), o), (!([0, 4].contains (fld k 11 8)), o + 1)]

/-- The address that a PORT record gives is used by another port: one given before, or a factory address (R246). -/
def macTwice (prev : List SRec) (l : List SRec) (b : List Byte) (s : State) : Bool :=
  let p := u8 b 4
  let gives (x : SRec) (q : Nat) : Bool := x.sec == 0x20 && x.kind == 1 && u8 x.b 4 == q && (u8 x.b 5).testBit 0
  (u8 b 5).testBit 0 && (List.range 18).any (fun q => q != p && macOf s q == macOf s p &&
    (prev.any (gives · q) || !l.any (gives · q)))

/-- Rules of a PORTS_ETH record (R245, R246). A reported offset is the byte that holds a
register field's highest bit (DEDUCED, log entry 17), as in the example after R414. A setting's
range is checked on the kinds of port that have the setting (R219). -/
def ethBad (prev l : List SRec) (b : List Byte) (s : State) : List (Bool × Nat) :=
  let p := u8 b 4
  (u8 b 5 / 2 != 0, 5) :: lkuEthBad p s ++
  if 18 ≤ p then [] else
  let c := rd s (R.PORT_ETH_CFG p)
  let an := c.testBit 15
  let adv := fld c 8 4
  let rate := fld c 3 0
  let st := rd s (R.PORT_ETH_STEP p)
  let plca := rd s (R.PORT_ETH_PLCA p)
  let bt := rdf s (R.PORT_ETH_PLCA_BT p) 7 0
  let sd := 12 ≤ p && p ≤ 15
  let mg := p ≤ 3
  [(fld c 14 13 == 3, 9), (!an && fld c 14 13 == 0, 9), (adv &&& portAdv p != adv, 9),
   ((16 ≤ p || (!an && !sd)) && !(portRates p).contains rate, 8), (rate != 0 && !(portRates p).contains rate, 8),
   (c.testBit 11 && (3 < p || decide (fld st 23 16 ≤ fld st 31 24)), 9),
   (c.testBit 12 && (12 ≤ p || (if an then adv == 1 else rate == 2)), 9), (c.testBit 10 && 12 ≤ p, 9),
   (c.testBit 9 && !sd, 9),
   (!sd && !([0, 0x82000].contains plca), 32), (!sd && !([0, 0x80].contains bt), 36),
   (sd && fld plca 31 24 == 255, 35), (sd && fld plca 23 16 == 0, 34), (sd && fld plca 15 8 == 0, 33), (sd && bt == 0, 36),
   ((u8 b 5).testBit 0 && (rdf s (R.PORT_ETH_MAC_HI p) 15 0).testBit 8, 17),
   (macTwice prev l b s, 15),
   (p ≤ 11 && rdf s (R.PORT_ETH_LPI p) 31 16 == 0, 23),
   (mg && outside (fld st 31 24) 5 50, 27), (mg && outside (fld st 23 16) 50 95, 26), (mg && fld st 15 0 < 10, 25),
   (mg && outside (rdf s (R.PORT_ETH_STEP_WAIT p) 13 0) 10 10000, 29)]

/-- BRP, TSEG1, TSEG2, SJW of a nominal and of a data timing register (R195). -/
def canNbt (w : Nat) : Nat × Nat × Nat × Nat := (fld w 30 22 + 1, fld w 21 14 + 1, fld w 13 7 + 1, fld w 6 0 + 1)
def canDbt (w : Nat) : Nat × Nat × Nat × Nat := (fld w 31 27 + 1, fld w 26 21 + 1, fld w 20 16 + 1, fld w 15 11 + 1)

/-- Clock periods of a bit. -/
def shClocks (t : Nat × Nat × Nat × Nat) : Nat := t.1 * (1 + t.2.1 + t.2.2.1)

/-- A timing lies outside R195: fewest quanta, rate range in bit/s. -/
def timingBad (t : Nat × Nat × Nat × Nat) (quanta lo hi : Nat) : Bool :=
  decide (t.2.2.1 < t.2.2.2 ∨ 1 + t.2.1 + t.2.2.1 < quanta ∨ 160000000 < lo * shClocks t ∨ hi * shClocks t < 160000000)

/-- Rules of a PORTS_CAN CHANNEL record (R216, R217). -/
def canBad (b : List Byte) (s : State) : List (Bool × Nat) :=
  let n := u8 b 4
  let p := pCan n
  let c := rd s (R.PORT_CAN_CFG p)
  let mode := fld c 2 0
  let nbt := canNbt (rd s (R.PORT_CAN_NBT p))
  let dbt := canDbt (rd s (R.PORT_CAN_DBT p))
  let xbt := canDbt (rd s (R.PORT_CAN_XBT p))
  let pwm := rd s (R.PORT_CAN_PWM p)
  let fast := c.testBit 7
  let term := rd s (R.PORT_CAN_TERM p)
  let clap := rd s (R.PORT_CAN_CLAP p)
  [((decide (3 < mode), 8) : Bool × Nat), (fld c 5 4 == 3, 8), (fast && mode != 3, 8),
   (mode != 0 && timingBad nbt 8 10000 1000000, 15),
   (2 ≤ mode && (timingBad dbt 5 1000000 8000000 || decide (shClocks nbt < shClocks dbt)), 19),
   (mode == 3 && timingBad xbt 5 1000000 (if fast then 20000000 else 10000000), 23),
   (fast && fld pwm 5 0 == 0, 24), (fast && fld pwm 13 8 == 0, 25), (fast && fld pwm 21 16 == 0, 26),
   (term.testBit 31 && (1 < n || fld term 15 0 != 0), 31), (!clap.testBit 31 && clap % 32 != 0, 32)] ++ lkuBusBad p 44 s

/-- Longest response that a LIN slot can carry (R265): an active identifier's length, 8 bytes for one that the sheet leaves
without a length or for a diagnostic one, a sporadic group's longest. -/
def slotBytes (p w : Nat) (s : State) : Nat :=
  let len (i : Nat) : Nat :=
    if i = 0x3C ∨ i = 0x3D ∨ rdb s (R.PORT_LIN_FRAME p i) 31 = false then 8 else rdf s (R.PORT_LIN_FRAME p i) 3 0
  if fld w 31 29 = 2 then
    (((List.range 64).filter (fun i => rdb s (R.PORT_LIN_FRAME p i) 31 && rdf s (R.PORT_LIN_FRAME p i) 6 4 == fld w 26 24)).map len).foldl max 0
  else len (fld w 21 16)

/-- A LIN table entry is broken (R264, R265): type, delay against 1.4 × (34 + 10 × (n + 1)) bit times, group. -/
def linEntryBad (p t e : Nat) (s : State) : Bool :=
  let w := rd s (R.PORT_LIN_TBL p t e)
  let ty := fld w 31 29
  let n := slotBytes p w s
  2 < ty || fld w 15 0 == 0 ||
  decide (fld w 15 0 * rdf s (R.PORT_LIN_BAUD p) 14 0 < 14 * (34 + 10 * (n + 1)) * 1000) ||
  (ty == 2 && (fld w 26 24 == 0 || n == 0))

/-- Rules of PINS, PORTS and SWITCH_IO records. -/
def portsBad (prev l : List SRec) (r : SRec) (s : State) : Option Nat :=
  let b := r.b
  let k := u8 b 4
  match r.sec, r.kind with
  | 0x10, 1 => firstBad [(outside (u16 b 4) 4500 5500, 4), (1000 < u16 b 6, 6), (1 < u8 b 10, 10)]
  | 0x10, 2 => firstBad [(!condTarget k, 4), (7 < u8 b 5, 5), (2 < u8 b 6, 6)]
  | 0x20, 1 => firstBad (ethBad prev l b s)
  | 0x21, 1 => firstBad (canBad b s)
  | 0x22, 1 =>
    let com := rdb s (R.PORT_LIN_CFG (pLin k)) 15
    let tbl (i : Nat) : Nat := rdf s (R.PORT_LIN_SCENE (pLin k) (i / 8)) (4 * (i % 8) + 3) (4 * (i % 8))
    firstBad ([(outside (rdf s (R.PORT_LIN_BAUD (pLin k)) 14 0) 1000 20000, 13),
               (!com && (List.range 16).any (fun i => tbl i != 15), 16),
               ((List.range 16).any (fun i => decide (7 < tbl i ∧ tbl i < 15)), 16)] ++ lkuBusBad (pLin k) 28 s)
  | 0x22, 2 =>
    let f := rd s (R.PORT_LIN_FRAME (pLin k) (u8 b 5))
    firstBad [(f.testBit 31 && outside (fld f 3 0) 1 8, 8)]
  | 0x22, 3 =>
    let bad := (List.range (u16 b 6)).find? (fun e => linEntryBad (pLin k) (u8 b 5) e s)
    if rdb s (R.PORT_LIN_CFG (pLin k)) 15 then bad.map (fun e => 8 + 4 * e) else some whole
  | 0x23, 1 =>
    let t := rd s (R.GAF_SW_THR k)
    firstBad [(outside (fld t 31 16) 500 32000, 15), (outside (fld t 15 0) 500 32000, 13), (fld t 31 16 ≤ fld t 15 0, 13)]
  | 0x23, 2 => firstBad [(outside (rdf s R.GAF_SW_POLL 7 0) 10 200, 4)]
  | 0x23, 3 =>
    let c := rd s (R.RXU_SO_CFG k)
    firstBad [(outside (fld c 23 16) 60 160, 10), (outside (fld c 15 8) 5 50, 9)]
  | _, _ => none

-- Lookup --------------------------------------------------------------------------------------------------------------

/-- Ports of a mask all lie among those `ok` allows. -/
def onlyPorts (m : Nat) (ok : Nat → Bool) : Bool := (bitsOf m 64).all ok

/-- A verdict's own rules at offset `o` (R79, R165, R403): `fwd` for a forwarding record, `can` where FLOOD is allowed. -/
def verdictBad (b : List Byte) (o : Nat) (fwd can : Bool) : List (Bool × Nat) :=
  let v := verdictAt b o
  let w2 := u32 b (o + 8)
  let w3 := u32 b (o + 12)
  let w4 := u32 b (o + 16)
  [(2 ^ 45 ≤ v.dest, o + 7), (8 < v.tc, o + 8), (5 < fld w2 13 11, o + 9), (5 < fld w2 10 8, o + 9),
   (v.flood.any (18431 < ·), o + 21), (!can && v.flood.isSome, o + 21),
   (fwd && fld w2 14 8 != 0, o + 9), (fwd && fld w2 3 0 != 0, o + 8), (fwd && fld w3 17 5 != 0, o + 14),
   (fwd && fld w3 4 0 != 0, o + 12), (fwd && fld w4 31 23 != 0, o + 19), (fwd && fld w4 22 12 != 0, o + 18),
   (fwd && fld w4 11 0 != 0, o + 17),
   (v.stream.isSome && v.bridge != .none, o + 9),
   (v.bridge == .canConvert && !onlyPorts v.dest isCanPort, o + 7),
   (v.bridge == .encap1722 && !onlyPorts v.dest (· ≤ 18), o + 7), (v.bridge == .unpack1722 && v.dest != 0, o + 7)]

/-- A limiter's ranges (R78). -/
def limiterBad (b : List Byte) (o : Nat) : List (Bool × Nat) :=
  let l := limiterAt b o
  [(10000 < l.rateFps, o), (l.rateFps != 0 && outside l.burst 1 64, o + 2), (100000 < l.spacingUs, o + 4)]

/-- Two exact entries of one table: same key, overlapping scenes (R79). -/
def sameEntry (r x : SRec) : Bool :=
  r.sec == x.sec && r.kind == x.kind &&
  (match r.sec, r.kind with
   | 0x30, 2 => slice r.b 4 8 == slice x.b 4 8 && (verdictAt r.b 12).scenes &&& (verdictAt x.b 12).scenes != 0
   | 0x31, 1 => u8 r.b 4 == u8 x.b 4 && slice r.b 8 40 == slice x.b 8 40 &&
                (verdictAt r.b 48).scenes &&& (verdictAt x.b 48).scenes != 0
   | 0x32, 1 => slice r.b 4 8 == slice x.b 4 8 && (verdictAt r.b 12).scenes &&& (verdictAt x.b 12).scenes != 0
   | _, _ => false)

/-- Rules of lookup records; `prev` are the records before. -/
def lookupBad (prev : List SRec) (r : SRec) : Option Nat :=
  let b := r.b
  let twice (o : Nat) : Bool × Nat := (prev.any (sameEntry r), o + 23)
  match r.sec, r.kind with
  | 0x30, 1 => firstBad [(2 < u8 b 6, 6), (2 ^ 45 ≤ u64 b 8, 8)]
  | 0x30, 2 => firstBad ((outside (u16 b 4) 1 4094, 4) :: verdictBad b 12 true false ++ [twice 12])
  | 0x31, 1 =>
    let can := u8 b 4 == 4
    -- a CANSRC key's source port, format and identifier (R3, R61)
    firstBad ([(outside (u8 b 4) 1 4, 4), (1 < u8 b 5, 5), (can && decide (44 < u8 b 8), 8), (can && decide (5 < u8 b 9), 9),
               (can && decide (2 ^ 29 ≤ u32 b 12), 12)] ++ verdictBad b 48 false (u8 b 4 == 4) ++ [twice 48])
  | 0x32, 1 =>
    firstBad ([((decide (44 < u8 b 4), 4) : Bool × Nat), (5 < u8 b 5, 5), (2 ^ 29 ≤ u32 b 8, 8)] ++ verdictBad b 12 false true ++
      limiterBad b 36 ++ [twice 12])
  | 0x32, 2 =>
    firstBad ([((decide (44 < u8 b 4), 4) : Bool × Nat), (5 < u8 b 5, 5), (2 ^ 29 ≤ u32 b 8, 8)] ++ verdictBad b 20 false true ++ limiterBad b 44)
  | 0x33, 1 =>
    let size (v : Nat) : Bool := v != 0 && outside v 1522 (16 * 0x100000)
    firstBad [(7 < u8 b 6, 6), (3125000 < u32 b 8, 8), (3125000 < u32 b 12, 12), (size (u32 b 16), 16), (size (u32 b 20), 20)]
  | _, _ => none

-- Queues, schedulers, gates, streams ----------------------------------------------------------------------------------

/-- INDEX of a watermark unit of a KIND exists (CPL_WM_CFG). -/
def wmIndexOk (kind i : Nat) : Bool :=
  match kind with
  | 1 => i ≤ 4 | 2 => i ≤ 44 | 3 => i ≤ 44 | 4 => i < 360 || (384 ≤ i && i ≤ 511) | 7 => i ≤ 44 | _ => true

/-- Rules of QUEUES, SCHEDULERS, GATES and STREAMS records. The HOLD ranges of R107 are asked of port 44's record too, and a
DEEP record must set ACTIVE (DESIGN CHOICE, log entries 224 and 225). -/
def queuesBad (prev : List SRec) (r : SRec) (s : State) : Option Nat :=
  let b := r.b
  let k := u8 b 4
  let q := u16 b 4
  match r.sec, r.kind with
  | 0x40, 1 => firstBad [(16384 < u32 b 4, 4), (u32 b 8 < u32 b 12, 12), (outside (u32 b 16) 1 1000, 16)]
  | 0x40, 2 =>
    let c := rd s (R.CPL_PORT_CFG k)
    firstBad [(outside (fld c 30 24) 1 100, 11), (outside (fld c 23 17) 1 100, 10), (65535 < fld c 16 0, 10),
              (k == 44 && c.testBit 31, 11)]
  | 0x40, 3 =>
    let c := rd s (R.CPL_PFC k (u8 b 5))
    firstBad [(fld c 15 0 != 0 && fld c 15 0 ≤ fld c 31 16, 11), (4096 < u16 b 12, 12)]
  | 0x40, 4 =>
    let c := rd s (R.CPL_Q_CFG q)
    firstBad [(131071 < fld c 17 0, 10),
              (c.testBit 31 && !(rdb s (R.CPL_DEEP_CFG (fld c 29 24)) 31 && rdf s (R.CPL_DEEP_CFG (fld c 29 24)) 24 16 == q), 11)]
  | 0x40, 5 =>
    let c := rd s (R.CPL_DEEP_CFG k)
    firstBad [(!c.testBit 31, 11), (383 < fld c 24 16, 11), (outside (fld c 12 0) 16 4096, 9),
              (rdf s (R.CPL_Q_CFG (fld c 24 16)) 17 0 < fld c 12 0, 9), (outside (rdf s (R.CPL_DEEP_QUOTA k) 15 0) 1 32768, 13)]
  | 0x40, 6 =>
    let c := rd s (R.CPL_WM_CFG k)
    firstBad [(7 < fld c 31 28, 11), (!wmIndexOk (fld c 31 28) (fld c 8 0), 9),
              (decide (rd s (R.CPL_WM_UP k) ≤ rd s (R.CPL_WM_DOWN k)), 18)]
  | 0x41, 1 =>
    let c := rd s (R.SCH_PORT_CFG k)
    firstBad [(4 < fld c 31 29, 11), (fld c 27 26 == 3, 11), (12 ≤ k && k ≤ 15 && fld c 27 26 != 0, 11),
              (17 < k && fld c 28 16 != 0, 11), (k ≤ 17 && rdf s (R.SCH_PORT_PAUSE k) 31 16 == 0, 15)]
  | 0x41, 2 =>
    let on := rdb s (R.SCH_Q_CFG q) 8
    let p := portOfQ q
    let best := ((portRates p).map rateBps).foldl max (if 18 ≤ p then 25000000000 else 0)
    firstBad [(rdf s (R.SCH_Q_CFG q) 7 0 == 0, 8), (on && 151 < q, 9),
              (on && (outside (rd s (R.SCH_Q_RATE q)) 1 3125000 || decide (best < rd s (R.SCH_Q_RATE q) * 8000)), 14),
              (1048576 < rd s (R.SCH_Q_BURST q), 18)]
  | 0x42, 1 =>
    let n := u16 b 6
    let iv (e : Nat) : Nat := u32 b (24 + 8 * e)
    let bad := (List.range n).find? (fun e => iv e % 8 != 0 || outside (iv e) 8 1000000000)
    match bad with
    | some e => some (24 + 8 * e)
    | none => firstBad [(outside (u32 b 16) 1000 1000000000, 16), (u32 b 16 != sumOf (List.range n) iv, 16)]
  | 0x42, 2 =>
    let lists := (List.range 16).map (fun i => u8 b (8 + i))
    firstBad [(31 < u8 b 5 && u8 b 5 != 0xFF, 5), (u8 b 5 == 0xFF && lists.any (· != 0xFF), 5),
              (lists.any (fun l => 63 < l && l != 0xFF), 8)]
  | 0x50, 1 => firstBad [(1 < u8 b 6, 6)]
  | 0x50, 2 =>
    let c := rd s (R.COL_CTX_CFG q)
    let t := rd s (R.COL_CTX_TIMERS q)
    let la := rd s (R.COL_CTX_LATENT q)
    let lp := rd s (R.COL_CTX_LPER q)
    let fn := fld c 30 28
    let p := fld c 24 19
    let twin (x : SRec) : Bool := x.sec == 0x50 && x.kind == 2 &&
      (let d := rd s (R.COL_CTX_CFG (u16 x.b 4)); fld d 24 19 == p && fld d 11 0 == fld c 11 0)
    firstBad [(!c.testBit 31, 11), (3 < fn, 11), (fld c 27 26 == 3, 11), (19 < p, 11), (18 ≤ p && fld c 27 26 != 0, 11),
              (fn != 0 && outside (fld c 18 12) (if fn = 1 then 1 else 2) 64, 10), (fn % 2 == 1 && outside (fld t 31 18) 10 10000, 15),
              (la.testBit 31 && fn < 2, 19), (la.testBit 31 && outside (fld la 30 27) 2 8, 19),
              (la.testBit 31 && (fld lp 31 16 == 0 || fld lp 15 0 == 0), 19), (prev.any twin, 9)]
  | _, _ => none

-- Engines and time ----------------------------------------------------------------------------------------------------

/-- An identifier is too wide for its format (R61): 11 bits for CBFF, FBFF and XLFF, 6 for LIN, 29 for the others. -/
def identBad (fmt id : Nat) : Bool := decide (2 ^ (if fmt = 0 ∨ fmt = 2 ∨ fmt = 4 then 11 else if fmt = 5 then 6 else 29) ≤ id)

/-- A PDU of n bytes fits a format without padding (R167); a LIN layout has at most 8 (R189). -/
def pduFits (fmt n : Nat) : Bool := if fmt = 4 then decide (1 ≤ n ∧ n ≤ 2048) else if fmt = 5 then n ≤ 8 else busLenOk fmt n false

/-- Signed 4-bit value. -/
def s4 (n : Nat) : Int := if n < 8 then n else (n : Int) - 16

/-- A record that gives domain entry d what R284 checks: its DOMAIN record, or a PORT record with a role in it. -/
def domGiven (l : List SRec) (s : State) (d : Nat) : Bool :=
  l.any (fun r => r.sec == 0x70 && r.kind == 2 && u8 r.b 4 == d) ||
  (List.range 18).any (fun p => rdf s (R.TIM_PORT_CFG p) (29 + 2 * d) (28 + 2 * d) != 0)

/-- SLAVE ports of domain entry d. -/
def domSlaves (s : State) (d : Nat) : Nat :=
  ((List.range 18).filter (fun p => rdf s (R.TIM_PORT_CFG p) (29 + 2 * d) (28 + 2 * d) == 2)).length

/-- Domain entry d breaks R284: a GM with a SLAVE, a RELAY with other than one. -/
def domBad (l : List SRec) (s : State) (d : Nat) : Bool :=
  domGiven l s d && (if rdb s (R.TIM_DOM_CFG d) 30 then domSlaves s d != 0 else domSlaves s d != 1)

/-- Rules of engine and time records. -/
def enginesBad (l : List SRec) (r : SRec) (s : State) : Option Nat :=
  let b := r.b
  let k := u8 b 4
  let q := u16 b 4
  match r.sec, r.kind with
  | 0x60, 1 => firstBad [(!rdb s (R.SGE_ROUTE_SRC q) 31, 11)]
  | 0x61, 1 =>
    let c := rd s (R.SGE_CONV_CFG q)
    firstBad [(!c.testBit 31, 11), (4 < fld c 30 28, 11), (c.testBit 27 && identBad (fld c 30 28) (rdf s (R.SGE_CONV_ID q) 28 0), 15)]
  | 0x61, 2 =>
    let c := rd s (R.SGE_ENC_CFG k)
    let w := rd s (R.SGE_ENC_WIN k)
    let vl := u16 b 36
    firstBad [(!c.testBit 31, 11), (fld c 30 29 == 3, 11), (outside (fld c 10 0) 64 1500, 9),
              (w != 0 && outside w 10 10000, 13), (vl != 0xFFFF && outside (vl % 0x1000) 1 4094, 36), (10000 < u16 b 38, 38)]
  | 0x61, 3 =>
    let ports := (List.range 32).map (fun i => u8 b (12 + i))
    firstBad [(rdf s (R.SGE_UNP_CFG k) 30 29 == 3, 11), (!rdb s (R.SGE_UNP_CFG k) 31, 11),
              (ports.any (fun p => !(isBusPort p) && p != 0x3F), 12)]
  | 0x61, 4 =>
    let c := rd s (R.SGE_PDU_CFG q)
    let tx := c.testBit 30
    let n := fld c 11 0
    let dom := u16 b 22
    let dst := fld c 21 16
    firstBad [(!c.testBit 31, 11), (outside n 1 (if tx then 256 else 2048), 9), (!(isBusPort dst) && dst != 0x3F, 10),
              (5 < u8 b 20, 20), (255 < dom && dom != 0xFFFF, 22), (identBad (u8 b 20) (u32 b 24), 24), (n < u16 b 30, 30),
              (u8 b 20 == 5 && 8 < n, 9)]
  | 0x62, 1 =>
    let c := rd s (R.SGE_TP_CFG k)
    firstBad [(!c.testBit 31, 11), (fld c 28 27 == 3, 11), (outside (u8 b 16) 50 200, 16)]
  | 0x62, 2 =>
    firstBad [(253 < u8 b 5, 5), (253 < u8 b 6, 6), (253 < u8 b 7, 7), (u8 b 7 < u8 b 6, 7), (outside (u8 b 5) (u8 b 6) (u8 b 7), 5)]
  | 0x70, 1 =>
    firstBad [(1 < k, 4), (outside (rdf s R.TIM_PPS_CFG 8 0) 1 500, 9), (outside (rdf s R.TIM_LIMITS 16 0) 1 86400, 14),
              (outside (rdf s R.TIM_SYNC_LIMIT 15 0) 50 10000, 17), (!rdb s (R.TIM_DOM_CFG (k % 2)) 31, 4)]
  | 0x70, 2 =>
    firstBad [(rdf s R.TIM_STATUS 4 4 == k && !rdb s (R.TIM_DOM_CFG k) 31, 11), (domBad l s k, whole)]
  | 0x70, 3 =>
    -- a row that the module does not have reads 0; a role set in it is rejected
    if 12 ≤ k ∧ k ≤ 15 then firstBad [(fld (u32 b 8) 31 28 != 0, 11)] else
    let c := rd s (R.TIM_PORT_CFG k)
    let ls := s4 (fld c 27 24)
    let lp := s4 (fld c 23 20)
    firstBad [(decide (ls < -5 ∨ 0 < ls), 11), (decide (lp < -3 ∨ 3 < lp), 10),
              (outside (fld c 15 0) 10 10000, 9), (fld c 29 28 != 0 && domBad l s 0, whole), (fld c 31 30 != 0 && domBad l s 1, whole)]
  | 0x70, 4 =>
    let c := rd s (R.TIM_CLAP_CFG k)
    let per := rdf s (R.TIM_CLAP_PERIOD k) 15 0
    firstBad [(!c.testBit 31, 11), (3 < fld c 30 28, 11), (identBad (fld c 30 28) (rdf s (R.TIM_CLAP_ID k) 28 0), 15),
              (outside per 10 10000, 17), (decide (per * 1000 ≤ rdf s (R.TIM_CLAP_OFFSET k) 23 0), 22)]
  | _, _ => none

-- Security and management ----------------------------------------------------------------------------------------------

/-- Word 0 of key i as the sheet defines it, by an ENTRY or a blob record. -/
def keyWord (l : List SRec) (i : Nat) : Option Nat :=
  l.findSome? (fun r =>
    if r.sec ≠ 0x82 then none
    else if r.kind = 2 ∧ u16 r.b 4 = i then some (u32 r.b 8)
    else if r.kind = 3 then
      ((List.range (beAt r.b 16 2)).find? (fun n => beAt r.b (4 + 1104 + 80 * n) 2 == i)).map
        (fun n => beAt r.b (4 + 1104 + 80 * n + 4) 4)
    else none)

/-- Key i is defined and has usage bit u (23 SEAL_GEN to 18 IMPORT). -/
def keyHas (l : List SRec) (i u : Nat) : Bool := (keyWord l i).any (fun w => w.testBit u)

/-- The parents of key i end at an entry without one, within `fuel` steps. -/
def keyRooted (l : List SRec) : Nat → Nat → Bool
  | 0, _ => false
  | n + 1, i => match keyWord l i with
    | none => false
    | some w => w % 0x1000 == 0xFFF || keyRooted l n (w % 0x1000)

/-- ANs of port p's SC in the STATIC_SA records. -/
def staticAns (l : List SRec) (p sc : Nat) : List Nat :=
  (l.filter (fun r => r.sec == 0x81 && r.kind == 3 && u8 r.b 4 == p && u8 r.b 5 == sc)).map (fun r => u8 r.b 6)

/-- Segments of some kind with WATCH among the records up to r. -/
def watchCount (l : List SRec) (kind : Nat → Bool) : Nat :=
  (l.filter (fun x => x.sec == 0x91 && x.kind == 1 && u8 x.b 5 == 1 && kind (u8 x.b 4))).length

/-- Rules of SEALS, MACSEC and KEY_IMPORT records. -/
def securityBad (l : List SRec) (r : SRec) (s : State) : Option Nat :=
  let b := r.b
  let k := u8 b 4
  match r.sec, r.kind with
  | 0x80, 1 => firstBad [(outside (rdf s R.CIP_COMMIT 12 0) 64 4096, 5), (2 ^ 48 ≤ u64 b 8, 8)]
  | 0x80, 2 =>
    let c := rd s (R.CIP_DOM_CFG k)
    let f := fld c 28 23
    let t := fld c 22 15
    let w := rd s (R.CIP_DOM_WIN k)
    let y := rd s (R.CIP_DOM_RESYNC k)
    let on := fld c 7 0
    firstBad [(!c.testBit 31, 11), (f % 4 != 0 || 32 < f, 11), (t % 8 != 0 || outside t 24 128, 10), (fld w 15 0 == 0, 17),
              (fld w 31 16 != 0 && outside (fld w 31 16) 100 60000, 19),
              (c.testBit 30 && (4 < fld y 31 29 || identBad (fld y 31 29) (fld y 28 0)), 23),
              (c.testBit 30 && rdf s (R.CIP_DOM_CHAN k) 23 16 != 0, 26),
              (c.testBit 29 && rdf s (R.CIP_DOM_KEYS k) 11 0 != 0xFFF && rdf s (R.CIP_DOM_KEYS k) 11 0 == rdf s (R.CIP_DOM_KEYS on) 27 16, 13)]
  | 0x80, 3 =>
    let c := rd s (R.CIP_FV_CFG (u16 b 4))
    let p := fld c 27 22
    firstBad [(!c.testBit 31, 11), (if c.testBit 30 then p != 0x3F else !(isBusPort p), 11)]
  | 0x81, 2 => none
  | 0x81, 3 =>
    let ans := staticAns l k (u8 b 5)
    firstBad [(!rdb s (R.CIP_SECY_CFG k) 26, 4), (2 < ans.length, 6)]
  | 0x82, 2 =>
    let w := u32 b 8
    let vol := w.testBit 29
    let origin := fld w 28 27
    let par := w % 0x1000
    firstBad [(!w.testBit 31 || w.testBit 30, 11), (1 < fld w 26 24, 11), (fld w 17 12 != 0, 9), (origin != 0 && origin != 3, 11),
              (!vol && u32 b 12 == 0, 12), (2047 < par && par != 0xFFF, 8), (origin == 3 && (!vol || par != 0xFFF), 8), (origin == 0 && par == 0xFFF, 8)]
  | 0x82, 3 => firstBad [(r.b.length != 4 + 1104 + 80 * beAt b 16 2, whole), (outside (beAt b 16 2) 1 64, 16)]
  | _, _ => none

/-- Rules of NM, WAKE and POWER records; `upTo` are the records up to and with this one. -/
def managementBad (upTo l : List SRec) (r : SRec) (s : State) : Option Nat :=
  let b := r.b
  let k := u8 b 4
  match r.sec, r.kind with
  | 0x90, 1 =>
    let t := rd s (R.GAF_NM_TIMES k)
    let h := rd s (R.GAF_NM_TIMES_4 k)
    firstBad [(2 < u8 b 5, 5), (isLinPort k && u8 b 5 == 0, 5),
              (outside (fld t 15 0) 10 1000, 13), (outside (fld t 31 16) 100 10000, 15), (fld t 31 16 ≤ fld t 15 0, 13),
              (outside (fld h 15 0) 50 5000, 17), (outside (fld h 31 16) 200 60000, 19), (fld h 31 16 ≤ fld h 15 0, 17),
              (outside (u16 b 20) 100 10000, 21), (u16 b 22 != 0, 23),
              (isEthPort k && u8 b 5 == 0 && !hasRec l 0x90 3, 5)]
  | 0x90, 2 => firstBad [(1 < u8 b 8, 8), (u32 b 4 % 256 != 0, 4), (identBad (u8 b 8) (u32 b 4), 4)]
  | 0x90, 3 =>
    let a := beAt b 4 1
    let g := beAt b 8 1
    firstBad [(a == 0 || 224 ≤ a, 4), (outside g 224 239, 8), (u16 b 12 == 0, 12)]
  | 0x91, 1 =>
    let listens := if isCanPort k then u8 b 6 != 0 else if isLinPort k then u8 b 7 == 1 else k ≤ 11
    firstBad [(1 < u8 b 5, 5), (2 < u8 b 6, 6), (u8 b 6 != 0 && !(isCanPort k), 6), (1 < u8 b 7, 7),
              (!onlyPorts (u64 b 12) isSeg, 12), (u8 b 5 == 1 && !listens, 5),
              (u8 b 5 == 1 && isCanPort k && 4 < watchCount upTo isCanPort, 5),
              (u8 b 5 == 1 && k ≤ 11 && 2 < watchCount upTo (· ≤ 11), 5)]
  | 0x91, 2 => firstBad [(1 < u8 b 5, 5), (8 < u8 b 6, 6), (2 ^ 29 ≤ u32 b 8, 8), (2 ^ 29 ≤ u32 b 12, 12)]
  | 0x91, 3 => firstBad [(2 < u8 b 6, 6), (u8 b 7 == 0, 7), (u16 b 8 == 0, 8)]
  | 0xA0, 1 =>
    let deep (i : Nat) : Nat := rdf s (R.GAF_SCENE_DEEPEST (i / 8)) (4 * (i % 8) + 2) (4 * (i % 8))
    let mv := rdf s R.GAF_BATT 31 16
    firstBad [(rdf s R.GAF_DWELL0 15 0 < 20, 5), (mv != 0 && outside mv 6000 24000, 19), (rdf s R.GAF_BATT 15 0 == 0, 17),
              ((List.range 16).any (fun i => 5 < deep i), 20 + ((List.range 16).find? (fun i => 5 < deep i)).getD 0 / 2),
              (rdf s R.GAF_HOST_CFG 23 8 == 0, 30), (rd s R.GAF_ALARM_PERIOD != 0 && rd s R.GAF_ALARM_PERIOD < 60, 35),
              (5 < u8 b 36, 36)]
  | _, _ => none

-- Reactions, recorder, scenes, updates, host ----------------------------------------------------------------------------

/-- A safe-state frame outside R384. -/
def safeFrameBad (p : Nat) (f : List Byte) : Bool :=
  if isCanPort p then
    decide (f.length < 16) || decide (80 < f.length) || !busLenOk (busFormat f) (f.length - 16) ((hdrWord f 1).testBit 31) || 5 ≤ busFormat f
  else outside f.length 60 236

/-- Rules of reaction, recorder, scene, update and host records. -/
def restBad (prev : List SRec) (r : SRec) (s : State) : Option Nat :=
  let b := r.b
  let k := u8 b 4
  match r.sec, r.kind with
  | 0xB0, 1 => firstBad [(86400 < rdf s R.RXU_TEST_CFG 16 0, 10)]
  | 0xB0, 2 =>
    let c := rd s (R.RXU_ENTRY_CFG k)
    let shadow := (List.range 128).filter (fun j => rdb s (R.RXU_ENTRY_SHADOW k (j / 32)) (j % 32))
    if !lineListed k then none
    else firstBad [(fld c 31 30 == 1 && !lineResettable k, 11), (fld c 31 30 == 2 && !lineFenceable k, 11),
                   (outside (fld c 15 0) 1 10000, 9), (10000 < rdf s (R.RXU_ENTRY_SETTLE k) 15 0, 13),
                   (shadow.any (fun j => !lineListed j), 16)]
  | 0xB1, 1 =>
    let p := rdf s (R.RXU_SAFE_FRAME k) 30 25
    firstBad [(!rdb s (R.RXU_SAFE_FRAME k) 31, 11), (!(p ≤ 15 || isCanPort p), 11), (rdf s (R.RXU_SAFE_FRAME_4 k) 15 0 == 0, 13),
              (safeFrameBad p (slice b 16 (u16 b 6)), 6)]
  | 0xC0, 1 =>
    let c := rd s R.REC_CFG
    let l := u16 b 20
    let u := u16 b 22
    let t := u16 b 24
    firstBad [(outside (fld c 20 16) 1 16, 10), (fld c 15 0 == 0, 9), (outside (rd s R.REC_TRACE_HWM) 64 131071, 14),
              (outside l 1 4093, 20), (outside u 1 4093, 22), (outside t 1 4093, 24), (l + u + t != 4095, 20)]
  | 0xD0, 1 =>
    firstBad [(1 < u8 b 5, 5), ((u8 b 5).testBit 0 && prev.any (fun x => x.sec == 0xD0 && (u8 x.b 5).testBit 0), 5)]
  | 0xE0, 1 =>
    let idBad (v : Nat) : Bool := if v.testBit 31 then fld v 30 29 != 0 else 2 ^ 11 ≤ v
    firstBad [(1 < k, 4), (1 < u8 b 5, 5), (u8 b 6 == 0 || 15 < u8 b 6, 6), (15 < u8 b 7, 7),
              (outside (u32 b 8) 60 2592000, 8), (u32 b 12 < 60, 12), (k == 1 && decide (u32 b 8 ≤ u32 b 12), 12),
              (idBad (u32 b 16), 16), (idBad (u32 b 20), 20)]
  | 0xF0, 1 => firstBad [(1 < k, 4), (7 < u8 b 5, 5), (outside (u32 b 16) 1000 60000000, 16)]
  | 0xF0, 2 =>
    firstBad [(1 < u8 b 5, 5), (outside (u8 b 6) 4 10, 6), (63 < u8 b 7, 7), (2 < u8 b 8, 8), (u8 b 8 != 0 && u8 b 5 == 1, 5)]
  | 0xF0, 3 => firstBad [(4 < u8 b 5, 5)]
  | _, _ => none

/-- Stage 7 for one record. -/
def rule7 (prev l : List SRec) (s : State) (r : SRec) : Option Nat :=
  if r.sec < 0x30 then portsBad prev l r s
  else if r.sec < 0x40 then lookupBad prev r
  else if r.sec < 0x60 then queuesBad prev r s
  else if r.sec < 0x80 then enginesBad l r s
  else if r.sec < 0x90 then securityBad l r s
  else if r.sec < 0xB0 then managementBad (prev ++ [r]) l r s
  else restBad prev r s

end Sys2Proof.Machine
end

