-- ==== Sys2Proof/Machine/SheetCheck.lean ====
section
/-! DEFINITION. Stages 8 to 10 of R408: rules that span sections, the claims of R409 and the totals; and the whole
validation of a take's call sheet. -/

namespace Sys2Proof.Machine

-- Stage 8: references -------------------------------------------------------------------------------------------------

/-- Scenes that the sheet defines, as a mask (R413). -/
def definedScenes (s : State) : Nat := rdf s R.UPD_SCENE 31 16

/-- A mask names a scene without a SCENE record. -/
def sceneBad (s : State) (m : Nat) : Bool := m &&& definedScenes s != m

/-- Frame header word 0 of a format and identifier (R197): the DATA_ID (R321). -/
def dataId (fmt id : Nat) : Nat := fmt * 2 ^ 29 + id

/-- The bus frame key of a record that names one: source port and DATA_ID (exact CAN routes, CANSRC flows). -/
def busKey (r : SRec) : Option (Nat × Nat) :=
  if r.sec = 0x32 ∧ r.kind = 1 then some (u8 r.b 4, dataId (u8 r.b 5) (u32 r.b 8))
  else if r.sec = 0x31 ∧ u8 r.b 4 = 4 then some (u8 r.b 8, dataId (u8 r.b 9) (u32 r.b 12))
  else none

/-- The record or layout that a verdict's bridging action names is not defined, or is of the wrong kind (R165, R189). -/
def bridgeBad (v : Verdict) (s : State) : Bool :=
  let i := v.bridgeIdx
  match v.bridge with
  | .none => false
  | .canConvert => !(decide (i < 1024) && rdb s (R.SGE_CONV_CFG i) 31)
  | .encap1722 => !(decide (i < 256) && rdb s (R.SGE_ENC_CFG i) 31)
  | .unpack1722 => !(decide (i < 256) && rdb s (R.SGE_UNP_CFG i) 31)
  | .signal => !(rdb s (R.SGE_PDU_CFG i) 31 && !rdb s (R.SGE_PDU_CFG i) 30)
  | .transport =>
    let out := rdf s (R.SGE_TP_CFG i) 28 27
    !(decide (i < 256) && rdb s (R.SGE_TP_CFG i) 31) ||
    !(if out = 0 then onlyPorts v.dest (fun p => p == 18 || p == 19)
      else if out = 1 then onlyPorts v.dest isCanPort else v.dest == 0)

/-- Usage bit that the key of a cipher action needs (R289); none where verdict key indices are ignored (R308). -/
def cipherUsage (c : CipherAct) : Option Nat :=
  match c with
  | .doSeal => some 23
  | .verify => some 22
  | .reseal => some 22
  | _ => none

/-- The seal slots of a verdict exist (R330): a transmit slot for SEAL, a receive slot for VERIFY, both for RESEAL. -/
def slotsBad (v : Verdict) (key : Option (Nat × Nat)) (s : State) : Bool :=
  match v.sealDomain, key with
  | some d, some (port, id) =>
    let rx := (slotFind s false d id port).isNone
    match v.cipher with
    | .doSeal => (slotFind s true d id 0x3F).isNone
    | .verify => rx
    | .reseal =>
      let c := rd s (R.SGE_CONV_CFG v.bridgeIdx)
      -- the identifier that the frame goes on with (R166); one that does not convert needs no slot
      let out := fld c 30 28
      let onId : Option Nat := if v.bridge = .canConvert then
          (if c.testBit 27 then some (rdf s (R.SGE_CONV_ID v.bridgeIdx) 28 0)
           else convCopyId (id / 2 ^ 29) (id % 2 ^ 29) out).map (dataId out)
        else some id
      rx || !rdb s (R.CIP_DOM_CFG d) 29 ||
        onId.any (fun i => (slotFind s true (rdf s (R.CIP_DOM_CFG d) 7 0) i 0x3F).isNone)
    | _ => false
  | _, _ => (cipherUsage v.cipher).isSome

/-- Rules of a verdict at offset `o` (R79, R165, R189, R330). A forwarding record gives no key (R403). -/
def verdictSpan (l : List SRec) (r : SRec) (o : Nat) (s : State) : List (Bool × Nat) :=
  let v := verdictAt r.b o
  let route (i : Nat) : Option CanRoute :=
    if i < 16384 then s.lku.exact[i]? else s.lku.masked[i - 16384]?
  [(bridgeBad v s, o + 18), (v.meter.any (fun m => (s.lku.meters.get? m).isNone), o + 15),
   (v.stream.any (fun t => !rdb s (R.LKU_SEQ t) 31), o + 14),
   (v.sealDomain.any (fun d => !rdb s (R.CIP_DOM_CFG d) 31), o + 19), (slotsBad v (busKey r) s, o + 9),
   (v.cipher == .reseal && v.bridge == .canConvert && rdb s (R.SGE_CONV_CFG v.bridgeIdx) 24, o + 9),
   (r.sec != 0x30 && v.key != 0xFFF && !(match cipherUsage v.cipher with
     | some u => keyHas l v.key u
     | none => (keyWord l v.key).isSome), o + 17),
   (sceneBad s v.scenes, o + 23),
   (v.flood.any (fun i => !((route i).any (fun e => e.lim.rateFps != 0))), o + 21)]

/-- Offset of a record's verdict. -/
def verdictOff (r : SRec) : Option Nat :=
  match r.sec, r.kind with
  | 0x30, 2 => some 12
  | 0x31, 1 => some 48
  | 0x32, 1 => some 12
  | 0x32, 2 => some 20
  | _, _ => none

/-- MAX_FRAME of port p in R79. -/
def maxFrameOf (s : State) (p : Nat) : Nat := if p ≤ 18 then rdf s (R.LKU_PORT_CFG p) 13 0 else 9216

/-- A bus source whose frames can exceed the largest classic and FD ones: an XL channel, a processor port, a port that an
unpack record maps (R79). -/
def bigSource (s : State) (p : Nat) : Bool :=
  (isCanPort p && rdf s (R.PORT_CAN_CFG p) 2 0 == 3) || p == 18 || p == 19 ||
  (List.range 256).any (fun u => rdb s (R.SGE_UNP_CFG u) 31 && (List.range 32).any (fun i => rd s (R.SGE_UNP_MAP u i) == p))

/-- Bound that a record's verdict puts on the meter it names (R79). -/
def meterBound (s : State) (r : SRec) : Nat :=
  let big (l : List Nat) : Nat := (l.map (maxFrameOf s)).foldl max 0
  let eth := List.range 20
  match r.sec, r.kind with
  | 0x30, 2 => match s.lku.vlans.get? (u16 r.b 4) with
    | some c => big (eth.filter (fun p => c.members.testBit p))
    | none => 0
  | 0x31, 1 =>
    let t := u8 r.b 4
    if t = 4 then (if bigSource s (u8 r.b 8) then 2064 else 0)
    else big (eth.filter (fun p => let k := rd s (R.LKU_PORT_KEY p); fld k 3 0 == t || fld k 11 8 == t))
  | 0x32, 1 => if bigSource s (u8 r.b 4) then 2064 else 0
  | 0x32, 2 =>
    -- a masked entry's sources are the ports that match its source byte under the mask
    if (List.range 44).any (fun p => p &&& u8 r.b 12 == u8 r.b 4 &&& u8 r.b 12 && bigSource s p) then 2064 else 0
  | _, _ => 0

/-- A meter's burst is below the bound of some record that names it. -/
def meterShort (l : List SRec) (m burst : Nat) (s : State) : Bool :=
  burst != 0 && l.any (fun x =>
    match verdictOff x with
    | some o => (verdictAt x.b o).meter == some m && decide (burst < meterBound s x)
    | none => false)

/-- A signal's bits lie outside a layout of LENGTH bytes (R189). -/
def sigOutside (start len n : Nat) (mot : Bool) : Bool :=
  (List.range len).any (fun j => decide (8 * n ≤ sigPos start j mot len))

/-- Span rules of port, queue, engine and time records. -/
def spanLow (l : List SRec) (r : SRec) (s : State) : Option Nat :=
  let b := r.b
  let k := u8 b 4
  let q := u16 b 4
  match r.sec, r.kind with
  | 0x20, 1 => if k ≤ 17 then firstBad [(sceneBad s (rdf s (R.PORT_ETH_CFG k) 31 16), 11)] else none
  | 0x21, 1 =>
    let c := rd s (R.PORT_CAN_CLAP (pCan k))
    firstBad [(sceneBad s (rdf s (R.PORT_CAN_CFG (pCan k)) 31 16), 11), (sceneBad s (rdf s (R.PORT_CAN_TERM (pCan k)) 15 0), 29),
              (c.testBit 31 && !rdb s (R.TIM_CLAP_CFG k) 31, 35)]
  | 0x22, 1 =>
    let tbl (i : Nat) : Nat := rdf s (R.PORT_LIN_SCENE (pLin k) (i / 8)) (4 * (i % 8) + 3) (4 * (i % 8))
    firstBad [(sceneBad s (rdf s (R.PORT_LIN_CFG (pLin k)) 31 16), 11),
              ((List.range 16).any (fun i => decide (tbl i ≤ 7) && !rdb s (R.PORT_LIN_TBL_CFG (pLin k) (tbl i)) 31), 16)]
  | 0x22, 3 =>
    let e (i : Nat) : Nat := rd s (R.PORT_LIN_TBL (pLin k) (u8 b 5) i)
    ((List.range (u16 b 6)).find? (fun i => fld (e i) 31 29 == 1 && !rdb s (R.PORT_LIN_TBL_CFG (pLin k) (fld (e i) 26 24)) 31)).map
      (fun i => 8 + 4 * i)
  | 0x33, 1 => firstBad [(meterShort l q (u32 b 16) s, 16), (meterShort l q (u32 b 20) s, 20)]
  | 0x41, 2 =>
    let p := portOfQ q
    firstBad [(rdb s (R.SCH_Q_CFG q) 8 && decide (rd s (R.SCH_Q_BURST q) < wireLen s p (maxFrameOf s p)), 18)]
  | 0x42, 2 =>
    let list (i : Nat) : Nat := u8 b (8 + i)
    firstBad [((List.range 16).any (fun i => list i != 0xFF && !(definedScenes s).testBit i), 8),
              ((List.range 16).any (fun i => list i != 0xFF && !rdb s (R.GATE_LIST_CFG (list i)) 31), 8)]
  | 0x50, 2 => firstBad [(!rdb s (R.LKU_SEQ (rdf s (R.COL_CTX_CFG q) 11 0)) 31, 9)]
  | 0x60, 1 =>
    let src := rdf s (R.SGE_ROUTE_SRC q) 24 14
    let dst := rdf s (R.SGE_ROUTE_DST q) 24 14
    let sc := rd s (R.SGE_PDU_CFG src)
    let dc := rd s (R.SGE_PDU_CFG dst)
    let ops := rd s (R.SGE_ROUTE_OPS q)
    firstBad [(!sc.testBit 31 || sc.testBit 30, 11), (!dc.testBit 31 || !dc.testBit 30, 15),
              (sigOutside (rdf s (R.SGE_ROUTE_SRC q) 13 0) (fld ops 31 26 + 1) (fld sc 11 0) (rdb s (R.SGE_ROUTE_SRC q) 30), 9),
              (sigOutside (rdf s (R.SGE_ROUTE_DST q) 13 0) (fld ops 25 20 + 1) (fld dc 11 0) (rdb s (R.SGE_ROUTE_DST q) 30), 13)]
  | 0x61, 4 =>
    let c := rd s (R.SGE_PDU_CFG q)
    let dom := u16 b 22
    let tx := c.testBit 30
    let routed := l.any (fun x => x.sec == 0x60 && x.kind == 1 && rdf s (R.SGE_ROUTE_DST (u16 x.b 4)) 24 14 == q)
    let trailer := if dom = 0xFFFF then 0 else domTrailer s dom
    let fmt := if u8 b 20 = 4 ∨ u8 b 20 ≤ 3 then u8 b 20 else 5
    firstBad [(dom != 0xFFFF && !rdb s (R.CIP_DOM_CFG dom) 31, 22),
              (tx && fld c 21 16 == 0x3F && !rdb s (R.SGE_ENC_CFG (u8 b 28)) 31, 28),
              (tx && !pduFits fmt (fld c 11 0 + trailer), 9),
              (tx && fld c 29 27 == 0 && !routed, whole)]
  | 0x62, 1 =>
    let c := rd s (R.SGE_TP_CFG k)
    firstBad [(fld c 28 27 == 2 && !(rdb s (R.SGE_PDU_CFG (fld c 10 0)) 31 && !rdb s (R.SGE_PDU_CFG (fld c 10 0)) 30), 9)]
  | 0x70, 1 => firstBad [(rdb s R.TIM_PPS_CFG 31 && !rdb s (R.SVY_SW 7) 30, 11)]
  | 0x70, 4 =>
    let c := rd s (R.TIM_CLAP_CFG k)
    let d := fld c 23 16
    firstBad [(!rdb s (R.PORT_CAN_CLAP (pCan k)) 31, whole), (c.testBit 27 && !rdb s (R.CIP_DOM_CFG d) 31, 10),
              (c.testBit 27 && !pduFits (fld c 30 28) (8 + domTrailer s d), 10)]
  | _, _ => (verdictOff r).bind (fun o => firstBad (verdictSpan l r o s))

/-- Span rules of security, management and host records; `compat` is the take's COMPAT_KEY. -/
def spanHigh (l : List SRec) (compat : List Byte) (r : SRec) (s : State) : Option Nat :=
  let b := r.b
  let k := u8 b 4
  match r.sec, r.kind with
  | 0x80, 2 =>
    let g := rdf s (R.CIP_DOM_KEYS k) 27 16
    let v := rdf s (R.CIP_DOM_KEYS k) 11 0
    let c := rd s (R.CIP_DOM_CFG k)
    firstBad [(c.testBit 29 && !rdb s (R.CIP_DOM_CFG (fld c 7 0)) 31, 8), (g != 0xFFF && !keyHas l g 23, 15), (v != 0xFFF && !keyHas l v 22, 13)]
  | 0x80, 3 => firstBad [(!rdb s (R.CIP_DOM_CFG (rdf s (R.CIP_FV_CFG (u16 b 4)) 15 8)) 31, 9)]
  | 0x82, 2 =>
    let par := u32 b 8 % 0x1000
    firstBad [(par != 0xFFF && !(keyHas l par 19 && keyRooted l 2049 (u16 b 4)), 8)]
  | 0x81, 3 => firstBad [(!keyHas l (u16 b 8) 21, 8)]
  | 0x90, 1 => firstBad [(sceneBad s (u16 b 8), 8)]
  | 0x91, 1 => firstBad [(u8 b 5 == 1 && k ≤ 11 && !rdb s (R.PORT_ETH_CFG k) 10, 5)]
  | 0xB0, 1 =>
    let i := rdf s R.RXU_RELEASE_CFG 11 0
    firstBad [(i != 0xFFF && !keyHas l i 22, 5)]
  | 0xC0, 1 => firstBad [(rdb s R.REC_STREAM 31 && !l.any (fun x => x.sec == 0xF0 && x.kind == 2 && u8 x.b 4 == rdf s R.REC_STREAM 5 0), 16)]
  | 0xD0, 1 => firstBad [(sceneBad s (u16 b 6), 6)]
  | 0xE0, 1 =>
    let c := rd s (R.PORT_CAN_CFG (pCan (u8 b 7)))
    firstBad [((u8 b 6).testBit 2 && (fld c 2 0 == 0 || fld c 31 16 == 0), 7), (u8 b 5 == 1 && compat.all (· == 0), 5)]
  | _, _ => none

/-- R371 on the values in force: no way to wake from a rung that a defined scene allows. -/
def powerBad (s : State) : Bool :=
  let deepest (i : Nat) : Nat := rdf s (R.GAF_SCENE_DEEPEST (i / 8)) (4 * (i % 8) + 2) (4 * (i % 8))
  let some' (r : Nat) : Bool := (List.range 16).any (fun i => (definedScenes s).testBit i && deepest i == r)
  let edge := (List.range 8).any (fun k => rdf s (R.GAF_SW_CFG k) 31 30 != 0) || rd s R.GAF_ALARM_PERIOD != 0
  let watch := (List.range 44).any (fun p => isSeg p && rdb s (R.GAF_NM_SEG_CFG p) 29)
  ((some' 5 || rdf s R.GAF_BATT 31 16 != 0) && !edge) || (some' 4 && !watch && !edge)

/-- First rejection of a per-record rule. -/
def firstRec (stage : Nat) (rule : SRec → Option Nat) (l : List SRec) : Option Rej :=
  l.findSome? (fun r => (rule r).map (rejRec stage 2 r))

/-- Stage 8. R371 stands at the POWER section, with its record where there is one. -/
def stage8 (compat : List Byte) (l : List SRec) (s : State) : Option Rej :=
  let rule (r : SRec) : Option Nat := if r.sec < 0x80 then spanLow l r s else spanHigh l compat r s
  (firstRec 8 rule (l.filter (fun r => r.sec < 0xA0))).or
    ((if !powerBad s then none
      else if hasRec l 0xA0 1 then some ⟨8, 2, 0xA0, 0, 0xFFFF, 0⟩ else some (rejSec 8 2 0xA0)).or
     (firstRec 8 rule (l.filter (fun r => 0xA0 ≤ r.sec))))

-- Stage 9: claims (R409) -----------------------------------------------------------------------------------------------

/-- What a record claims: resource kind and number. 0 SW7, 1 time-trigger unit, 2 safe-state buffer, 3 deep index, 4 deep
queue, 5 host ring, 6 control queue, 7 seal slot key. -/
def claims (s : State) (r : SRec) : List (Nat × Nat) :=
  let b := r.b
  let k := u8 b 4
  match r.sec, r.kind with
  | 0x10, 1 => if u8 b 10 = 1 then [(0, 7)] else []
  | 0x21, 1 => let c := rd s (R.PORT_CAN_CLAP (pCan k)); if c.testBit 31 then [(1, c % 32)] else []
  | 0x23, 1 => if k = 7 ∧ (rdf s (R.GAF_SW_CFG 7) 31 30 ≠ 0 ∨ rdb s (R.GAF_SW_CFG 7) 29 = true) then [(0, 7)] else []
  | 0x40, 5 => [(3, k), (4, rdf s (R.CPL_DEEP_CFG k) 24 16)]
  | 0x42, 2 => if u8 b 5 ≤ 31 then [(1, u8 b 5)] else []
  | 0x80, 3 =>
    let c := rd s (R.CIP_FV_CFG (u16 b 4))
    [(7, (fld c 15 8 * 2 ^ 32 + rd s (R.CIP_FV_ID (u16 b 4))) * 2 ^ 7 + fld c 30 30 * 2 ^ 6 + (if c.testBit 30 then 0 else fld c 27 22))]
  | 0xB1, 1 => [(2, k)]
  | 0xF0, 2 => [(5, k)]
  | 0xF0, 3 => [(6, k)]
  | _, _ => []

/-- Offset in a record of the field that makes its claim. -/
def claimOff (r : SRec) (c : Nat) : Nat :=
  match r.sec with
  | 0x10 => 10
  | 0x21 => 32
  | 0x23 => 11
  | 0x40 => if c = 4 then 11 else 4
  | 0x42 => 5
  | _ => 4

/-- Host DMA rings of USER TRANSPORT that the sheet defines (R461). -/
def transportRings (s : State) : List Nat :=
  (List.range 64).filter (fun k => let c := rd s (R.HDMA_RING_CFG k); c.testBit 31 && fld c 29 28 == 2)

/-- A verdict of record x delivers transport messages to port 18, and so claims the lowest TRANSPORT ring (R184, R409). -/
def deliverClaims (s : State) (x : SRec) : Bool :=
  (verdictOff x).any (fun o =>
    let v := verdictAt x.b o
    v.bridge == .transport && v.dest.testBit 18 && rdf s (R.SGE_TP_CFG v.bridgeIdx) 28 27 == 0)

/-- HOST RING record r takes a ring that an earlier record claims for another use: the recorder's stream, or, at the last RING
of a sheet that defines no TRANSPORT ring, a delivery to port 18 (R409). Answers that record's section. -/
def ringTaken (s : State) (seen : List SRec) (r : SRec) (rest : List SRec) : Option Nat :=
  let ring (x : SRec) : Bool := x.sec == 0xF0 && x.kind == 2
  let c := rd s (R.HDMA_RING_CFG (u8 r.b 4))
  let stream := rdb s R.REC_STREAM 31 && rdf s R.REC_STREAM 5 0 == u8 r.b 4 && (fld c 29 28 != 1 || c.testBit 30)
  if !ring r then none
  else if stream then (seen.find? (fun x => x.sec == 0xC0)).map SRec.sec
  else if rest.any ring || transportRings s != [] then none
  else (seen.find? (deliverClaims s)).map SRec.sec

/-- The parameters as record r itself gives them, where the sheet may define its index again (R408, R409). -/
def ownState (s : State) (r : SRec) : State :=
  match r.sec, r.kind with
  | 0x40, 5 | 0xB1, 1 | 0xF0, 2 | 0xF0, 3 => applyRec r s
  | _, _ => s

/-- Stage 9: the later claim in validation order, with the section of the earlier one. -/
def stage9From (s : State) : List SRec → List SRec → Option Rej
  | _, [] => none
  | seen, r :: t =>
    let hit := (claims (ownState s r) r).findSome? (fun c =>
      (seen.find? (fun x => (claims (ownState s x) x).contains c)).map (fun x => (c.1, x.sec)))
    match hit with
    | some (c, other) => some { rejRec 9 3 r (claimOff r c) with other := other }
    | none =>
      match ringTaken (ownState s r) seen r t with
      | some other => some { rejRec 9 3 r 4 with other := other }
      | none => stage9From s (seen ++ [r]) t

-- Stage 10: totals -----------------------------------------------------------------------------------------------------

/-- Stage 10: pool partitions, T1, spill quotas, ring sizes (R108, R479). `s` holds the computed sizes. -/
def stage10 (l : List SRec) (s : State) : Option Rej :=
  let z := poolSizes s
  let given := hasRec l 0x40 1
  let reserve := if given then rd s (R.CPL_PART_SIZE 1) else 4096
  let quotas := sumOf (List.range 64) (fun d => if rdb s (R.CPL_DEEP_CFG d) 31 then rdf s (R.CPL_DEEP_QUOTA d) 15 0 else 0)
  let descs := sumOf (List.range 64) (fun k =>
    let c := rd s (R.HDMA_RING_CFG k); if c.testBit 31 then 2 ^ fld c 27 24 else 0)
  if 131072 - 16384 < z.1 + reserve + z.2.1 + z.2.2 then some (rejSec 10 4 0x40)
  else if given ∧ rd s (R.CPL_PART_SIZE 4) < rd s R.CPL_SHARED_T1 then
    (l.find? (fun r => r.sec == 0x40 && r.kind == 1)).map (fun r => rejRec 10 4 r 8)
  else if 32768 < quotas then some (rejSec 10 4 0x40)
  else if 1024 < descs then some (rejSec 10 4 0xF0)
  else none

-- The whole validation --------------------------------------------------------------------------------------------------

/-- Stage 7 over the sheet's records, each as it stands itself and against those before. -/
def stage7 (l : List SRec) (s : State) : List SRec → List SRec → Option Rej
  | _, [] => none
  | prev, r :: t => match rule7 prev l (ownState s r) r with
    | some o => some (rejRec 7 2 r o)
    | none => stage7 l s (prev ++ [r]) t

/-- Stages 7 to 10; `s` has every RL register at its Reset value. -/
def stages7to10 (compat : List Byte) (l : List SRec) (s : State) : Except Rej (List SRec) :=
  let t := applyRecs l s
  match (stage7 l t [] l).or ((stage8 compat l t).or ((stage9From t [] l).or (stage10 l t))) with
  | some e => .error e
  | none => .ok l

/-- Stages 1 to 4 (R408). -/
def stages1to4 (b key : List Byte) (oem floor : Nat) : Option Rej :=
  (stage1 b).or ((stage2 b oem).or ((stage3 b key).or (stage4 b floor)))

/-- R408 over a CALL_SHEET part: the sheet's records, or the first failure. With `known` the sheet's digest equals the
keep bank's and stages 1 to 4 are skipped (R362, R410). -/
def validateSheet (known : Bool) (b key compat : List Byte) (oem floor : Nat) (s : State) : Except Rej (List SRec) :=
  match (if known then none else stages1to4 b key oem floor) with
  | some e => .error e
  | none => match stage5 b with
    | .error e => .error e
    | .ok secs => match stage6 secs with
      | .error e => .error e
      | .ok l => stages7to10 compat l s

end Sys2Proof.Machine
end

