-- ==== Sys2Proof/Machine/Sheet.lean ====
section
/-! DEFINITION. The call sheet going live, its fallback and the limp configuration (R410 to R412, R483), and scene switches
(R413 to R416). -/

namespace Sys2Proof.Machine

-- Load (R408, R410, R411, R483) -----------------------------------------------------------------------------------------

/-- OEM identifier installed in the module: the bound one, else the vendor block's of the take (R424, R426). -/
def oemOf (k : Nat) (s : State) : Nat := if rd s (R.UPD_FLOOR 0) = 0 then vbOem (takeNo k s).image else rd s (R.UPD_FLOOR 0)

/-- Validation of take k's call sheet: none where it holds none (R483). A resume skips stages 1 to 4 where the digest is
that of the keep bank (R362, R410). -/
def sheetOf (resume : Bool) (k : Nat) (s : State) : Option (Except Rej (List SRec)) :=
  let t := takeNo k s
  (takeSheet t).map (fun b =>
    let known := resume && decide (s.gaf.sheetDigest ≠ [] ∧ sheetHash b = s.gaf.sheetDigest)
    validateSheet known b (vbOemKey t.image) (vbCompatKey t.image) (oemOf k s) (rd s (R.UPD_FLOOR 2)) s)

/-- The active take's rejection is recorded; one of a take in TRIAL counts as a failed boot (R411). -/
def rejectActive (e : Rej) (s : State) : State :=
  let s := wr s R.UPD_SHEET_STATUS (e.code * 2 ^ 24 + e.stage * 2 ^ 20 + rdf s R.UPD_SHEET_STATUS 19 18 * 2 ^ 18 + e.sec)
  let s := wr (wr s R.UPD_SHEET_RECORD e.ord) R.UPD_SHEET_FIELD (e.other * 0x10000 + e.off)
  let s := if (takeNo (activeTake s) s).mark = 4 && !s.upd.bootFailed then
      { (inc s (R.UPD_CNT 9)) with upd := { s.upd with bootFailed := true } } else s
  raise 493 s

/-- The other take's sheet fails. -/
def rejectOther (e : Rej) (s : State) : State :=
  raise 493 (wr s R.UPD_SHEET_OTHER (e.code * 2 ^ 24 + e.stage * 2 ^ 20 + e.sec))

/-- HOST_WAKE goes low once HOST_WAKE_MS has passed since it rose (R366). -/
def hostWakeEnd (s : State) : State :=
  if rdb s R.GAF_HOST 1 && decide (s.gaf.hostWakeNs + rdf s R.GAF_HOST_CFG 23 8 * 1000000 ≤ s.devNs) then wrf s R.GAF_HOST 1 1 0
  else s

/-- The alarm timer is set to `n` seconds, or cancelled with 0 (R367). -/
def alarmSet (n : Nat) (s : State) : State :=
  let s := wr (wr s R.GAF_ALARM n) R.GAF_ALARM_LEFT n
  { s with gaf := { s.gaf with alarmNs := if n = 0 then none else some (s.devNs + n * 1000000000) } }

/-- What goes live with either configuration: blocks report READY, HX0 and HX1 are enabled (R228, R412). `force` is
IN_FORCE: 0 ACTIVE, 1 OTHER, 2 LIMP. -/
def configLive (force : Nat) (s : State) : State :=
  let s := wrf s R.UPD_SHEET_STATUS 19 18 force
  let s := forEach [R.CPL_STATUS, R.SCH_STATUS, R.COL_STATUS, R.SGE_STATUS, R.CIP_STATUS, R.REC_STATUS] (fun a s => wrf s a 0 0 1) s
  let s := wrf (wrf s R.REC_STATUS 31 28 1) R.GAF_NM_STATUS 1 0 1
  let t := takeNo (activeTake s) s
  let s := wr s R.ID_FW_VER (if t.factory then Config.factory 9 else partVersion t 1)
  let s := wr s R.GAF_T_LOAD ((s.devNs - s.survey.t0Ns) / 1000)
  let s := { s with survey := { s.survey with loadNs := s.devNs } }
  -- the first periodic line test begins TEST_PERIOD_S after tL (R383)
  let period := rdf s R.RXU_TEST_CFG 16 0
  let s := { s with rxu := { s.rxu with
    testNext := none, testDue := if period = 0 then none else some (s.devNs + period * 1000000000) } }
  let s := linkReturn 44 s
  let s := timeInit (snapArm (sgeFresh s))
  -- a HOST section may have replaced the rings that port 18 rested on (R461, R469)
  hpUpdate (hostWakeEnd (forEach [16, 17] portStart s))

/-- Transmit SCIs, scheduled clapper instants, slots in use, output levels: what a live sheet starts besides its tables. -/
def sheetStarts (s : State) : State :=
  let s := forEach (List.range 18) (fun p s => wrq s (R.CIP_SECY_TXSCI p) (macOf s p * 0x10000 + 1)) s
  let s := { s with cip := { s.cip with slots := s.cip.slots.filter (fun q => rdb s (R.CIP_FV_CFG q) 31) } }
  let s := forEach (List.range 16) (fun n s =>
    if rdb s (R.TIM_CLAP_CFG n) 31 then
      { s with tim := { s.tim with clapNext := s.tim.clapNext.put n (clapInstant s n s.globalNs false) } }
    else s) s
  let s := wr s R.RXU_SO_SET (sumOf (List.range 4) (fun k => 2 ^ k * rdf s (R.RXU_SO_CFG k) 29 29))
  let s := wrf (wrf s R.LKU_STATUS 0 0 1) R.LKU_CTRL 3 0 (scene s)
  -- SW7 in the PPS_OUT role has no state, and its registers read 0 (R257)
  let s := if ppsRole s then
      forEach [(R.GAF_SW_STATE, 7), (R.GAF_SW_STATE, 15), (R.GAF_SW_CHANGED, 7)] (fun x s => wrf s x.1 x.2 x.2 0)
        (wrq (wr (wr s (R.GAF_SW_CFG 7) 0) (R.GAF_SW_THR 7) 0) (R.GAF_SW_CNT 7) 0)
    else s
  -- the alarm is armed with ALARM_PERIOD_S where none is set (R367)
  if s.gaf.alarmNs.isNone ∧ rd s R.GAF_ALARM_PERIOD ≠ 0 then alarmSet (rd s R.GAF_ALARM_PERIOD) s else s

/-- Header fields and digest of the sheet in force; the digest goes to the keep bank (R355, R410). -/
def sheetShown (b : List Byte) (s : State) : State :=
  let d := sheetHash b
  let s := wr (wr s R.UPD_SHEET_OEM (shOem b)) R.UPD_SHEET_SECVER (shSecVer b)
  let s := wr (wr s R.UPD_SHEET_VERSION (shVersion b)) R.UPD_SHEET_LENGTH (shLen b)
  let s := forEach (List.range 8) (fun w s => wr s (R.UPD_SHEET_DIGEST w) (digestWord d w)) s
  { s with gaf := { s.gaf with sheetDigest := d } }

/-- R410: a sheet that passed is applied and goes live; a resume keeps the scene of its context (R413); source 492. -/
def sheetApply (resume : Option Nat) (force : Nat) (b : List Byte) (l : List SRec) (s : State) : State :=
  let s := applyRecs l s
  let s := match resume with
    | some sc => wrf s R.UPD_SCENE 3 0 sc
    | none => s
  let s := sheetShown b (reconcile l s)
  raise 492 (cipSync (configLive force (sheetStarts s)))

/-- The limp configuration (R412). -/
def limpLoad (s : State) : State :=
  let s := forEach [16, 17] (fun p s => wr s (R.PORT_ETH_CFG p) 0x00018006) s
  let s := { s with lku := { s.lku with vlans := s.lku.vlans.put 1 ⟨1, 0xF0000⟩ } }
  let s := wr s R.UPD_SCENE 0x00010000
  let s := wr (wr s (R.GAF_SCENE_DEEPEST 0) 0x33333333) (R.GAF_SCENE_DEEPEST 1) 0x33333333
  let s := wr s R.GAF_RUNG_LIMIT 2
  let s := { s with rxu := { s.rxu with limpHold := true } }
  configLive 2 s

/-- Step 2 of R411: the other take's sheet where that take is CONFIRMED, else limp. -/
def sheetOther (resume : Option Nat) (s : State) : State :=
  let k := 1 - activeTake s
  if (takeNo k s).mark ≠ 5 then limpLoad s else
  match sheetOf resume.isSome k s with
  | none => limpLoad (wr s R.UPD_SHEET_OTHER (0x10 * 2 ^ 24))
  | some (.error e) => limpLoad (rejectOther e s)
  | some (.ok l) => sheetApply resume 1 ((takeSheet (takeNo k s)).getD []) l s

/-- The whole load; `resume` is the scene of the resume context. DRAM that is fenced leaves the limp configuration (R365). -/
def sheetLoad (resume : Option Nat) (s : State) : State :=
  if rdb s R.GAF_UNITS 19 then limpLoad s else
  let k := activeTake s
  match sheetOf resume.isSome k s with
  | none => sheetOther resume (wrf s R.UPD_SHEET_STATUS 31 24 0x10)
  | some (.error e) => sheetOther resume (rejectActive e s)
  | some (.ok l) => sheetApply resume 0 ((takeSheet (takeNo k s)).getD []) l s

/-- SHEET_LOAD: at tL of a start, once; in LOADER_ONLY no sheet is loaded (R444). -/
def execSheetLoad (s : State) : Host.Outcome State Fault Refusal :=
  run s .sheetLoad
    (if sheetLive s || s.gaf.inReset || s.gaf.resuming || loaderOnly s || decide (rung s ≠ 0) then s else
     sheetLoad none s)

-- Scenes (R413 to R415) -----------------------------------------------------------------------------------------------

/-- Target t is defined and allowed from the scene in force (R414). -/
def sceneAllowed (t : Nat) (s : State) : Bool :=
  !limp s && (rdf s R.UPD_SCENE 31 16).testBit t && rdb s (R.UPD_SCENE_ALLOWED (scene s)) t

/-- The answer to the request that the scene switch serves, by the first row of R414's table that applies: the status code.
A switch takes effect at the boundary that ends the tick. -/
def sceneAsk (t : Nat) (s : State) : Nat × State :=
  let refuse (code k : Nat) : Nat × State := (code, raise 495 (inc s (R.UPD_SCENE_CNT k)))
  if !sceneAllowed t s then refuse 2 1
  else if !startDone s || rdb s R.UPD_SCENE 8 then refuse 1 2
  else if t = scene s then (0, s)
  else (0, wrf (wrf { s with upd := { s.upd with sceneNs := nextTick s } } R.UPD_SCENE 8 8 1) R.UPD_SCENE 7 4 t)

/-- A scene request is answered, on the mailbox where it came from there (R414, R475). -/
def sceneEnd (r : SceneReq) (code : Nat) (s : State) : State := if r.mbx then mbxDone code 0 s else emit (.scene r.req code) s

/-- One that is not the first of its tick is answered BUSY (R414). -/
def sceneBusy (r : SceneReq) (s : State) : State := sceneEnd r 1 (raise 495 (inc s (R.UPD_SCENE_CNT 2)))

/-- The requests of a device tick in the order in which they are served: the safety pair's, the cluster's, the host's, each in
order of arrival (R414). -/
def sceneOrder (l : List SceneReq) : List SceneReq := [0, 1, 2].flatMap (fun k => l.filter (fun r => reqRank r.req == k))

/-- The scene switch serves the first request of the tick that ends; the others are answered BUSY (R414). -/
def sceneServe (s : State) : State :=
  match sceneOrder s.upd.sceneReqs with
  | [] => s
  | r :: t =>
    let a := sceneAsk r.target { s with upd := { s.upd with sceneReqs := [] } }
    forEach t sceneBusy (sceneEnd r a.1 a.2)

/-- A request reaches the scene switch (R414). -/
def sceneRequestDo (req : Requester) (target : Nat) (mbx : Bool) (s : State) : State :=
  { s with upd := { s.upd with sceneReqs := s.upd.sceneReqs ++ [⟨req, target, mbx⟩] } }

/-- A scene switch is pending and its tick boundary Ts has come (R269, R414). -/
def sceneDue (s : State) : Bool := rdb s R.UPD_SCENE 8 && decide (s.upd.sceneNs ≤ s.devNs)

/-- SCENE_REQUEST of the safety pair or the cluster. -/
def execSceneRequest (req : Requester) (target : Nat) (s : State) : Host.Outcome State Fault Refusal :=
  run s (.sceneRequest req target)
    (sceneRequestDo req target false s)

/-- Port p at Ts (R415): one that is disabled goes DOWN, its segment without a wrap; one that is enabled starts. -/
def scenePort (s0 : State) (p : Nat) (s : State) : State :=
  let was := portEnabled s0 p
  let on := portEnabled s p
  if was && !on then
    let s := if isEthPort p then linkEnds p (portStop p s) else portStop p s
    if isSeg p then segOff p s else s
  else if on && !was then portStart p s
  else s

/-- What execSceneSwitch does. -/
def sceneSwitchDo (s : State) : State :=
  let s0 := s
  let old := scene s
  let new := rdf s R.UPD_SCENE 7 4
  let s := wrf (wrf s R.UPD_SCENE 8 4 0) R.UPD_SCENE 3 0 new
  let s := wrf { s with lku := { s.lku with sceneNew := true } } R.LKU_CTRL 3 0 new
  let s := raise 494 (inc s (R.UPD_SCENE_CNT 0))
  let s := forEach (List.range 44) (scenePort s0) s
  let s := forEach (List.range 36) gateScene s
  let s := forEach (List.range 4) stepForList s
  forEach (List.range 16) (fun n s =>
    let t := rdf s (R.PORT_CAN_TERM (20 + n)) 15 0
    if t.testBit old != t.testBit new then termPend n s else s) s

/-- SCENE_SWITCH: Ts of the pending switch. -/
def execSceneSwitch (s : State) : Host.Outcome State Fault Refusal :=
  run s .sceneSwitch
    (if !sceneDue s then s else
     sceneSwitchDo s)

end Sys2Proof.Machine
end

