-- ==== Sys2Proof/Machine/Ladder.lean ====
section
/-! DEFINITION. The gaffer (chapter 14): starts, power fail, the rungs, the moves down and up, wakes, the host pins, the
alarm timer and the battery guard. -/

namespace Sys2Proof.Machine

-- What survives a reset or a rung (R18, R355, R420) -----------------------------------------------------------------------

/-- Addresses of the registers marked "kept" (R355) besides those of the freshness slots. -/
def keptReg (a : Nat) : Bool :=
  a == R.GAF_START || a == R.GAF_ALARM_LEFT || decide (R.GAF_CNT 0 ≤ a ∧ a < R.GAF_CNT 18) ||
  decide (R.GAF_WAKE_REC ≤ a ∧ a ≤ R.GAF_WAKE_SUPP + 4) || decide (R.GAF_FW 0 ≤ a ∧ a < R.GAF_FW 36)

/-- Bits of the register at `a` that are "stored" in NAND or in the vault's cells. -/
def storedMask (a : Nat) : Nat :=
  if a = R.VLT_STATUS then 0xF900FFFF
  else if a = R.UPD_STATUS then 0x0001FF0A
  else if a = R.VLT_TAMPER_REC ∨ a = R.VLT_TAMPER_TIME ∨ a = R.VLT_TAMPER_TIME + 4 ∨ a = R.VLT_IMPORT_SEQ ∨
    (ktAddr 0 0 ≤ a ∧ a < ktAddr 2048 0) ∨ a = R.REC_LOG_FILL ∨ a = R.UPD_RESUME ∨ a = R.UPD_IMAGE_LEN ∨ a = R.UPD_TRIAL ∨
    a = R.UPD_ATTEMPTS ∨ a = R.UPD_ACT_TIME ∨ a = R.UPD_ACT_TIME + 4 ∨ a = R.UPD_ACT_NS ∨
    (R.UPD_FLOOR 0 ≤ a ∧ a < R.UPD_FLOOR 4) ∨ (R.UPD_PART_FLOOR 1 ≤ a ∧ a ≤ R.UPD_PART_FLOOR 7) ∨
    (R.UPD_TAKE_DIGEST 0 0 ≤ a ∧ a ≤ R.UPD_TAKE_SV 1) ∨ a = R.ATT_NEXT ∨ a = R.ATT_HWM ∨ a = R.UPD_NAND ∨
    a = R.ID_LOADER_VER then 0xFFFFFFFF
  else 0

/-- Bits of the time base's registers that the always-on domain holds through a sleep (R272). Of these the keep bank holds the
rate correction over every restart (R355), which `survive` puts back. -/
def timeMask (a : Nat) : Nat :=
  if a = R.TIM_STATUS then 0xF0 else if a = R.TIM_DOM_STATE 0 ∨ a = R.TIM_DOM_STATE 1 then 0xC0000000
  else if a = R.TIM_RATE_PPB ∨ a = R.TIM_GM_ADJ then 0xFFFFFFFF else 0

/-- Bits that a resume keeps besides: the decisions of the last start, the scene, the switch states (R355, R356, R413). -/
def resumeMask (a : Nat) : Nat :=
  if R.RXU_SO_STATE 0 ≤ a ∧ a ≤ R.RXU_SO_STATE 3 then 0xFFFFFFFF else if (R.SVY_COND_FAIL 0 ≤ a ∧ a ≤ R.SVY_COND_FAIL 1) ∨ (R.SVY_CAN_WIRING 0 ≤ a ∧ a ≤ R.SVY_CAN_WIRING 15) ∨
    a = R.GAF_SW_STATE ∨ (R.RXU_FENCED_LINES 0 ≤ a ∧ a ≤ R.RXU_FENCED_LINES 3) then 0xFFFFFFFF
  else if a = R.SVY_STATUS then 2 else if a = R.UPD_SCENE then 0xF else if a = R.GAF_UNITS then 0xFFFF0000 else 0

/-- Bits of the freshness slots' registers that the keep bank holds: FV and STATE (R325). -/
def slotMask (s : State) (a : Nat) : Nat :=
  if a < R.CIP_FV_CFG 0 ∨ R.CIP_FV_CFG 4096 ≤ a then 0
  else if !s.cip.slots.contains ((a - R.CIP_FV_CFG 0) / 16) then 0
  else if a % 16 = 0 then 0x30000000 else if 8 ≤ a % 16 then 0xFFFFFFFF else 0

/-- The registers after a reset: those bits that `mask` keeps, over the reset values. -/
def keepRegs (mask : Nat → Nat) (m : SMap Word) : SMap Word :=
  m.foldl (fun acc x =>
    let k := mask x.1
    let r := (resetWord x.1).toNat
    acc.set x.1 (BitVec.ofNat 32 ((x.2.toNat &&& k) ||| (r &&& (0xFFFFFFFF - k)))) (resetWord x.1)) []

/-- Why the module restarts, as far as what it keeps goes. -/
inductive Restart where
  | powerLoss | fromDormant | moduleReset | resume
  deriving DecidableEq, Repr

/-- TERM_ON and TBC_ON of the CAN channels: switches that keep their state while the module is powered (R211, R212). -/
def termMask (a : Nat) : Nat := if (List.range 16).any (fun n => R.PORT_CAN_STATE (20 + n) == a) then 0xC0000 else 0

/-- The bits of register `a` that outlast a restart of kind `k`. -/
def restartMask (k : Restart) (s : State) (a : Nat) : Nat :=
  storedMask a ||| (if keptReg a && !s.gaf.keepLost then 0xFFFFFFFF else 0) |||
  (if a = R.GAF_HOST then 4 else 0) ||| (if k = .powerLoss then 0 else termMask a) ||| (if k = .powerLoss then 0 else slotMask s a) |||
  (if k = .resume ∨ k = .fromDormant then timeMask a else 0) ||| (if k = .resume then resumeMask a else 0)

/-- Volatile keys are dropped; after a power loss USES goes back to its committed value (R290). -/
def keysRestart (lost : Bool) (s : State) : State :=
  let ks := s.vault.keys.map Prod.fst
  let s := forEach (ks.filter (ktVolatile s)) ktDrop s
  if lost then forEach (ks.filter (fun i => !ktVolatile s i)) (fun i s => wr s (ktAddr i 3) (s.vault.committed.getD i (ktUses s i))) s
  else s

/-- The module in reset: everything at its reset value but what is stored, kept, or the model's own record. -/
def survive (k : Restart) (s0 : State) : State :=
  let lost := k == .powerLoss
  let s := keysRestart lost s0
  let r := State.reset
  let resume := k == .resume
  { r with
    regs := keepRegs (restartMask k s) s.regs
    pending := s.pending, drawn := s.drawn, readData := s.readData, out := s.out
    devNs := s.devNs, globalNs := s.globalNs
    vault := { s.vault with kek := none, defUses := [], laneGen := [], laneKey := [], reqs := [] }
    cip := { r.cip with slots := if lost then [] else s.cip.slots, slotKey := s.cip.slotKey
                        fvCommit := s.cip.fvCommit }
    recd := { r.recd with log := s.recd.log, savedSeq := s.recd.savedSeq }
    tim := if k = .resume ∨ k = .fromDormant then
        { r.tim with holdNs := s.tim.holdNs, slew := s.tim.slew, slewLeft := s.tim.slewLeft, frac := s.tim.frac, base := s.tim.base }
      else { r.tim with base := if s.gaf.keepLost then 0 else s.tim.base }
    rxu := if resume then { r.rxu with condHold := s.rxu.condHold, startHold := s.rxu.startHold, testDue := none } else r.rxu
    ports := if resume then
        { r.ports with keptOff := s.ports.keptOff, fenced := s.ports.fenced
                       can := s.ports.can.map (fun x =>
                         (x.1, ⟨x.2.polarity, x.2.negSeen, x.2.swapPending, false, 0, x.2.recoveries, false, false, 0, 0, 0, none, x.2.off, 0, none, none⟩)) }
      else r.ports
    survey := if resume then { r.survey with conds := s.survey.conds, windowMs := s.survey.windowMs } else r.survey
    nm := { r.nm with window := s.nm.window, judge := s.nm.judge
                      listen := s.nm.listen, listenSw := s.nm.listenSw, wuf := if resume then s.nm.wuf else r.nm.wuf
                      segs := if resume then s.nm.segs.map (fun x => (x.1, ⟨0, 0, 0, false, 0, x.2.latched, x.2.latchWhy⟩)) else [] }
    gaf := { r.gaf with inReset := s.gaf.inReset, keepLost := s.gaf.keepLost, lowBattOwed := s.gaf.lowBattOwed, slowOwed := s.gaf.slowOwed
                        sleepNs := s.gaf.sleepNs, sleepCount := s.gaf.sleepCount
                        sheetDigest := if s.gaf.keepLost then [] else s.gaf.sheetDigest
                        alarmNs := if s.gaf.keepLost then none else s.gaf.alarmNs
                        resumeValid := resume && s.gaf.resumeValid, ppsOff := s.gaf.ppsOff, tst := s.gaf.tst
                        meshCut := s.gaf.meshCut, resLow := s.gaf.resLow }
    upd := { s.upd with
      clockSaved := if (takeNo (activeTake s) s).mark = 4 then s.upd.clockSaved else 0
      sessNs := 0, prog := none, verifying := none, restart := none, sceneNs := 0, sceneReqs := [], buf := [], next := 0, spoiled := false
      dl := none, envelope := false, index := 0, exiting := false, routine := [], tester := none, attSince := none, prepared := false, crossed := false
      bootGood := resume && s.upd.bootGood } }

-- Starts (R287, R301, R362, R364) ------------------------------------------------------------------------------------------

/-- A bounded free value: control execution comes at most `max` µs after t0 (R361, R364). -/
def startUs (max : Nat) (s : State) : State :=
  let f := free s
  wr f.2 R.GAF_T_EXEC (f.1 % (max + 1))

/-- The control cluster executes (t5): port 19 is UP (R42, R471). -/
def clusterUp (s : State) : State := linkReturn 19 (wrf s R.PORT19_CP_STATE 31 28 2)

/-- First start with the number of failed health tests that the command reports, or, where it reports none, a free one. -/
def firstTry (entropyFails : Option Nat) (s : State) : State :=
  match entropyFails with
  | some n => firstStart n s
  | none => firstStart (free s).1 (free s).2

/-- The vault reads the root: first start in BLANK with no TST land driven, then KEK (R287, R288). -/
def vaultRoot (entropyFails : Option Nat) (s : State) : State :=
  kekDerive (if lifecycle s = 0 ∧ s.gaf.tst = false then firstTry entropyFails s else s)

/-- The TST lands as they are found: one that is driven in SEALED is a tamper (R298). -/
def tstCheck (s : State) : State := if s.gaf.tst && lifecycle s == 1 then tamper 32 s else s

/-- The checks of mesh and reservoir before the root is read (R301), and of the TST lands (R298). -/
def vaultStart (entropyFails : Option Nat) (s : State) : State :=
  let s := if s.gaf.resLow then raise 331 s else wrf s R.VLT_STATUS 25 25 1
  let s := tstCheck (if s.gaf.meshCut then tamper 1 s else s)
  if s.gaf.resLow then s else vaultRoot entropyFails s

/-- What ECC finds in entries of the key table that a start or a wake reads (R306). -/
def ktRead (kt : List (Nat × Ecc)) (s : State) : State :=
  forEach kt (fun x s => if ktValid s x.1 then ktEcc x.2 x.1 s else s) s

/-- A start without a CLEAN position record goes on from HWM (R449). -/
def attSkip (s : State) : State :=
  let n := rd s R.ATT_HWM - rd s R.ATT_NEXT
  if n = 0 then s else addCnt (wr s R.ATT_NEXT (rd s R.ATT_HWM)) (R.UPD_CNT 13) n

/-- Attestation indices at a start, once the KEK is there to read the position records with: from NEXT after a CLEAN one, which
is written again with CLEAN = 0 before any signature, else from HWM (R449). -/
def attStart (s : State) : State :=
  if s.gaf.resLow then s else
  match posValid s with
  | some b =>
    if posClean b then posWrite false (wr (wr s R.ATT_HWM (leAt b 0 4)) R.ATT_NEXT (leAt b 8 4)) else attSkip s
  | none => attSkip s

/-- A start from t0 to t5 of R364, with what the checks find: TST lands, mesh and reservoir as the last command that tells of
them left them (log entry 114). -/
def startFrom (k : Restart) (cause lastFrom : Nat) (entropyFails : Option Nat) (s : State) (kt : List (Nat × Ecc) := []) : State :=
  let freezing := rdf s R.REC_STATUS 31 28 == 3
  let lost := s.gaf.keepLost
  let s := survive k s
  let s := if lost then { s with devNs := 0, globalNs := 0 } else s
  let s := { s with gaf := { s.gaf with inReset := false, keepLost := false, dwellNs := s.devNs, idleNs := s.devNs
                                        hostWakeNs := s.devNs } }
  let s := { s with survey := { s.survey with t0Ns := s.devNs } }
  let s := wr s R.GAF_START (lastFrom * 16 + cause)
  let s := if lost then wr s R.GAF_WAKE_REC 0x820080 else s
  let s := inc (wrf s R.GAF_UNITS 15 0 0xF) (R.GAF_CNT 11)
  let s := wrf s R.SVY_STATUS 0 0 1
  let s := if k = .fromDormant then timeWake s.gaf.sleepNs (if cause = 4 then raise 384 s else s) else s
  -- the entry that a power fail cut off is erased and reported (R394)
  let s := if freezing then raise 450 (inc s (R.REC_CNT 13)) else s
  -- a tamper taken while asleep is reported first: what the checks then find changes no state any more (R300, R301)
  let s := ktRead kt (vaultStart entropyFails (tamperReport (rateShow s)))
  let s := loaderStart (eraseComplete s)
  let s := attStart s
  let s := if rdb s R.UPD_STATUS 1 && !loaderOnly s then { s with upd := { s.upd with verifying := some 0 } } else s
  let s := wrf s R.GAF_HOST 1 0 3
  clusterUp (startUs (if k = .fromDormant then 100000 else 110000) s)

/-- The module is in reset because its core rail failed twice (R365). -/
def railHeld (s : State) : Bool := s.gaf.retried.testBit 2

/-- What execPowerOn does. -/
def powerOnDo (tstDriven meshBroken reservoirLow : Bool) (entropyFails : Nat) (kt : List (Nat × Ecc)) (s : State) : State :=
  let s := { s with gaf := { s.gaf with tst := tstDriven, meshCut := meshBroken, resLow := reservoirLow } }
  startFrom .powerLoss (if s.gaf.keepLost then 0 else 1) (rdf s R.GAF_START 6 4) (some entropyFails) s kt

/-- POWER_ON (R364): the higher feed has reached 6.5 V. -/
def execPowerOn (mv : Nat) (tstDriven meshBroken reservoirLow : Bool) (entropyFails : Nat) (s : State)
    (kt : List (Nat × Ecc) := []) : Host.Outcome State Fault Refusal :=
  run s (.powerOn mv tstDriven meshBroken reservoirLow entropyFails kt)
    (if s.gaf.inReset && !railHeld s && decide (6500 ≤ mv) then
       powerOnDo tstDriven meshBroken reservoirLow entropyFails kt s
     else s)

/-- Everything that transmits on the vehicle is cut off, and the module is held in reset (R30). -/
def powerDown (s : State) : State :=
  let s := forEach (List.range 44) (fun p s => if isVehiclePort p then silence p s else s) s
  let freezing := rdf s R.REC_STATUS 31 28
  let trial := s.upd.clockSaved
  let s := survive .powerLoss s
  -- the entry that was being written is found uncommitted at the next start
  let s := if freezing = 3 then wrf s R.REC_STATUS 31 28 3 else s
  let s := if (takeNo (activeTake s) s).mark = 4 then wr s R.UPD_TRIAL trial else s
  { s with gaf := { s.gaf with inReset := true } }

/-- The battery node is below 3.0 V: the always-on domain loses its state (R355). -/
def keepLose (mv : Nat) (s : State) : State :=
  if 3000 ≤ mv then s else
  let s := { s with gaf := { s.gaf with keepLost := true, sheetDigest := [], lowBattOwed := false, alarmNs := none }
                    vault := { s.vault with asleepTamper := 0, asleepRung := 0, asleepCount := 0 }
                    nm := { s.nm with window := [], judge := [] } }
  { s with regs := s.regs.filter (fun x => !keptReg x.1) }

/-- What execPowerFail does. -/
def powerFailDo (mv : Nat) (lowMs : Nat) (s : State) : State :=
  keepLose mv (if s.gaf.inReset then { s with gaf := { s.gaf with retried := 0 } } else powerDown s)

/-- POWER_FAIL (R29, R30): below 4.5 V, or below 6.0 V for more than 100 ms. -/
def execPowerFail (mv lowMs : Nat) (s : State) : Host.Outcome State Fault Refusal :=
  run s (.powerFail mv lowMs)
    (if mv < 4500 ∨ (mv < 6000 ∧ 100 < lowMs) then powerFailDo mv lowMs s else s)

/-- POWER_RESTART (R30): the higher feed has stayed above 6.5 V for 10 ms. -/
def execPowerRestart (mv heldMs : Nat) (s : State) : Host.Outcome State Fault Refusal :=
  run s (.powerRestart mv heldMs)
    (if s.gaf.inReset && !railHeld s && decide (6500 < mv ∧ 10 ≤ heldMs) then startFrom .powerLoss (if s.gaf.keepLost then 0 else 1) (rdf s R.GAF_START 6 4) none s else s)

/-- What execCoreRailRetry does. -/
def coreRailRetryDo (regulated : Bool) (s : State) : State :=
  if regulated then startFrom .powerLoss (rdf s R.GAF_START 2 0) (rdf s R.GAF_START 6 4) none s
  else { s with gaf := { s.gaf with moveNs := s.devNs } }

/-- CORE_RAIL_RETRY (R365): 1 s after the core rail failed it is tried again, from t0. -/
def execCoreRailRetry (regulated : Bool) (s : State) : Host.Outcome State Fault Refusal :=
  run s (.coreRailRetry regulated)
    (if !s.gaf.inReset || !railHeld s || decide (s.devNs < s.gaf.moveNs + 1000000000) then s else
     coreRailRetryDo regulated s)

/-- What execReservoirCharged does. -/
def reservoirChargedDo (tstDriven : Bool) (entropyFails : Nat) (s : State) : State :=
  let s := tstCheck { s with gaf := { s.gaf with tst := tstDriven, resLow := false } }
  attStart (vaultRoot (some entropyFails) (wrf s R.VLT_STATUS 25 25 1))

/-- RESERVOIR_CHARGED (R301): the root that was held unread is read. -/
def execReservoirCharged (tstDriven : Bool) (entropyFails : Nat) (s : State) : Host.Outcome State Fault Refusal :=
  run s (.reservoirCharged tstDriven entropyFails)
    (if s.gaf.inReset || rdb s R.VLT_STATUS 25 then s else
     reservoirChargedDo tstDriven entropyFails s)

-- Staged start (R363, R365) -------------------------------------------------------------------------------------------------

/-- The bit that holds the first failure of a unit: each main die rail its own (R365). -/
def retryBit (u : Nat) (rail : MainRail) : Nat :=
  if u ≠ 2 then u else match rail with
    | .core => 2
    | .sram => 12
    | .io => 13

/-- Ports that a unit's second failure fences; the I/O rail feeds the 10BASE-T1S and gigabit front ends and the host SerDes,
taken as ports 12 to 17 (R363; DESIGN CHOICE, log entry 228). -/
def unitFences (u : Nat) (rail : MainRail) : List Nat :=
  if u = 2 then (if rail = .io then [12, 13, 14, 15, 16, 17] else []) else unitPorts u

/-- A unit fails for the second time: fenced, source 390 with line 62; the core rail holds the module in reset. -/
def unitFail (u : Nat) (rail : MainRail) (s : State) : State :=
  if u = 2 ∧ rail = .core then
    let s := powerDown s
    { s with gaf := { s.gaf with retried := 4, moveNs := s.devNs } }
  else
    let s := wrf (if u = 2 then s else wrf s R.GAF_UNITS u u 0) R.GAF_UNITS (16 + u) (16 + u) 1
    raiseLine 390 62 (forEach (unitFences u rail) fencePort s)

/-- The PHY die's microcode fails its check against the shot list: ports 0 to 3 are fenced and the start survey reports
FENCED (R239). -/
def phyFence (s : State) : State :=
  wrf (forEach (List.range 4) fencePort s) R.SVY_STATUS 31 24 0x0D

/-- What execUnitPowerStep does. -/
def unitPowerStepDo (unit : Nat) (regulated : Bool) (waited : Bool) (microOk : Bool) (rail : MainRail) (s : State) : State :=
  let s := if waited then incRaise (R.GAF_CNT 8) 389 s else s
  let b := retryBit unit rail
  if regulated then
    let s := wrf s R.GAF_UNITS unit unit 1
    let s := { s with gaf := { s.gaf with unitNs := s.devNs, retried := if s.gaf.retried.testBit b then s.gaf.retried - 2 ^ b else s.gaf.retried } }
    -- own termination goes off for the start survey, at the next bus idle (R42, R211)
    let s := if startDone s then s else forEach (unitPorts unit) (fun p s =>
      if isCanPort p && rdb s (R.PORT_CAN_STATE p) 19 then termPend (p - 20) s else s) s
    if (unit = 4 ∨ unit = 5) ∧ microOk = false then phyFence s else s
  else if s.gaf.retried.testBit b then unitFail unit rail s
  else { s with gaf := { s.gaf with retried := s.gaf.retried ||| 2 ^ b } }

/-- When the step of group `u` is due at a start: PHY groups from tL on, 10 ms apart, CAN groups from tL + 40 ms, 0.5 ms
apart, and no sooner after the step before it (R363). -/
def unitDue (s : State) (u : Nat) : Bool :=
  let at0 := if u ≤ 7 then (u - 4) * 10000000 else 40000000 + (u - 8) * 500000
  let gap := if 5 ≤ u ∧ u ≤ 7 then 10000000 else if 9 ≤ u then 500000 else 0
  sheetLive s && decide (s.survey.loadNs + at0 ≤ s.devNs) && decide (s.gaf.unitNs + gap ≤ s.devNs ∨ s.gaf.unitNs ≤ s.survey.loadNs)

/-- A segment of group `u` that is enabled has left ASLEEP (R363). -/
def groupAwake (s : State) (u : Nat) : Bool := (unitPorts u).any (fun p => isSeg p && portEnabled s p && segState s p != 0)

/-- The turn of unit `u`: at a start in order, each once those before it are powered or fenced, the groups when due; after it
a group is powered as a segment of it wakes (R363). -/
def unitTurn (s : State) (u : Nat) : Bool :=
  if startDone s then decide (4 ≤ u) && groupAwake s u && (rdb s R.GAF_UNITS u || unitSpaced s u)
  else (List.range u).all (unitSettled s) && (decide (u < 4) || !rdb s R.GAF_UNITS u && unitDue s u)

/-- The next group that waits for its power step takes it once time has passed since the last; the awake ports in it start
(R363). -/
def unitTick (s : State) : State :=
  match s.gaf.unitWant with
  | [] => s
  | u :: t =>
    if rdb s R.GAF_UNITS u || rdb s R.GAF_UNITS (16 + u) || unitSpaced s u then
      let s := { s with gaf := { s.gaf with unitWant := t } }
      let s := if rdb s R.GAF_UNITS u || rdb s R.GAF_UNITS (16 + u) then s else groupOn u s
      forEach ((unitPorts u).filter (fun p => segState s p != 0)) portStart s
    else s

/-- UNIT_POWER_STEP (R363); the groups that hold MG0 to MG3 come with the result of the microcode check (R239), the main die
with the rail that the step is of. -/
def execUnitPowerStep (unit : Nat) (regulated waited : Bool) (s : State) (microOk : Bool := true) (rail : MainRail := .core) :
    Host.Outcome State Fault Refusal :=
  run s (.unitPowerStep unit regulated waited microOk rail)
    (if s.gaf.inReset || rdb s R.GAF_UNITS (16 + unit) || !unitTurn s unit then s else
     unitPowerStepDo unit regulated waited microOk rail s)

-- Deepest permitted rung (R357) ---------------------------------------------------------------------------------------------

/-- The conditions in force: bit of BLOCKERS and the limit it sets. -/
def rungLimits (s : State) : List (Nat × Nat) :=
  let when (b : Bool) (x : Nat × Nat) : List (Nat × Nat) := if b then [x] else []
  [(1, rdf s R.GAF_RUNG_LIMIT 2 0),
   (2, rdf s (R.GAF_SCENE_DEEPEST (scene s / 8)) (4 * (scene s % 8) + 2) (4 * (scene s % 8)))] ++
  when (!rdb s R.GAF_HOST 2) (3, 0) ++ when (!rdb s R.GAF_NM_STATUS 1) (0, 1) ++
  when (rdf s R.UPD_STATUS 23 20 != 0) (4, 1) ++ when (!startDone s) (7, 1) ++
  when (rdf s R.REC_STATUS 31 28 == 3) (6, 1) ++ when (inSafe s) (5, 2)

/-- The deepest permitted rung. -/
def deepest (s : State) : Nat := (rungLimits s).foldl (fun m x => min m x.2) 5

/-- DEEPEST and BLOCKERS as computed now. -/
def rungShow (s : State) : State :=
  let d := deepest s
  let b := (rungLimits s).foldl (fun m x => if x.2 = d then m ||| 2 ^ x.1 else m) 0
  wrf (wrf s R.GAF_RUNG 14 12 d) R.GAF_RUNG 23 16 b

/-- DEEPEST as the last evaluation found it: moves go by this value (R357). -/
def evaluated (s : State) : Nat := rdf s R.GAF_RUNG 14 12

/-- What execRungEvaluate does: the level of WAKE_REQ_N, where it is sensed, and the evaluation. -/
def rungEvaluateDo (wakeReqN : Option Bool) (s : State) : State :=
  rungShow (match wakeReqN with
    | some b => if rung s = 5 then s else wrf s R.GAF_HOST 2 2 (if b then 1 else 0)
    | none => s)

/-- RUNG_EVALUATE: every 1 ms, at every rung, with the level of WAKE_REQ_N (R357, R366). -/
def execRungEvaluate (s : State) (wakeReqN : Option Bool := none) : Host.Outcome State Fault Refusal :=
  run s (.rungEvaluate wakeReqN)
    (if s.gaf.inReset then s else
     rungEvaluateDo wakeReqN s)

-- Moves down (R357 to R360) ----------------------------------------------------------------------------------------------------

def moving (s : State) : Bool := rdb s R.GAF_RUNG 8
def moveTarget (s : State) : Nat := rdf s R.GAF_RUNG 6 4
def committed (s : State) : Bool := rdb s R.GAF_RUNG 9

/-- The pool is left empty: every queue and collator context is flushed, and what is still in the pipeline or the engine ends; a
cut-through frame whose tail is still out ends with a tail mark, and its cells are freed (R106, R155). -/
def poolEnd (s : State) : State :=
  let s := flushAll (forEach (List.range 64) flightsDrop s)
  let cut := (s.ing ++ s.cip.jobs.filterMap CipJob.x).filterMap (fun x => x.decided.bind Decided.handed)
  -- a frame of an injection slot goes with the pipeline, refused by a pool without power (DESIGN CHOICE, log entry 258)
  let s := forEach (s.ing.filterMap Ing.slot) (fun k s => slotResult k 4 s) s
  stageSync (cipStop { (forEach cut (fun fid s => closeTail fid true s) s) with ing := [] })

/-- Steps 1 and 2 of R359: stalled pops return EMPTY, a command survey is aborted, engines end their work, every queue and
collator context is flushed; HX0 and HX1 go down (R366). -/
def stepsDoze (s : State) : State :=
  let s := if s.router.stalls.isEmpty then s
    else answer (s.router.stalls.map (fun x => addressed x.be 0x80000000)) { s with router := { s.router with stalls := [] } }
  forEach [16, 17] (fun p s => linkEnds p (portStop p s)) (poolEnd (sgeStop (surveyAbort s)))

/-- Receive freshness values are committed (R325). -/
def fvSleep (s : State) : State :=
  forEach (s.cip.slots.filter (fun q => !rdb s (R.CIP_FV_CFG q) 30)) (fun q s => fvCommitTo q (cnt s (R.CIP_FV q)) s) s

/-- The trial clock goes to the boot-pointer record (R431). -/
def trialSave (s : State) : State :=
  if (takeNo (activeTake s) s).mark = 4 then bpWrite { s with upd := { s.upd with clockSaved := rd s R.UPD_TRIAL } } else s

/-- FIFOs and pending bits of the event router are cleared on a transition to Sleep or below (R473). -/
def routerClear (s : State) : State :=
  let s := { s with router := { s.router with fifos := [], tick := [] } }
  let s := forEach (List.range 6) (fun t s => wrf s (R.EVT_FIFO_LEVEL t) 8 0 0) s
  forEach (List.range 16) (fun i s => wr s (R.EVT_HOST_PEND i) 0) s

/-- Steps 3 to 5 of R359, and the vault's position record (R449). -/
def stepsSleep (s : State) : State :=
  let s := fvSleep (sleepSave s)
  let s := forEach ((s.vault.keys.map Prod.fst).filter (ktVolatile s)) ktDrop s
  let s := snapClear (cipStop (ktCounts s))
  let s := trialSave (ppsEnd (soOff s))
  posWrite true { s with gaf := { s.gaf with resumeValid := true } }

/-- How long a move to rung t may take, ns: to Sleep, the freeze that step 3 completes and the sleep save besides (R359). -/
def moveBound (t : Nat) (s : State) : Nat :=
  if t = 2 then 2000000
  else if t = 3 then
    40000000 + (if recOn s && [2, 3].contains (rdf s R.REC_STATUS 31 28) then 420000000 else 0) + (if recOn s then 105000000 else 0)
  else 1000000

/-- A move down to `t` begins (R357, R359): from Sleep on, its start is its commit point. -/
def moveStart (t : Nat) (s : State) : State :=
  let s := { s with gaf := { s.gaf with moveNs := s.devNs, latched := false, moveMax := moveBound t s } }
  let s := judgeAll (wrf (wrf s R.GAF_RUNG 8 8 1) R.GAF_RUNG 6 4 t)
  if t = 2 then stepsDoze s else if t = 3 then stepsSleep s else wrf s R.GAF_RUNG 9 9 1

/-- Step 6 of R359: the commit point, at which a move to Sleep turns the DRAM off. -/
def moveCommit (s : State) : State :=
  if moving s && !committed s then
    let s := wrf s R.GAF_RUNG 9 9 1
    if moveTarget s = 3 then dramLost s else s
  else s

/-- Dwell of the move to rung t, ns; none: never. -/
def dwellOf (s : State) (t : Nat) : Option Nat :=
  if t = 2 then some (rdf s R.GAF_DWELL0 31 16 * 1000000)
  else if t = 3 then some (rdf s R.GAF_DWELL1 15 0 * 1000000000)
  else if t = 4 then some (rdf s R.GAF_DWELL1 31 16 * 1000000000)
  else if rdf s R.GAF_DWELL2 15 0 = 0 then none else some (rdf s R.GAF_DWELL2 15 0 * 3600000000000)

/-- The move that comes next from the present rung, and whether its dwell has passed. -/
def nextRung (s : State) : Nat := max 2 (rung s + 1)

def dwellDone (s : State) : Bool :=
  decide (rung s ≤ 4 ∧ nextRung s ≤ evaluated s) &&
  (rung s != 0 && rung s != 1 || rdb s R.GAF_NM_STATUS 1) &&
  ((dwellOf s (nextRung s)).any (fun d => decide (s.gaf.dwellNs + d ≤ s.devNs)))

/-- A segment leaves ASLEEP at this instant: by a need, or by a wake that waits (R369). -/
def segLeaves (s : State) : Bool :=
  segList.any (fun p => wakeWaits s p || (portEnabled s p && segState s p == 0 && segNeed s p))

/-- DWELL_EXPIRE: the module starts one rung down; a segment that leaves ASLEEP in the same tick wins (R357, R369). -/
def execDwellExpire (s : State) : Host.Outcome State Fault Refusal :=
  run s .dwellExpire
    (if s.gaf.inReset || s.gaf.resuming || moving s || !dwellDone s || segLeaves s then s else
     moveStart (nextRung s) s)

/-- Host pins and units of rung t (R354, R366). -/
def rungPins (t : Nat) (s : State) : State :=
  let en := t == 2 && rdb s R.GAF_HOST_CFG 0
  let s := wrf s R.GAF_HOST 1 0 (if en then 1 else 0)
  let s := if rdf s R.HDMA_STATUS 31 28 = 0 then s else if t = 2 ∧ en = true then linkCode 4 s else pcieDown s
  if t = 2 then s else wrf s R.GAF_UNITS 15 0 (if t = 3 then 3 else 1)

/-- The rung is reached (step 8 of R359). -/
def rungEnter (t : Nat) (s : State) : State :=
  -- what the fabric still took in during the move goes with its power (R106)
  let s := if t = 2 then poolEnd s else s
  let s := wrf (wrf (wrf s R.GAF_RUNG 9 8 0) R.GAF_RUNG 6 4 t) R.GAF_RUNG 2 0 t
  let s := inc (rungPins t s) (R.GAF_CNT (t - 1))
  -- the bias circuit is off in Dormant (R212)
  let s := if t = 5 then forEach (List.range 16) (fun n s => wrf s (R.PORT_CAN_STATE (20 + n)) 18 18 0) s else s
  let s := { s with gaf := { s.gaf with dwellNs := s.devNs, lowBatt := if t = 3 then 0 else s.gaf.lowBatt
                                        sleepNs := if t = 3 then s.devNs else s.gaf.sleepNs
                                        sleepCount := if t = 3 then 0 else s.gaf.sleepCount } }
  let s := raise 384 s
  if 3 ≤ t then routerClear s else s

-- Moves up (R356, R361, R362) -------------------------------------------------------------------------------------------------

/-- What the listeners and inputs go by is noted before the configuration is lost: a second wake of the same tick, or one
during the resume, is still seen (R362, R369). -/
def listenKeep (s : State) : State :=
  let tc (p : Nat) : Bool := if isCanPort p then wufRate s (p - 20) else p ≤ 11 && rdb s (R.PORT_ETH_CFG p) 10
  let l := (segList.filter (portEnabled s)).foldl (fun (m : SMap (Nat × Bool)) p => m.put p (rd s (R.GAF_NM_SEG_CFG p), tc p)) ([] : SMap (Nat × Bool))
  let sw := (List.range 8).filter (fun k => rdf s (R.GAF_SW_CFG k) 31 30 != 0 && swUsed s k)
  { s with nm := { s.nm with listen := l, listenSw := sw } }

/-- A move that was slow while the main die was off is reported (R372). -/
def slowReport (s : State) : State :=
  if s.gaf.slowOwed then raiseLine 393 63 { s with gaf := { s.gaf with slowOwed := false } } else s

/-- A resume from Sleep or Watch begins: Run is entered; the tables are not live until RESUME_COMPLETE. -/
def resumeStart (s0 : State) : State :=
  let s := listenKeep s0
  let r := rung s
  let valid := s.gaf.resumeValid
  let owed := s.gaf.lowBattOwed
  let s := survive .resume s
  let s := { s with survey := { s.survey with t0Ns := s.devNs }
                    gaf := { s.gaf with resuming := true, resumeValid := valid, lowBattOwed := false } }
  let s := wr s R.GAF_START (r * 16 + 3)
  let s := wrf s R.GAF_UNITS 15 0 0xF
  let s := runAgain r s
  let s := slowReport (if owed then raise 387 s else s)
  -- no survey runs (R48, R356); the reservoir as the always-on domain knows it (R301)
  let s := wrf (wrf s R.SVY_STATUS 0 0 0) R.VLT_STATUS 25 25 (if s.gaf.resLow then 0 else 1)
  let s := tamperReport (timeWake s.gaf.sleepNs s)
  -- a reservoir below its firing level holds the root unread (R301)
  let s := if s.gaf.resLow then s else attStart (kekDerive s)
  raise 357 (clusterUp (startUs (if r = 3 then 1000 else 10000) s))

/-- A start from Dormant: an activation that waits for a controlled restart is made first (R436). -/
def dormantStart (s0 : State) : State :=
  let s := listenKeep s0
  let owed := s.gaf.lowBattOwed
  let s := if flipReady s then flip s else s
  let s := startFrom .fromDormant 4 5 none s
  let s := if owed then raise 387 { s with gaf := { s.gaf with lowBattOwed := false } } else s
  raise 357 (slowReport s)

/-- The module rises to Run from its rung (R356, R361). -/
def moduleWake (s : State) : State :=
  match rung s with
  | 0 => s
  | 1 => holdExit s
  | 2 => dozeExit s
  | 5 => dormantStart s
  | _ => resumeStart s

/-- Segments whose wake was latched leave ASLEEP (R361). -/
def latchedRise (s : State) : State :=
  if s.gaf.resuming then s else
  forEach ((s.nm.segs.filter (fun x => x.2.latched && segState s x.1 == 0)).map Prod.fst)
    (fun p s => segRise p (seg s p).latchWhy (setSeg p { seg s p with latched := false } s)) s

/-- The move under way has exceeded the time of R359. -/
def moveLate (s : State) : Bool := decide (s.gaf.moveMax < s.devNs - s.gaf.moveNs)

/-- A downward move is abandoned before its commit point (R360): back to Run from the deepest rung reached. -/
def moveAbort (s : State) : State :=
  let s := if moveLate s then raiseLine 393 63 s else s
  let s := wrf (wrf s R.GAF_RUNG 9 8 0) R.GAF_RUNG 6 4 0
  let s := if rung s = 1 then holdExit s else s
  let s := incRaise (R.GAF_CNT 5) 385 s
  let s := if rung s = 2 then dozeExit s else
    forEach [16, 17] portStart { s with gaf := { s.gaf with dwellNs := s.devNs } }
  let s := if (posValid s).any posClean then posWrite false s else s
  forEach (List.range 4) soApply { s with gaf := { s.gaf with resumeValid := false } }

/-- A wake request of the module by the time of its arrival (R360): FIRST is `first` (R345). -/
def wakeRequest (first : Nat) (s : State) : State :=
  let firstSet (s : State) : State := wrf s R.GAF_WAKE_REC 23 16 first
  if moving s then
    if committed s then
      let again := s.gaf.latched
      -- of two in one tick FIRST takes the lower code (R369)
      let lower := decide (s.gaf.latchNs / 1000 = s.devNs / 1000 ∧ first < rdf s R.GAF_WAKE_REC 23 16)
      let s := if decide (3 ≤ moveTarget s) && (!again || lower) then firstSet s else s
      { s with gaf := { s.gaf with latched := true, latchNs := if again then s.gaf.latchNs else s.devNs } }
    else moveAbort s
  else
    moduleWake (if 3 ≤ rung s then firstSet s else s)

/-- A need that rises while the module is in Doze or on its way down is a wake request (R360, R415). -/
def needWakes (s : State) : Bool :=
  (moving s || rung s == 2) && segList.any (fun p => portEnabled s p && segState s p == 0 && segNeed s p)

/-- What execNeedEvaluate does. -/
def needEvaluateDo (s : State) : State :=
  let s := if needWakes s then wakeRequest (rdf s R.GAF_WAKE_REC 23 16) s else s
  if moving s || decide (2 ≤ rung s) then s else
  let s := forEach segList segEval s
  if segList.all (fun p => segState s p == 0) then
    -- the dwell of Doze runs from here (R357)
    if rdb s R.GAF_NM_STATUS 1 then s
    else { (wrf s R.GAF_NM_STATUS 1 1 1) with gaf := { s.gaf with dwellNs := s.devNs } }
  else wrf s R.GAF_NM_STATUS 1 1 0

/-- NEED_EVALUATE: every 1 ms, while network management runs. -/
def execNeedEvaluate (s : State) : Host.Outcome State Fault Refusal :=
  run s .needEvaluate
    (if !rdb s R.GAF_NM_STATUS 0 || !startDone s then s else
     needEvaluateDo s)

/-- What execRungReached does. -/
def rungReachedDo (s : State) : State :=
  let late := moveLate s
  let s := rungEnter (moveTarget s) (moveCommit s)
  -- with the main die off, a slow move is reported once it runs again (R372)
  let s := if !late then s else if rung s ≤ 2 then raiseLine 393 63 s else { s with gaf := { s.gaf with slowOwed := true } }
  if s.gaf.latched then
    -- the event is raised once the module that reports it has risen
    latchedRise (incRaise (R.GAF_CNT 6) 386 (moduleWake { s with gaf := { s.gaf with latched := false } }))
  else if rung s ≤ 4 ∧ nextRung s ≤ evaluated s ∧ dwellOf s (nextRung s) = some 0 ∧ segLeaves s = false then moveStart (nextRung s) s
  else s

/-- RUNG_REACHED: the target rung is reached; a latched wake raises the module at once, a dwell of 0 goes on down (R357,
R359, R360). Whether the move exceeded its time is judged from its decision by device time; `slow` says nothing (log entry
236). -/
def execRungReached (slow : Bool) (s : State) : Host.Outcome State Fault Refusal :=
  run s (.rungReached slow)
    (if !moving s then s else
     rungReachedDo s)

-- Hold (R358) -------------------------------------------------------------------------------------------------------------------

/-- A Sync of a grandmaster's domain leaves a port by device time d. -/
def syncSoon (s : State) (d : Nat) : Bool :=
  [0, 1].any (fun e => domActive s e && domState s e == 3 && (List.range 18).any (fun p =>
    let per := logNs (rdf s (R.TIM_PORT_CFG p) 27 24)
    isPtpPort p && ptpRole s e p == 1 && link s p == 2 && decide ((s.devNs / max 1 per + 1) * per ≤ d)))

/-- A periodic resynchronisation announce is due by device time d (R326). -/
def announceSoon (s : State) (d : Nat) : Bool :=
  s.cip.slots.any (fun k =>
    let c := rd s (R.CIP_FV_CFG k)
    let period := rdf s (R.CIP_DOM_WIN (fld c 15 8)) 31 16
    c.testBit 31 && c.testBit 30 && rdb s (R.CIP_DOM_CFG (fld c 15 8)) 30 && period != 0 &&
      decide (s.cip.annNs.getD k 0 + period * 1000000 ≤ d))

/-- A scheduled item of the module is due within 20 µs: a gate change, clapper or snapshot instant, periodic PDU or
keep-alive, LIN slot, collator deadline or alarm, and what else is transmitted periodically: Syncs, announces and safe-state
frames. -/
def dueSoon (s : State) : Bool :=
  let g := s.globalNs + 20000
  let d := s.devNs + 20000
  s.sched.gates.any (fun x => x.2.list.isSome && decide (x.2.endNs ≤ g)) ||
  s.tim.clapNext.any (fun x => decide (x.2 ≤ g)) || (rdb s R.SNAP_SCHED_CFG 31 && s.tim.snapNext.any (fun t => decide (t ≤ g))) ||
  s.ports.lin.any (fun x => linCommander s (36 + x.1) && linRuns s (36 + x.1) && decide (x.2.slotNs ≤ d)) ||
  s.sge.pduX.any (fun x => (pduDue s x.1).any (fun t => decide (t ≤ d))) ||
  s.col.any (fun x => decide (rdf s (R.COL_CTX_TIMERS x.1) 15 0 ≠ 0) && !rdb s (R.COL_CTX_STATE x.1) 15 &&
    decide (x.2.lastNs + rdf s (R.COL_CTX_TIMERS x.1) 15 0 * 1000000 ≤ d)) ||
  s.nm.segs.any (fun x => segMode s x.1 == 0 && [1, 2].contains (segState s x.1) && linkState s x.1 == 0 && decide (x.2.kaDueNs ≤ d)) ||
  syncSoon s d || announceSoon s d || (inSafe s && s.rxu.frames.any (fun x => decide (x.2.dueNs ≤ d))) ||
  s.gaf.alarmNs.any (fun t => decide (t ≤ d))

/-- The entry conditions of Hold at this instant. -/
def holdConds (s : State) : Bool :=
  s.pool.copies.isEmpty && s.ing.isEmpty && s.cip.jobs.isEmpty && s.sge.jobs.all (fun x => x.2.isEmpty) &&
  s.sge.threads.all (fun x => x.2.isEmpty) && !dueSoon s

/-- They have held together for HOLD_IDLE_US: `idleNs` starts afresh with every frame, and in every cycle in which one of them
does not hold. -/
def holdReady (s : State) : Bool := decide (s.gaf.idleNs + rdf s R.GAF_DWELL0 15 0 * 1000 ≤ s.devNs) && holdConds s

/-- What execHoldEnter does. -/
def holdEnterDo (s : State) : State :=
  -- the event of entering is the move's own
    let s := raise 384 s
    let s := if rdf s R.HDMA_STATUS 31 28 = 2 then linkCode 3 s else s
    let s := inc (wrf s R.GAF_RUNG 2 0 1) (R.GAF_CNT 0)
    wrf s R.GAF_HOST 1 1 0

/-- HOLD_ENTER. -/
def execHoldEnter (s : State) : Host.Outcome State Fault Refusal :=
  run s .holdEnter
    (if s.gaf.inReset || s.gaf.resuming || moving s || decide (rung s ≠ 0) || decide (evaluated s = 0) || !holdReady s then s else
     holdEnterDo s)

/-- HOLD_EXIT_BEFORE_SCHEDULE: a scheduled item comes due within 20 µs. -/
def execHoldExitBeforeSchedule (s : State) : Host.Outcome State Fault Refusal :=
  run s .holdExitBeforeSchedule
    (if dueSoon s then holdExit s else s)

-- Resume (R356, R362) --------------------------------------------------------------------------------------------------------

/-- A port's medium is in its low-power mode after a resume. -/
def asleepShow (p : Nat) (s : State) : State :=
  if !portEnabled s p then s
  else if isEthPort p then wrf s (R.PORT_ETH_STATE p) 31 28 4
  else if isCanPort p then wrf (wrf s (R.PORT_CAN_STATE p) 31 28 9) (R.PORT_CAN_STATE p) 27 24 1
  else wrf s (R.PORT_LIN_STATE p) 31 28 3

/-- What execResumeComplete does. -/
def resumeCompleteDo (resumeDigestOk : Bool) (kt : List (Nat × Ecc)) (s0 : State) : State :=
  let s := ktRead kt s0
  if !resumeDigestOk || !s.gaf.resumeValid then
    let s := startFrom .fromDormant 5 (rdf s R.GAF_START 6 4) none s
    incRaise (R.GAF_CNT 7) 391 s
  else
    let woken := (s.nm.segs.filter (fun x => x.2.latched)).map Prod.fst
    let s := { s with gaf := { s.gaf with resuming := false, resumeValid := false } }
    let s := sheetLoad (some (scene s)) s
    let s := wrf s R.RXU_STATUS 27 24 1
    let s := forEach segList asleepShow s
    let s := forEach (bitsOf s.ports.fenced 44) fencePort s
    let s := forEach woken groupPower s
    actPast (latchedRise (forEach (List.range 4) soApply s))

/-- RESUME_COMPLETE: `resumeDigestOk`, the digest over the resume context matches; `kt`, what ECC finds in the key table (R306). -/
def execResumeComplete (resumeDigestOk : Bool) (s : State) (kt : List (Nat × Ecc) := []) : Host.Outcome State Fault Refusal :=
  run s (.resumeComplete resumeDigestOk kt)
    (if !s.gaf.resuming then s else
     resumeCompleteDo resumeDigestOk kt s)

-- Wakes (R343 to R347) ------------------------------------------------------------------------------------------------------

/-- The segment of a source, its bit of the record, its FIRST code, and its detail register and bit (R345). -/
def wakeInfo : WakeSource → Option Nat × Nat × Nat × Option (Nat × Nat)
  | .canWup n => (some (20 + n), 1, 0x10 + n, some (R.GAF_WAKE_CAN, n))
  | .canWuf n _ => (some (20 + n), 0, 0x10 + n, some (R.GAF_WAKE_CAN, n))
  | .tc10 p => (some p, 2, 0x40 + p, some (R.GAF_WAKE_ETH, p))
  | .lin m _ => (some (36 + m), 3, 0x60 + m, some (R.GAF_WAKE_LSW, m))
  | .switch k => (none, 4, 0x70 + k, some (R.GAF_WAKE_LSW, 8 + k))
  | .wakeReq => (none, 5, 0x80, none)
  | .alarm => (none, 6, 0x81, none)

/-- The module left Sleep or below in this very tick: a second wake is one of the same tick (R369). -/
def wakeTick (s : State) : Bool := decide (3 ≤ rdf s R.GAF_START 2 0) && tickOf s == s.survey.t0Ns / 1000 && rung s == 0

/-- The listener or input of a source is there and powered at the present rung (R343, R256, R366, R367). -/
def wakeSeen (s : State) (src : WakeSource) : Bool :=
  match src with
  | .switch k =>
    if wakeTick s then s.nm.listenSw.contains k
    else rdf s (R.GAF_SW_CFG k) 31 30 != 0 && decide (2 ≤ rung s ∨ moving s = true) && swUsed s k
  | .wakeReq => decide (rung s ≠ 5)
  | .alarm => decide (2 ≤ rung s) || wakeTick s
  | _ => (segListens s src).isSome

/-- Port counters and causes of a detection: TC10_WAKE_RX with cause 8, WAKE_RX with cause 6 (R236, R247, R267). -/
def wakeCount (src : WakeSource) (s : State) : State :=
  match src with
  | .tc10 p => portCause p 8 false (inc s (R.PORT_ETH_CNT p 19))
  | .lin m _ => portCause (36 + m) 6 false (inc s (R.PORT_LIN_CNT (36 + m) 13))
  | _ => s

/-- A detection is latched and recorded, and wakes its segment and the module (R345, R347, R360, R361). -/
def wakeTake (src : WakeSource) (s : State) : State :=
  let i := wakeInfo src
  let fw := match i.1 with
    | some p => fwSource p
    | none => 64
  if fw < 36 ∧ (cnt s R.GAF_WAKE_SUPP).testBit fw = true then
    let s := setBits R.GAF_WAKE_REC 0x200 s
    match i.1 with
    | some p => inc s (R.GAF_NM_CNT p 11)
    | none => s
  else
    let s := setBits R.GAF_WAKE_REC (2 ^ i.2.1) s
    let s := match i.2.2.2 with
      | some (a, b) => setBits a (2 ^ b) s
      | none => s
    let up := decide (rung s ≤ 1) && !moving s
    let s := if fw = 63 ∨ (up = true ∧ i.1.isNone = true) then s else { s with nm := { s.nm with judge := s.nm.judge ++ [(fw, s.devNs)] } }
    let s := wakeCount src s
    let s := match i.1 with
      | some p =>
        if up && !s.gaf.resuming then (if p ≤ 11 ∧ segCommitted s p = true then tc10Refused p s else segWake p 0 s)
        else segLatch p 0 s
      | none => s
    -- FIRST takes the lower code of two sources in one tick (R369)
    let s := if wakeTick s && decide (i.2.2.1 < rdf s R.GAF_WAKE_REC 23 16) then wrf s R.GAF_WAKE_REC 23 16 i.2.2.1 else s
    if up then (if rung s = 1 then holdExit s else s)
    else
      let was := rung s
      let s := wakeRequest i.2.2.1 s
      if rung s = 0 ∧ (was ≤ 2) then latchedRise s else s

/-- A wake-up that port p receives while its segment is awake: it is counted, and wakes nothing (R236). -/
def wakeAwake (src : WakeSource) (s : State) : State :=
  match src with
  | .tc10 p => if (segListen s p).any (fun x => x.2 && (decide (rung s ≤ 3) || x.1.testBit 29)) then wakeCount src s else s
  | _ => s

/-- WAKE_DETECTED. -/
def execWakeDetected (src : WakeSource) (s : State) : Host.Outcome State Fault Refusal :=
  run s (.wakeDetected src)
    (if s.gaf.inReset then s else if wakeSeen s src then wakeTake src s else wakeAwake src s)

/-- What execSwWakePoll does. -/
def swWakePollDo (k : Nat) (mv : Nat) (s : State) : State :=
  if !swDisagrees s k mv then { s with ports := { s.ports with swPolls := s.ports.swPolls.put k 0 } }
  else
    let n := s.ports.swPolls.getD k 0 + 1
    let s := { s with ports := { s.ports with swPolls := s.ports.swPolls.put k (if 2 ≤ n then 0 else n) } }
    if 2 ≤ n then wakeTake (.switch k) s else s

/-- SW_WAKE_POLL: below Doze an input is polled; the second poll in a row that disagrees wakes (R256). -/
def execSwWakePoll (k mv : Nat) (s : State) : Host.Outcome State Fault Refusal :=
  run s (.swWakePoll k mv)
    (if s.gaf.inReset || decide (rung s < 3) || !swUsed s k || rdf s (R.GAF_SW_CFG k) 31 30 == 0 then s else
     swWakePollDo k mv s)

/-- What execWakeReqNFall does. -/
def wakeReqNFallDo (low : Bool) (s : State) : State :=
  let s := wakeTake .wakeReq s
  wrf s R.GAF_HOST 2 2 (if low then 0 else 1)

/-- WAKE_REQ_N_FALL: the pin's level, and the wake (R357, R366). -/
def execWakeReqNFall (low : Bool) (s : State) : Host.Outcome State Fault Refusal :=
  run s (.wakeReqNFall low)
    (if s.gaf.inReset || !wakeSeen s .wakeReq then s else
     wakeReqNFallDo low s)

-- Host writes and pins (R357, R366, R367) -------------------------------------------------------------------------------------

/-- A host access in Hold or Doze raises the module to Run first (R366, R369); one that meets a move past its commit point
completes once the rung has been reached and the module has risen, which the access does not wait for here (DESIGN CHOICE, log
entry 253). -/
def hostRaise (req : Requester) (s : State) : State :=
  if !reqIsHost req then s
  else if moving s && !committed s then moveAbort s
  else if moving s then rungReachedDo { s with gaf := { s.gaf with latched := true } }
  else if rung s = 1 then holdExit s else if rung s = 2 ∧ moving s = false then dozeExit s else s

/-- The register map is not served: held in reset; to the host below Doze; to the cluster and the safety pair from Doze on,
where the fabric is off (R354, R455). -/
def unserved (req : Requester) (s : State) : Bool :=
  s.gaf.inReset || (if reqIsHost req then decide (2 < rung s) else decide (2 ≤ rung s))

/-- A register access of `req` and its meaning `f`: a host access first raises the module from Hold or Doze (R366, R455). -/
def access (req : Requester) (f : State → State) (s : State) : State := if unserved req s then s else f (hostRaise req s)

/-- GAF_RUNG_LIMIT written: codes above 5 are ignored, reported DENIED. -/
def gafRungLimitDo (req : Requester) (val : Word) (s : State) : State :=
  let v := val.toNat % 8
  if 5 < v then deniedWrite req R.GAF_RUNG_LIMIT s else wr s R.GAF_RUNG_LIMIT v

/-- HOST_WAKE_ACK written. -/
def hostWakeAckDo (val : Word) (s : State) : State :=
  if val.toNat.testBit 0 then wrf (wrf s R.GAF_HOST 1 1 0) R.GAF_CMD_STATUS 7 0 0 else s

/-- HOST_WAKE_TIMEOUT: HOST_WAKE_MS from its rise, by the value in force (R366). -/
def execHostWakeTimeout (s : State) : Host.Outcome State Fault Refusal :=
  run s .hostWakeTimeout
    (hostWakeEnd s)

/-- What execAlarmFire does. -/
def alarmFireDo (s : State) : State :=
  let s := inc (alarmSet (rd s R.GAF_ALARM_PERIOD) s) (R.GAF_CNT 10)
  let s := if wakeSeen s .alarm || moving s then wakeTake .alarm s else s
  raise 388 s

/-- ALARM_FIRE: source 388, ALARMS; armed again with ALARM_PERIOD_S; below Hold a wake, in Run and Hold nothing else. -/
def execAlarmFire (s : State) : Host.Outcome State Fault Refusal :=
  run s .alarmFire
    (if s.gaf.inReset || !s.gaf.alarmNs.any (fun t => decide (t ≤ s.devNs)) then s else
     alarmFireDo s)

/-- What execLowBattCheck does. -/
def lowBattCheckDo (mv : Nat) (s : State) : State :=
  if rdf s R.GAF_BATT 31 16 ≤ mv then { s with gaf := { s.gaf with lowBatt := 0 } }
  else
    let n := s.gaf.lowBatt + 1
    if n < rdf s R.GAF_BATT 15 0 then { s with gaf := { s.gaf with lowBatt := n } }
    else
      let s := { s with gaf := { s.gaf with lowBatt := 0, lowBattOwed := true } }
      moveStart 5 (inc s (R.GAF_CNT 9))

/-- A wake that is seen and not suppressed waits at this instant. -/
def wakePends (s : State) : Bool :=
  s.pending.any (fun c => match c with
    | .wakeDetected src => wakeSeen s src && match (wakeInfo src).1 with
      | some p => !(cnt s R.GAF_WAKE_SUPP).testBit (fwSource p)
      | none => true
    | .wakeReqNFall _ => wakeSeen s .wakeReq
    | .alarmFire => s.gaf.alarmNs.any (fun t => decide (t ≤ s.devNs))
    | .swWakePoll k mv => swUsed s k && swDisagrees s k mv && decide (1 ≤ s.ports.swPolls.getD k 0)
    | _ => false)

/-- LOW_BATT_CHECK: every 1 s in Sleep and Watch; after LOW_BATT_S consecutive seconds the module moves to Dormant (R368), but
a wake of the same instant applies (R369). -/
def execLowBattCheck (mv : Nat) (s : State) : Host.Outcome State Fault Refusal :=
  run s (.lowBattCheck mv)
    (if s.gaf.inReset || !(rung s == 3 || rung s == 4) || moving s || rdf s R.GAF_BATT 31 16 == 0 || wakePends s then s else
     lowBattCheckDo mv s)

end Sys2Proof.Machine
end

