-- ==== Sys2Proof/Machine/Update.lean ====
section
/-! DEFINITION. Updates and attestation (chapter 17): sessions, downloads, verification, activation, trials, the UDS, DoIP
and Stohal sources, compatibility mode and attestation reports. -/

namespace Sys2Proof.Machine

-- Sessions (R437) -----------------------------------------------------------------------------------------------------------

/-- SESSION: 0 none, 1 host, 2 DoIP, 3 UDS on CAN, 4 Stohal, 5 compatibility. -/
def sess (s : State) : Nat := rdf s R.UPD_STATUS 23 20

/-- The source that holds the session; compatibility mode is the Stohal source's. -/
def sessOwner (s : State) : Nat := if sess s = 5 then 4 else sess s

/-- The source is served: SOURCES of the policy, or the update ports of LOADER_ONLY (R444, R445). -/
def srcAllowed (src : Nat) (s : State) : Bool :=
  if loaderOnly s then (src == 4 || (src == 1 && s.upd.recovery)) else (rdf s R.UPD_POLICY 23 16).testBit (src - 1)

def busyReply (s : State) : State := inc s (R.UPD_CNT 11)

/-- The source has been heard. -/
def sessHeard (src : Nat) (s : State) : State :=
  if sessOwner s = src then { s with upd := { s.upd with sessNs := s.devNs } } else s

/-- The source whose request to open the session a command is (R437). -/
def sessAsk (c : Instr) : Option Nat :=
  match c with
  | .updOpen _ => some 1
  | .udsSessionControl doip 2 => some (if doip then 2 else 3)
  | .stohalOpen _ => some 4
  | _ => none

/-- A source of higher rank asks in the same tick: host, DoIP, UDS on CAN, Stohal (R437). -/
def sessOvertaken (src : Nat) (s : State) : Bool :=
  s.pending.any (fun c => (sessAsk c).any (fun k => decide (k < src) && srcAllowed k s))

/-- Open the session for a source: the status code. -/
def sessOpen (src : Nat) (s : State) : Nat × State :=
  if !srcAllowed src s then (2, s)
  else if sessOwner s = src then (0, sessHeard src s)
  else if sess s ≠ 0 || sessOvertaken src s then (1, busyReply s)
  else
    -- a load that ends a compatibility overwrite shows as compatibility mode (R443)
    let shown := if src = 4 ∧ loaderOnly s = true ∧ s.upd.recovery = false then 5 else src
    let s := raise 480 (inc (wrf s R.UPD_STATUS 23 20 shown) (R.UPD_CNT 0))
    (0, { s with upd := { s.upd with sessNs := s.devNs, buf := [], next := 0, spoiled := false, dl := none, envelope := false } })

/-- The session ends. -/
def sessEnd (s : State) : State :=
  if sess s = 0 then s else
  let s := raise 480 (wrf s R.UPD_STATUS 23 20 0)
  { s with upd := { s.upd with buf := [], next := 0, spoiled := false, dl := none, envelope := false } }

/-- A command that needs the session: 0, or DENIED or BUSY. -/
def sessNeed (src : Nat) (s : State) : Nat × State :=
  if !srcAllowed src s then (2, s)
  else if sess s = 0 then (2, s)
  else if sessOwner s ≠ src then (1, busyReply s) else (0, sessHeard src s)

/-- The result of an update command: LAST_RESULT; DENIED raises 483 (R453). -/
def updResult (code : Nat) (s : State) : State :=
  let s := wrf s R.UPD_STATUS 31 24 code
  if code = 2 then raise 483 s else s

/-- An answer to a source: DoIP from the module's logical address to its tester; UDS on CAN on UDS_CHANNEL with UDS_TX_ID;
Stohal on C0 with identifier 0x6F1; either at the channel's nominal rate (R439, R441). -/
def chanOut (src : Nat) (b : List Byte) (s : State) : State :=
  if src = 2 then emit (.doip (rd s R.UPD_UDS_RX % 65536) (s.upd.tester.getD 0) b) s
  else
    let n := if src = 4 then 0 else rdf s R.UPD_POLICY 31 24 % 16
    emit (.canAnswer n (if src = 4 then 0x6F1 else rd s R.UPD_UDS_TX) (nomPs s (20 + n)) b) s

/-- The negative response code of a status code (R440); one that the table does not give is a free value. -/
def nrcOf (code : Nat) (s : State) : Nat × State :=
  if code = 1 then (0x21, s) else if code = 2 then (0x22, s)
  else if code = 4 ∨ code = 11 then (0x70, s)
  else if code = 12 ∨ code = 5 then (0x72, s)
  else let f := free s; (f.1 % 256, f.2)

def byteOf (n : Nat) : Byte := BitVec.ofNat 8 n

/-- UDS: a negative response. -/
def udsNeg (src sid nrc : Nat) (s : State) : State := chanOut src [0x7F, byteOf sid, byteOf nrc] s

/-- UDS: a positive response, or the negative one of a status code. -/
def udsResult (src sid code : Nat) (pos : List Byte) (s : State) : State :=
  if code = 0 then chanOut src pos s
  else
    let n := nrcOf code s
    udsNeg src sid n.1 n.2

/-- A Stohal response (R441). -/
def stohalOut (op code : Nat) (s : State) : State :=
  chanOut 4 ([byteOf (op + 0x80), byteOf code] ++ beBytes (rd s R.UPD_RESUME) 4 ++ [0, 0]) s

/-- The host's result register. -/
def hostResult (code : Nat) (s : State) : State := wr (updResult code s) R.UPD_CMD_STATUS code

-- Download (R427, R428) -------------------------------------------------------------------------------------------------------

/-- A download may begin (R427, R445). -/
def dlAllowed (s : State) : Bool := loaderOnly s || (takeNo (activeTake s) s).mark == 5

/-- First chunk index without a log page; a take that is complete, or that is none of states 0 to 3, starts at 0 only. -/
def resumeIndex (s : State) : Option Nat :=
  let t := takeNo (loadTake s) s
  if t.mark = 0 ∨ t.mark = 7 then (if t.whole then none else some t.chunks) else none

/-- Length that the chunk of index i must have; chunk 0 is always whole (R423, R438). -/
def chunkLen (i : Nat) (s : State) : Nat :=
  if i = 0 then 65536 else min 65536 (slImageLen (takeNo (loadTake s) s).image - 65536 * i)

/-- The chunk of index i ends the image. -/
def chunkLast (i : Nat) (b : List Byte) (s : State) : Bool :=
  let len := if i = 0 then slImageLen b else slImageLen (takeNo (loadTake s) s).image
  decide (len ≤ 65536 * (i + 1))

/-- Take k is erased: OVERWRITING stays in compatibility mode. Where the boot-pointer record said more of it, or it was armed, a new
record follows (R420, R427). -/
def takeErase (k : Nat) (s : State) : State :=
  let armed := rdb s R.UPD_STATUS 1 && k != activeTake s
  let old := recState (takeNo k s)
  let s := setTake k { emptyTake with mark := if loaderOnly s && !s.upd.recovery then 7 else 0 } (if armed then disarm s else s)
  if armed || recState (takeNo k s) != old then bpWrite s else s

/-- Take k becomes INVALID in a new boot-pointer record (R425, R427, R429). -/
def takeInvalid (k : Nat) (s : State) : State := bpWrite (setTake k { takeNo k s with mark := 6 } s)

/-- A chunk goes to NAND: 0 while it programs, else the status code (R428, R438). -/
def chunkStart (src i : Nat) (b : List Byte) (s : State) : Nat × State :=
  let reject (code : Nat) : Nat × State := (code, inc s (R.UPD_CNT 2))
  if s.upd.prog.isSome || s.upd.verifying.isSome then (1, busyReply s)
  else if !dlAllowed s then reject 2
  else if i ≠ 0 ∧ resumeIndex s ≠ some i then reject 2
  else if b.length ≠ chunkLen i s ∨ b.isEmpty = true then reject 2
  else
    -- offset 0 erases the take first; in compatibility mode the take stays OVERWRITING
    let k := loadTake s
    let old := takeNo k s
    let s := if i = 0 ∧ (old.chunks ≠ 0 ∨ old.mark ≠ 0 ∨ old.factory = true) then takeErase k s else s
    (0, { s with upd := { s.upd with prog := some (b, chunkLast i b s, src) } })

/-- Report the end of a chunk to its source. -/
def chunkReport (src code : Nat) (s : State) : State :=
  let s := updResult code s
  if src = 1 then wr s R.UPD_CMD_STATUS code
  else if src = 4 then stohalOut 3 code s
  else
    if s.upd.exiting then udsResult src 0x37 code [0x77] { s with upd := { s.upd with exiting := false, dl := none } } else udsResult src 0x36 code [0x76, byteOf (s.upd.next + 255)] s

/-- What the offer in chunk 0 and a UDS download's announced size make of the chunk (R425, R439). -/
def offerCode (src : Nat) (b : List Byte) (s : State) : Nat :=
  let c := offerCheck s.upd.recovery (loaderOnly s && !s.upd.recovery) b s
  if c ≠ 0 then c
  else if (src = 2 ∨ src = 3) ∧ s.upd.dl ≠ some (slImageLen b) then 2 else 0

/-- A chunk has been read back and its SHA-256 has its log page: the take grows; chunk 0 is checked as the offer (R425, R428). -/
def chunkDone (b : List Byte) (last : Bool) (src : Nat) (s : State) : State :=
  let k := loadTake s
  let t := takeNo k s
  let first := t.chunks == 0
  let s := { s with upd := { s.upd with prog := none } }
  let s := inc (setTake k { t with image := t.image ++ b, log := t.log ++ [Config.sha256 b], whole := last, verified := false } s) (R.UPD_CNT 1)
  let code := if first then offerCode src b s else 0
  if code ≠ 0 then
    let s := if t.mark = 7 then setTake k { emptyTake with mark := 7 } s else takeInvalid k s
    let s := raise 483 (inc s (R.UPD_CNT 3))
    chunkReport src code s
  else chunkReport src 0 (if last then raise 481 s else s)

/-- A block that failed to program or erase is retired and replaced from the spare area (R418); source 491 and line 82 below 64
spare blocks (R453). -/
def blockRetire (s : State) : State :=
  let spare := rdf s R.UPD_NAND 15 0 - 1
  let s := inc (wrf s R.UPD_NAND 31 16 (rdf s R.UPD_NAND 31 16 + 1)) (R.UPD_CNT 14)
  let s := wrf s R.UPD_NAND 15 0 spare
  if spare < 64 then raiseLine 491 82 s else s

/-- What execChunkCommitted does. -/
def chunkCommittedDo (programOk : Bool) (lost : Nat) (s : State) : State :=
  let s := forEach (List.range lost) (fun _ => blockRetire) s
  match s.upd.prog with
  | none => s
  | some (b, last, src) =>
    if programOk then chunkDone b last src s
    else
      let full := decide (rdf s R.UPD_NAND 15 0 = 0)
      let s := blockRetire s
      if full then chunkReport src 4 { s with upd := { s.upd with prog := none } } else s

/-- CHUNK_COMMITTED: the chunk has been programmed and read back; where that failed its block is replaced from the spare area, and
the program goes on there. `lost` other blocks have failed since, of erases, log pages and records (R418, R428). -/
def execChunkCommitted (programOk : Bool) (s : State) (lost : Nat := 0) : Host.Outcome State Fault Refusal :=
  run s (.chunkCommitted programOk lost)
    (chunkCommittedDo programOk lost s)

-- Verification (R429, R443, R445) ------------------------------------------------------------------------------------------------

/-- Stages 1 to `n` of R408 on a take's call sheet: 0, or the failing stage's code. -/
def sheetStages (n k : Nat) (s : State) : Nat :=
  let t := takeNo k s
  let oem := if rd s (R.UPD_FLOOR 0) = 0 then vbOem t.image else rd s (R.UPD_FLOOR 0)
  match takeSheet t with
  | none => 2
  | some b =>
    if n ≤ 4 then
      match stages1to4 b (vbOemKey t.image) oem (rd s (R.UPD_FLOOR 2)) with
      | some e => e.code
      | none => 0
    else
      match validateSheet false b (vbOemKey t.image) (vbCompatKey t.image) oem (rd s (R.UPD_FLOOR 2))
          (survive .moduleReset s) with
      | .error e => if e.stage ≤ n then e.code else 0
      | .ok _ => 0

/-- Verification of take k: 0, or the code of the first failure. -/
def verifyCode (k : Nat) (s : State) : Nat :=
  let t := takeNo k s
  let compat := loaderOnly s && !s.upd.recovery
  if compat ∧ Config.sha256 t.image ≠ s.upd.compatDigest then 12
  else
    let c := offerCheck s.upd.recovery compat t.image s
    if c ≠ 0 then c else if !partsIntact t.image then 12 else sheetStages 4 k s

/-- A verification may start: a whole take that is neither active nor a fallback. -/
def verifyReady (s : State) : Bool :=
  let t := takeNo (loadTake s) s
  t.whole && (t.mark == 0 || t.mark == 7) && !s.upd.prog.isSome

/-- Start a verification for a source: 0 while it runs. -/
def verifyStart (src : Nat) (s : State) : Nat × State :=
  if s.upd.verifying.isSome then (1, busyReply s)
  else if !verifyReady s then (2, s)
  else (0, { (inc s (R.UPD_CNT 4)) with upd := { (inc s (R.UPD_CNT 4)).upd with verifying := some src } })

/-- A module reset is due at the next tick boundary; a session ends. -/
def resetDue (s : State) : State :=
  let s := sessEnd s
  { s with upd := { s.upd with restart := some (nextTick s) } }

/-- A controlled restart, by RESTART or ECUReset: a pending activation is made first (R436, R450). -/
def restartDue (s : State) : State :=
  let s := sessEnd s
  resetDue (if flipReady s then flip s else s)

/-- The load that ends LOADER_ONLY: take k CONFIRMED and ACTIVE, the other take INVALID where the load was a recovery,
then the floor, and a restart (R443, R445). -/
def loaderLeave (k : Nat) (s : State) : State :=
  let s := setTake k { takeNo k s with mark := 5 } s
  let s := if s.upd.recovery then setTake (1 - k) { takeNo (1 - k) s with mark := 6 } s else s
  let s := setActive k (wrf s R.UPD_STATUS 3 3 0)
  let s := bpWrite { s with upd := { s.upd with recovery := false, compatDigest := [] } }
  resetDue (floorWrite k s)

/-- Report the end of a verification to its source. -/
def verifyReport (src code : Nat) (s : State) : State :=
  let s := updResult code s
  if src = 1 then wr s R.UPD_CMD_STATUS code
  else if src = 4 then stohalOut 4 code s
  else
    let s := { s with upd := { s.upd with routine := s.upd.routine.put 0x0210 code } }
    udsResult src 0x31 code [0x71, 0x01, 0x02, 0x10, byteOf code] s

/-- The verification of an armed take after a start ends: a failure disarms it, source 488 (R434). -/
def armedVerified (code : Nat) (s : State) : State :=
  if code = 0 then actPast s else raise 488 (bpWrite (disarm (wrf s R.UPD_STATUS 31 24 code)))

/-- What execTakeVerifyDone does. -/
def takeVerifyDoneDo (src : Nat) (s : State) : State :=
  let k := loadTake s
  let code := verifyCode k s
  let s := { s with upd := { s.upd with verifying := none } }
  let t := takeNo k s
  let s := if code = 0 then setTake k { t with verified := true } s
    else if t.mark = 7 then inc s (R.UPD_CNT 5) else inc (takeInvalid k s) (R.UPD_CNT 5)
  let s := raise 482 s
  if src = 0 then armedVerified code s
  else
    let s := verifyReport src code s
    -- END of a load in LOADER_ONLY activates it, in compatibility mode and in recovery
    if code = 0 ∧ loaderOnly s = true ∧ src = 4 then loaderLeave k s else s

/-- TAKE_VERIFY_DONE. -/
def execTakeVerifyDone (s : State) : Host.Outcome State Fault Refusal :=
  run s .takeVerifyDone
    (match s.upd.verifying with
     | none => s
     | some src =>
     if src = 0 ∧ startDone s = false then s else
     takeVerifyDoneDo src s)

-- Activation, confirmation (R430 to R433, R435) -------------------------------------------------------------------------------------

/-- The inactive take's state lets it be activated. -/
def actReady (s : State) : Bool := takeCode (takeNo (loadTake s) s) == 3 && dlAllowed s

/-- Arm a TIMED take; a time already past is handled at once (R435, R436). -/
def arm (s : State) : State :=
  let b := (takeNo (1 - activeTake s) s).image
  let s := wr (wrq (wrf s R.UPD_STATUS 1 1 1) R.UPD_ACT_TIME (slActSec b)) R.UPD_ACT_NS (slActNs b)
  actPast (bpWrite { s with upd := { s.upd with atTimeOnly := slAtTimeOnly b, pendingRestart := false, prepared := false, crossed := false } })

/-- ACTIVATE: the status code. In compatibility mode no command activates; in recovery a TIMED list is activated at once. -/
def activate (s : State) : Nat × State :=
  if s.upd.verifying.isSome || s.upd.prog.isSome then (1, busyReply s)
  else if !actReady s then (2, s)
  else if loaderOnly s then (if s.upd.recovery then (0, loaderLeave (loadTake s) s) else (2, s))
  else if slTimed (takeNo (1 - activeTake s) s).image then (0, arm s)
  else (0, sessEnd (flip s))

/-- The trial clock has reached TRIAL_S. -/
def trialOver (s : State) : Bool := decide (rd s R.UPD_TRIAL_S ≤ rd s R.UPD_TRIAL)

/-- The active take is in TRIAL. -/
def inTrial (s : State) : Bool := (takeNo (activeTake s) s).mark == 4

/-- The confirm record is written; FLOOR_PENDING stands until the floor record is, which is the next thing the module does
(R433). -/
def confirmTake (s : State) : State :=
  let a := activeTake s
  let s := bpWrite (setTake a { takeNo a s with mark := 5 } s)
  inc (wrf s R.UPD_STATUS 2 2 1) (R.UPD_CNT 7)

/-- The floor record that follows a confirm record (R433); power lost in between leaves it to the next start (R421). -/
def floorTick (s : State) : State :=
  if rdb s R.UPD_STATUS 2 && !s.gaf.inReset then floorWrite (activeTake s) s else s

/-- CONFIRM: the status code (R432, R450). -/
def confirm (s : State) : Nat × State :=
  if !inTrial s || !s.upd.bootGood || trialOver s then (2, s) else (0, confirmTake s)

/-- DISCARD of the inactive take: the status code (R439). -/
def discard (s : State) : Nat × State :=
  if (takeNo 0 s).mark = 4 ∨ (takeNo 1 s).mark = 4 ∨ (loaderOnly s = true ∧ s.upd.recovery = false) then (2, s)
  else if s.upd.prog.isSome || s.upd.verifying.isSome then (1, busyReply s)
  else
    (0, takeErase (loadTake s) s)

-- Commands of the host mailbox (R437, R438) ------------------------------------------------------------------------------------------

/-- A command of the host that needs the session and ends later: nothing shows until then but a refusal (R438). -/
def hostStarts (f : State → Nat × State) (s : State) : State :=
  let n := sessNeed 1 s
  if n.1 ≠ 0 then hostResult n.1 n.2
  else
    let r := f n.2
    if r.1 = 0 then r.2 else hostResult r.1 r.2

/-- A command of the host that needs the session, with its own status code. -/
def hostCommand (f : State → Nat × State) (s : State) : State :=
  let n := sessNeed 1 s
  if n.1 ≠ 0 then hostResult n.1 n.2
  else
    let r := f n.2
    hostResult r.1 r.2

/-- UPD_OPEN. -/
def updOpenDo (s : State) : State :=
  (let r := sessOpen 1 s; hostResult r.1 r.2)

/-- UPD_CLOSE. -/
def updCloseDo (s : State) : State :=
  (hostCommand (fun s => (0, sessEnd s)) s)

/-- Bytes of UPD_BUF, in the order of their addresses. -/
def bufBytes (s : State) (n : Nat) : List Byte :=
  ((List.range (ceilDiv n 4)).flatMap (fun w => leBytes (rd s (R.UPD_BUF + 4 * w)) 4)).take n

/-- UPD_COMMIT: the chunk in UPD_BUF. -/
def updCommitDo (s : State) : State :=
  (hostStarts (fun s => chunkStart 1 (rdf s R.UPD_CHUNK 31 20) (bufBytes s (min 65537 (rdf s R.UPD_CHUNK 16 0))) s) s)

/-- UPD_VERIFY. -/
def updVerifyDo (s : State) : State :=
  (hostStarts (verifyStart 1) s)

/-- UPD_ACTIVATE. -/
def updActivateDo (s : State) : State :=
  (hostCommand activate s)

/-- UPD_CONFIRM. -/
def updConfirmDo (s : State) : State :=
  (hostCommand confirm s)

/-- UPD_DISCARD. -/
def updDiscardDo (s : State) : State :=
  (hostCommand discard s)

/-- UPD_RESTART (R436). -/
def updRestartDo (s : State) : State :=
  (hostCommand (fun s => (0, restartDue s)) s)

/-- What execSessionTimeout does. -/
def sessionTimeoutDo (s : State) : State :=
  let lim := if sess s = 2 ∨ sess s = 3 then 5000000000 else 2000000000
  if 2 ≤ sess s ∧ s.upd.sessNs + lim ≤ s.devNs then sessEnd s else s

/-- SESSION_TIMEOUT: 5,000 ms without a UDS request, 2,000 ms without a Stohal frame (R437). -/
def execSessionTimeout (s : State) : Host.Outcome State Fault Refusal :=
  run s .sessionTimeout
    (sessionTimeoutDo s)

-- Trials and timed activation (R431, R432, R435) -----------------------------------------------------------------------------------------

/-- MODULE_RESET: a restart is made at the tick boundary that it waits for; it is a start (R356, R430). -/
def execModuleReset (s : State) : Host.Outcome State Fault Refusal :=
  run s .moduleReset
    (if s.upd.restart.any (fun t => decide (t ≤ s.devNs)) && !s.gaf.inReset then startFrom .moduleReset 2 (rdf s R.GAF_START 6 4) none s else s)

/-- What execBootGood does. -/
def bootGoodDo (s : State) : State :=
  let s := { s with upd := { s.upd with bootGood := true } }
  if inTrial s then bpWrite (wr s R.UPD_ATTEMPTS 0) else s

/-- BOOT_GOOD: tS reached with IN_FORCE ACTIVE, and Lyesh running within 60 s of t0; it writes ATTEMPTS 0. -/
def execBootGood (s : State) : Host.Outcome State Fault Refusal :=
  run s .bootGood
    (if startDone s && rdf s R.UPD_SHEET_STATUS 19 18 == 0 && decide (s.devNs ≤ s.survey.t0Ns + 60000000000) then bootGoodDo s else s)

/-- TRIAL_CLOCK_SAVE: every 600 s of the trial clock. -/
def execTrialClockSave (s : State) : Host.Outcome State Fault Refusal :=
  run s .trialClockSave
    (if inTrial s ∧ s.upd.clockSaved + 600 ≤ rd s R.UPD_TRIAL then trialSave s else s)

/-- TRIAL_DEADLINE: reversion, and a restart. -/
def execTrialDeadline (s : State) : Host.Outcome State Fault Refusal :=
  run s .trialDeadline
    (if inTrial s && trialOver s then resetDue (revert s) else s)

/-- AUTO_CONFIRM (R432); an entry into safe state in the same tick comes first (R450). -/
def execAutoConfirm (s : State) : Host.Outcome State Fault Refusal :=
  run s .autoConfirm
    (if inTrial s && !trialOver s && rdf s R.UPD_POLICY 7 0 == 1 && decide (rd s R.UPD_AUTO_S ≤ rd s R.UPD_TRIAL) &&
        s.upd.bootGood && !s.upd.trialSafe && !(safeAsserts s && !inSafe s) then confirmTake s else s)

/-- The time of an armed take is checked: awake enough, with a clock, and not left to a restart already. -/
def actChecked (s : State) : Bool :=
  rdb s R.UPD_STATUS 1 && actClock s && decide (rung s ≤ 2) && !s.upd.pendingRestart && !s.gaf.inReset && !s.gaf.resuming

/-- Preparation: stages 1 to 8 of R408 on the new take's sheet; a failure disarms with its code, source 488. -/
def prepare (s : State) : State :=
  if s.upd.prepared then s else
  let code := sheetStages 8 (1 - activeTake s) s
  if code = 0 then { s with upd := { s.upd with prepared := true } }
  else raise 488 (bpWrite (disarm (wrf s R.UPD_STATUS 31 24 code)))

/-- ACT_PREPARE: at ACT_TIME less 2 s. -/
def execActPrepare (s : State) : Host.Outcome State Fault Refusal :=
  run s .actPrepare
    (if actChecked s && decide (actTimeNs s ≤ s.globalNs + 2000000000) then prepare s else s)

/-- A device tick boundary fell into the cycle that ends now: it is taken there (R269). After a sleep boundaries may fall
inside a cycle. -/
def tickEdge (s : State) : Bool := decide (s.devNs % 1000 < 8)

/-- Global time at the last device tick boundary. -/
def edgeGlobal (s : State) : Nat := s.globalNs - s.devNs % 1000

/-- What execActTimeReached does. A tick adds at most 1,001 ns of global time under its corrections (R276), so that one less than
that past ACT_TIME is the first at or after it. -/
def actTimeReachedDo (s : State) : State :=
  if s.upd.crossed || decide (edgeGlobal s < actTimeNs s + 1001) then
    let s := prepare s
    if !rdb s R.UPD_STATUS 1 then s
    else
      let s := if rung s = 1 then holdExit s else if rung s = 2 then dozeExit s else s
      flip (sessEnd s)
  else actPast s

/-- ACT_TIME_REACHED: the flip at the first device tick at or after ACT_TIME, or at once after a forward step across it; a
time found further past is handled by AT_TIME_ONLY (R435, R436). -/
def execActTimeReached (s : State) : Host.Outcome State Fault Refusal :=
  run s .actTimeReached
    (if !actChecked s || !tickEdge s || (decide (edgeGlobal s < actTimeNs s) && !s.upd.crossed) || takeCode (takeNo (1 - activeTake s) s) != 3 then s else
     actTimeReachedDo s)

-- UDS on CAN and DoIP (R439, R440) ----------------------------------------------------------------------------------------------------------

/-- The source of a UDS request. -/
def udsSrc (doip : Bool) : Nat := if doip then 2 else 3

/-- A DoIP request is heard only after routing activation; a request keeps its session alive, and one of a source that SOURCES
leaves out is answered DENIED (R437, R440). In LOADER_ONLY no port carries a request (R444). -/
def udsRequest (doip : Bool) (sid : Nat) (f : Nat → State → State) (s : State) : State :=
  let src := udsSrc doip
  if loaderOnly s || (doip && s.upd.tester.isNone) then s
  else if !srcAllowed src s then udsNeg src sid 0x22 (updResult 2 s)
  else f src (sessHeard src s)

/-- The source is in its programming session; else the request is answered 0x7F. -/
def udsIn (src sid : Nat) (f : State → State) (s : State) : State :=
  if sessOwner s = src then f s else udsNeg src sid 0x7F s

/-- What execDoipRoutingActivation does. -/
def doipRoutingActivationDo (tester : Nat) (s : State) : State :=
  if loaderOnly s = true then s
  else if 0x0E00 ≤ tester ∧ tester ≤ 0x0FFF then
    chanOut 2 [0x10] { s with upd := { s.upd with tester := some tester } }
  else emit (.doip (rd s R.UPD_UDS_RX % 65536) tester [0x00]) s

/-- DOIP_ROUTING_ACTIVATION: tester addresses 0x0E00 to 0x0FFF; response codes of ISO 13400-2. -/
def execDoipRoutingActivation (tester : Nat) (s : State) : Host.Outcome State Fault Refusal :=
  run s (.doipRoutingActivation tester)
    (doipRoutingActivationDo tester s)

/-- What execUdsSessionControl does. -/
def udsSessionControlDo (doip : Bool) (sub : Nat) (s : State) : State :=
  udsRequest doip 0x10 (fun src s =>
    let pos (s : State) : State := let f := free s; chanOut src ([0x50, byteOf sub] ++ beBytes f.1 4) f.2
    if sub = 1 then pos (if sessOwner s = src then sessEnd s else s)
    else if sub = 2 then
      let r := sessOpen src s
      let s := updResult r.1 r.2
      if r.1 = 0 then pos s else udsResult src 0x10 r.1 [] s
    else udsNeg src 0x10 0x12 s) s

/-- UDS_SESSION_CONTROL. The four timing bytes of the response are free values. -/
def execUdsSessionControl (doip : Bool) (sub : Nat) (s : State) : Host.Outcome State Fault Refusal :=
  run s (.udsSessionControl doip sub)
    (udsSessionControlDo doip sub s)

/-- What execUdsEcuReset does. -/
def udsEcuResetDo (doip : Bool) (sub : Nat) (s : State) : State :=
  udsRequest doip 0x11 (fun src s =>
    if sub ≠ 1 then udsNeg src 0x11 0x12 s
    else if sess s ≠ 0 ∧ sessOwner s ≠ src then udsNeg src 0x11 0x21 (updResult 1 (busyReply s))
    else restartDue (chanOut src [0x51, 0x01] s)) s

/-- UDS_ECU_RESET: a controlled restart; while another source holds the session, 0x21. -/
def execUdsEcuReset (doip : Bool) (sub : Nat) (s : State) : Host.Outcome State Fault Refusal :=
  run s (.udsEcuReset doip sub)
    (udsEcuResetDo doip sub s)

/-- SHA-256 words of the active shot list. -/
def activeDigest (s : State) : List Byte :=
  (List.range 8).flatMap (fun w => beBytes (rd s (R.UPD_TAKE_DIGEST (activeTake s) w)) 4)

/-- Content of an identifier. -/
def didBytes (s : State) (did : Nat) : Option (List Byte) :=
  if did = 0xF180 then some (beBytes (rd s R.ID_LOADER_VER) 4)
  else if did = 0xF181 then some (beBytes (rd s R.ID_FW_VER) 4)
  else if did = 0xF187 then some [0x58, 0x47, 0x2D, 0x39, 0x36, 0x38, 0x30]
  else if did = 0xF18C then some ((List.range 4).flatMap (fun i => beBytes (rd s (R.ID_SERIAL i)) 4))
  else if did = 0xFD00 then some (beBytes (rd s R.UPD_STATUS) 4)
  else if did = 0xFD01 then some (beBytes (rd s R.UPD_RESUME) 4)
  else if did = 0xFD02 then
    some (slice (floorBytes s) 8 44)
  else if did = 0xFD03 then some (activeDigest s)
  else if did = 0xFD04 then
    some ([R.UPD_SHEET_STATUS, R.UPD_SHEET_RECORD, R.UPD_SHEET_FIELD].flatMap (fun a => beBytes (rd s a) 4))
  else none

/-- What execUdsReadDid does. -/
def udsReadDidDo (doip : Bool) (did : Nat) (s : State) : State :=
  udsRequest doip 0x22 (fun src s =>
    match didBytes s did with
    | some b => chanOut src ([0x62] ++ beBytes did 2 ++ b) s
    | none => udsNeg src 0x22 0x31 s) s

/-- UDS_READ_DID. -/
def execUdsReadDid (doip : Bool) (did : Nat) (s : State) : Host.Outcome State Fault Refusal :=
  run s (.udsReadDid doip did)
    (udsReadDidDo doip did s)

/-- What execUdsWriteDid does. -/
def udsWriteDidDo (doip : Bool) (did : Nat) (value : Nat) (s : State) : State :=
  udsRequest doip 0x2E (fun src s =>
    if did ≠ 0xFD10 then udsNeg src 0x2E 0x31 s
    else udsIn src 0x2E (fun s =>
      if value ≠ 1 then udsNeg src 0x2E 0x31 s
      else
        let r := discard s
        udsResult src 0x2E r.1 [0x6E, 0xFD, 0x10] (updResult r.1 r.2)) s) s

/-- UDS_WRITE_DID: 0xFD10 with 0x01 in the programming session. -/
def execUdsWriteDid (doip : Bool) (did value : Nat) (s : State) : Host.Outcome State Fault Refusal :=
  run s (.udsWriteDid doip did value)
    (udsWriteDidDo doip did value s)

/-- A routine that ends at once: its status code is kept and answered. -/
def routineDone (src id : Nat) (r : Nat × State) : State :=
  let s := updResult r.1 r.2
  let s := { s with upd := { s.upd with routine := s.upd.routine.put id r.1 } }
  udsResult src 0x31 r.1 ([0x71, 0x01] ++ beBytes id 2 ++ [byteOf r.1]) s

/-- What execUdsRoutineVerify does. -/
def udsRoutineVerifyDo (doip : Bool) (s : State) : State :=
  udsRequest doip 0x31 (fun src s => udsIn src 0x31 (fun s =>
    let r := verifyStart src s
    if r.1 = 0 then udsNeg src 0x31 0x78 r.2 else routineDone src 0x0210 r) s) s

/-- UDS_ROUTINE_VERIFY: the response follows the verification; 0x78 while it runs. -/
def execUdsRoutineVerify (doip : Bool) (s : State) : Host.Outcome State Fault Refusal :=
  run s (.udsRoutineVerify doip)
    (udsRoutineVerifyDo doip s)

/-- UDS_ROUTINE_ACTIVATE. -/
def execUdsRoutineActivate (doip : Bool) (s : State) : Host.Outcome State Fault Refusal :=
  run s (.udsRoutineActivate doip)
    (udsRequest doip 0x31 (fun src s => udsIn src 0x31 (fun s => routineDone src 0x0211 (activate s)) s) s)

/-- UDS_ROUTINE_CONFIRM. -/
def execUdsRoutineConfirm (doip : Bool) (s : State) : Host.Outcome State Fault Refusal :=
  run s (.udsRoutineConfirm doip)
    (udsRequest doip 0x31 (fun src s => udsIn src 0x31 (fun s => routineDone src 0x0212 (confirm s)) s) s)

/-- What execUdsRoutineResults does. -/
def udsRoutineResultsDo (doip : Bool) (routine : Nat) (s : State) : State :=
  udsRequest doip 0x31 (fun src s => udsIn src 0x31 (fun s =>
    if routine < 0x0210 ∨ 0x0212 < routine then udsNeg src 0x31 0x31 s
    else match s.upd.routine.get? routine with
      | some c => chanOut src ([0x71, 0x03] ++ beBytes routine 2 ++ [byteOf c]) s
      | none => udsNeg src 0x31 0x24 s) s) s

/-- UDS_ROUTINE_RESULTS: the status code of the routine's last run; none has run: 0x24. -/
def execUdsRoutineResults (doip : Bool) (routine : Nat) (s : State) : Host.Outcome State Fault Refusal :=
  run s (.udsRoutineResults doip routine)
    (udsRoutineResultsDo doip routine s)

/-- What execUdsRequestDownload does. -/
def udsRequestDownloadDo (doip : Bool) (fmt : Nat) (alfid : Nat) (address : Nat) (size : Nat) (s : State) : State :=
  udsRequest doip 0x34 (fun src s => udsIn src 0x34 (fun s =>
    if fmt ≠ 0 ∨ alfid ≠ 0x44 then udsNeg src 0x34 0x31 s
    else
      let code := if !dlAllowed s then 2
        else if address ≠ 0 ∧ resumeIndex s ≠ some (address / 65536) then 2
        else if address % 65536 ≠ 0 then 2
        else if address ≠ 0 ∧ address + size ≠ slImageLen (takeNo (loadTake s) s).image then 2 else 0
      let s := updResult code s
      let s := if code = 0 then
          { s with upd := { s.upd with dl := some (address + size), buf := [], next := 1, spoiled := false
                                       sessNs := s.devNs, index := address / 65536 } }
        else s
      udsResult src 0x34 code [0x74, 0x20, 0x10, 0x02] s) s) s

/-- UDS_REQUEST_DOWNLOAD: offset 0 or the resume offset; the image's length is announced. -/
def execUdsRequestDownload (doip : Bool) (fmt alfid address size : Nat) (s : State) : Host.Outcome State Fault Refusal :=
  run s (.udsRequestDownload doip fmt alfid address size)
    (udsRequestDownloadDo doip fmt alfid address size s)

/-- A whole chunk of a UDS download goes to NAND; 0x78 while it programs. -/
def udsChunk (src sid : Nat) (b : List Byte) (s : State) : State :=
  let r := chunkStart src (s.upd.index) b s
  if r.1 = 0 then
    let s := { r.2 with upd := { r.2.upd with
      index := s.upd.index + 1, exiting := sid == 0x37, buf := s.upd.buf.drop b.length } }
    udsNeg src sid 0x78 s
  else udsResult src sid r.1 [] (updResult r.1 r.2)

/-- What execUdsTransferData does. -/
def udsTransferDataDo (doip : Bool) (seq : Nat) (data : List Byte) (s : State) : State :=
  udsRequest doip 0x36 (fun src s => udsIn src 0x36 (fun s =>
    match s.upd.dl with
    | none => udsNeg src 0x36 0x73 s
    | some len =>
      if s.upd.prog.isSome then udsNeg src 0x36 0x21 (updResult 1 (busyReply s))
      else if seq ≠ s.upd.next % 256 then udsNeg src 0x36 0x73 s
      else if data.length > 4096 ∨ len < 65536 * s.upd.index + s.upd.buf.length + data.length then udsNeg src 0x36 0x31 s
      else
        let buf := s.upd.buf ++ data
        let s := { s with upd := { s.upd with buf := buf, next := s.upd.next + 1 } }
        if 65536 ≤ buf.length ∧ 65536 * (s.upd.index + 1) < len then udsChunk src 0x36 (buf.take 65536) s
        else chanOut src [0x76, byteOf seq] s) s) s

/-- UDS_TRANSFER_DATA: blocks in sequence; a chunk's last block commits it, but the image's last chunk waits for the exit. -/
def execUdsTransferData (doip : Bool) (seq : Nat) (data : List Byte) (s : State) : Host.Outcome State Fault Refusal :=
  run s (.udsTransferData doip seq data)
    (udsTransferDataDo doip seq data s)

/-- What execUdsTransferExit does. -/
def udsTransferExitDo (doip : Bool) (s : State) : State :=
  udsRequest doip 0x37 (fun src s => udsIn src 0x37 (fun s =>
    match s.upd.dl with
    | none => udsNeg src 0x37 0x73 s
    | some len =>
      if s.upd.prog.isSome then udsNeg src 0x37 0x21 (updResult 1 (busyReply s))
      else if 65536 * s.upd.index + s.upd.buf.length ≠ len then udsNeg src 0x37 0x73 s
      else udsChunk src 0x37 s.upd.buf s) s) s

/-- UDS_TRANSFER_EXIT: the last chunk commits. -/
def execUdsTransferExit (doip : Bool) (s : State) : Host.Outcome State Fault Refusal :=
  run s (.udsTransferExit doip)
    (udsTransferExitDo doip s)

/-- UDS_UNSUPPORTED_SERVICE: NRC 0x11. -/
def execUdsUnsupportedService (doip : Bool) (sid : Nat) (s : State) : Host.Outcome State Fault Refusal :=
  run s (.udsUnsupportedService doip sid)
    (udsRequest doip sid (fun src s => udsNeg src sid 0x11 s) s)

-- Stohal load protocol and compatibility mode (R441 to R443) ----------------------------------------------------------------------------------

/-- Compatibility mode is there: COMPAT in the sheet in force, and a COMPAT_KEY in the active take's vendor block (R442). -/
def compatOn (s : State) : Bool :=
  rdf s R.UPD_POLICY 15 8 == 1 && rdf s R.UPD_SHEET_STATUS 19 18 == 0 && !loaderOnly s &&
  (let t := takeNo (activeTake s) s
   !t.factory && (vbCompatKey t.image).any (fun b => b != 0))

/-- A Stohal request: answered with `op` where it needs the session and has it not. -/
def stohalIn (op : Nat) (f : State → State) (s : State) : State :=
  let n := sessNeed 4 s
  if n.1 = 0 then f n.2 else stohalOut op n.1 (updResult n.1 n.2)

/-- What execStohalOpen does. -/
def stohalOpenDo (offset : Nat) (s : State) : State :=
  let r := sessOpen 4 s
  let s := r.2
  let code := if r.1 ≠ 0 then r.1
    else if s.upd.prog.isSome then 1
    else if !dlAllowed s || decide (offset % 65536 ≠ 0) then 2
    else if offset = 0 ∧ compatOn s = true then 0
    else if offset ≠ 0 ∧ resumeIndex s ≠ some (offset / 65536) then 2 else 0
  let s := if code = 0 then
      { s with upd := { s.upd with dl := some offset, buf := [], next := 0, spoiled := false, envelope := false } }
    else s
  stohalOut 1 code (updResult code s)

/-- STOHAL_OPEN: a chunk at an offset, 0 or the resume offset. -/
def execStohalOpen (offset : Nat) (s : State) : Host.Outcome State Fault Refusal :=
  run s (.stohalOpen offset)
    (stohalOpenDo offset s)

/-- Bytes of the envelope magic as they arrive. -/
def envMagic : List Byte := [0x53, 0x54, 0x48, 0x4C]

/-- What execStohalData does. -/
def stohalDataDo (seq : Nat) (data : List Byte) (s : State) : State :=
  let s := sessHeard 4 s
  let buf := s.upd.buf ++ data
  let bad := s.upd.spoiled || decide (seq ≠ s.upd.next % 256 ∨ 65536 < buf.length ∨ data.length = 0 ∨ 6 < data.length)
  let env := s.upd.envelope || (s.upd.dl == some 0 && s.upd.next == 0 && compatOn s && data.take 4 == envMagic)
  let s := { s with upd := { s.upd with buf := if bad then s.upd.buf else buf, next := s.upd.next + 1, spoiled := bad, envelope := env } }
  if env then wrf s R.UPD_STATUS 23 20 5 else s

/-- STOHAL_DATA: a missing SEQ, or data beyond 64 KiB, spoils the chunk. -/
def execStohalData (seq : Nat) (data : List Byte) (s : State) : Host.Outcome State Fault Refusal :=
  run s (.stohalData seq data)
    (if sessOwner s ≠ 4 ∨ s.upd.dl.isNone = true then s else
     stohalDataDo seq data s)

/-- The envelope's checks: its form, a PAYLOAD_LEN that a take has room for, and OEM_ID, then the signature under COMPAT_KEY (R442, R443). -/
def envelopeCode (b : List Byte) (s : State) : Nat :=
  let t := takeNo (activeTake s) s
  if leAt b 4 2 ≠ 4 ∨ leAt b 6 2 ≠ 0 ∨ leAt b 8 4 = 0 ∨ NandRegion.takeA.bytes < leAt b 8 4 + 0x100000 ∨ (slice b 48 16).any (fun x => x != 0) = true ∨ leAt b 12 4 ≠ oemOf (activeTake s) s then 2
  else if !sigOk (vbCompatKey t.image) (b.take 64) (b.drop 64) then 12 else 0

/-- A verified envelope: LOADER_ONLY, the active take OVERWRITING, COMPAT_DIGEST; a restart into the loader (R443). -/
def overwrite (b : List Byte) (s : State) : State :=
  let a := activeTake s
  let s := setTake a { emptyTake with mark := 7 } (wrf s R.UPD_STATUS 3 3 1)
  let s := bpWrite { s with upd := { s.upd with compatDigest := slice b 16 32, recovery := false } }
  resetDue s

/-- What execStohalCommit does. -/
def stohalCommitDo (s : State) : State :=
  stohalIn 3 (fun s =>
    let b := s.upd.buf
    let drop (s : State) : State :=
      { s with upd := { s.upd with buf := [], next := 0, spoiled := false, dl := none, envelope := false } }
    match s.upd.dl with
    | none => stohalOut 3 2 (updResult 2 s)
    | some off =>
      if s.upd.spoiled then stohalOut 3 15 (updResult 15 (drop s))
      else if s.upd.envelope then
        let c := envelopeCode b s
        let s := stohalOut 3 c (updResult c (drop s))
        if c = 0 then overwrite b s else s
      else
        let r := chunkStart 4 (off / 65536) b s
        if r.1 = 0 then drop r.2 else stohalOut 3 r.1 (updResult r.1 (drop r.2))) s

/-- STOHAL_COMMIT. -/
def execStohalCommit (s : State) : Host.Outcome State Fault Refusal :=
  run s .stohalCommit
    (stohalCommitDo s)

/-- What execStohalEnd does. -/
def stohalEndDo (s : State) : State :=
  stohalIn 4 (fun s =>
    let r := verifyStart 4 s
    if r.1 = 0 then r.2 else stohalOut 4 r.1 (updResult r.1 r.2)) s

/-- STOHAL_END: the response follows the verification. -/
def execStohalEnd (s : State) : Host.Outcome State Fault Refusal :=
  run s .stohalEnd
    (stohalEndDo s)

/-- What execStohalActivate does. -/
def stohalActivateDo (s : State) : State :=
  stohalIn 5 (fun s => let r := activate s; stohalOut 5 r.1 (updResult r.1 r.2)) s

/-- STOHAL_ACTIVATE. -/
def execStohalActivate (s : State) : Host.Outcome State Fault Refusal :=
  run s .stohalActivate
    (stohalActivateDo s)

/-- What execStohalConfirm does. -/
def stohalConfirmDo (s : State) : State :=
  stohalIn 6 (fun s => let r := confirm s; stohalOut 6 r.1 (updResult r.1 r.2)) s

/-- STOHAL_CONFIRM. -/
def execStohalConfirm (s : State) : Host.Outcome State Fault Refusal :=
  run s .stohalConfirm
    (stohalConfirmDo s)

/-- What execStohalStatus does. -/
def stohalStatusDo (s : State) : State :=
  if srcAllowed 4 s then stohalOut 7 (rdf s R.UPD_STATUS 31 24) (sessHeard 4 s) else stohalOut 7 2 (updResult 2 s)

/-- STOHAL_STATUS: LAST_RESULT and the resume offset. -/
def execStohalStatus (s : State) : Host.Outcome State Fault Refusal :=
  run s .stohalStatus
    (stohalStatusDo s)

-- Attestation (R446 to R448) ----------------------------------------------------------------------------------------------------------------------

/-- The identity public key, 60 bytes in the form of RFC 8554: two levels, LMS_SHA256_M32_H10, LMOTS_SHA256_N32_W4, the top tree's
identifier I and its root (R446). -/
def hssKey (s : State) : List Byte :=
  let seed := hssSeed s 0 0
  beBytes 2 4 ++ beBytes 6 4 ++ beBytes 3 4 ++ slice seed 32 16 ++ padTo ((Config.hssRoot seed).take 32) 32

/-- The identity public key, once computed (R446). -/
def attPubkey (s : State) : State :=
  if s.vault.root.isSome && decide (lifecycle s = 1) && !s.gaf.resLow then
    let key := hssKey s
    forEach (List.range 15) (fun w s => wr s (R.ATT_PUBKEY w) (beAt key (4 * w) 4)) s
  else s

/-- A requester of higher rank asks for a report in the same tick (R291, R450). -/
def attOvertaken (req : Requester) (s : State) : Bool :=
  s.pending.any (fun c => match c with
    | .updAttest r => decide (reqRank r < reqRank req)
    | _ => false)

/-- UPD_ATTEST: one report at a time; refused outside SEALED, or with no index left. -/
def updAttestDo (req : Requester) (s : State) : State :=
  (let busy := rdb s R.ATT_STATUS 0 || (attOvertaken req s && decide (lifecycle s = 1 ∧ rd s R.ATT_NEXT < 1048576))
     let code := if busy then 1 else if lifecycle s ≠ 1 then 2 else if 1048576 ≤ rd s R.ATT_NEXT then 8 else 0
     let s := if busy then busyReply s
       else if code = 0 then { (wr s R.ATT_STATUS 1) with upd := { s.upd with attSince := some s.devNs } }
       else wrf s R.ATT_STATUS 31 24 code
     if reqIsHost req then hostResult code s else updResult code s)

/-- Bytes 0 to 1,391 of a report for index q: what is signed, and SIG_LEN (R447). -/
def reportBody (s : State) (q : Nat) : List Byte :=
  beBytes 0x58474152 4 ++ beBytes 1 2 ++ [0, 0] ++
  (List.range 8).flatMap (fun w => beBytes (rd s (R.ATT_NONCE w)) 4) ++
  (List.range 4).flatMap (fun i => beBytes (rd s (R.ID_SERIAL i)) 4) ++
  beBytes (s.globalNs / 1000000000) 6 ++ beBytes (rdf s R.TIM_STATUS 7 6) 1 ++ beBytes (lifecycle s) 1 ++
  beBytes (s.globalNs % 1000000000) 4 ++ beBytes 0 4 ++ beBytes s.devNs 8 ++
  [byteOf (activeTake s), byteOf (rdf s R.UPD_STATUS 15 12), byteOf (rdf s R.UPD_STATUS 11 8), byteOf (rdf s R.UPD_SHEET_STATUS 19 18)] ++
  beBytes (rd s (R.UPD_FLOOR 1)) 4 ++ beBytes (rd s (R.UPD_FLOOR 2)) 4 ++ beBytes (rd s R.VLT_TAMPER_REC) 4 ++
  padTo (Config.loaderDigest.take 32) 32 ++ activeDigest s ++
  (List.range 8).flatMap (fun w => beBytes (rd s (R.UPD_SHEET_DIGEST w)) 4) ++
  beBytes (rdf s R.VLT_STATUS 15 0) 2 ++ [0, 0] ++ beBytes (rd s R.VLT_IMPORT_SEQ) 4 ++
  (List.range 296).flatMap (fun w => beBytes (rd s (R.VLT_KEM_EK w)) 4) ++ beBytes q 4 ++ beBytes 5076 4

/-- Index q is taken: a new block of 64 is reserved before its first use (R449); source 490 as it passes 1,000,000. -/
def attIndex (q : Nat) (s : State) : State :=
  let s := if q = rd s R.ATT_HWM then posWrite false (wr s R.ATT_HWM (q + 64)) else s
  let s := wr s R.ATT_NEXT (q + 1)
  if q = 1000000 then raise 490 s else s

/-- Write the report's words into ATT_REPORT. -/
def reportWords : List Byte → Nat → Nat → State → State
  | _, _, 0, s => s
  | b, w, n + 1, s => reportWords (b.drop 4) (w + 1) n (wr s (R.ATT_REPORT + 4 * w) (leAt b 0 4))

/-- What execAttestReady does. -/
def attestReadyDo (s : State) : State :=
  let s := { s with upd := { s.upd with attSince := none } }
  if s.vault.root.isSome && decide (lifecycle s = 1) then
    let q := rd s R.ATT_NEXT
    let body := reportBody s q
    let b := body ++ padTo ((Config.hssSign (hssSeed s 0 0) (hssSeed s 1 (q / 1024)) q (body.take 1388)).take 5076) 5076
    let s := reportWords b 0 1617 (attIndex q s)
    inc (wr s R.ATT_STATUS 2) (R.UPD_CNT 12)
  else wr s R.ATT_STATUS (10 * 2 ^ 24)

/-- ATTEST_READY: the signed report is in ATT_REPORT; a tamper in between ends it with TAMPER. -/
def execAttestReady (s : State) : Host.Outcome State Fault Refusal :=
  run s .attestReady
    (if !rdb s R.ATT_STATUS 0 || s.gaf.resLow then s else
     attestReadyDo s)

end Sys2Proof.Machine
end

