-- ==== Sys2Proof/Machine/HostIf.lean ====
section
/-! DEFINITION. The host interface besides its rings (chapter 18): pops and stalls, the event router, the mailbox, the
control port's injection slots and frame windows. -/

namespace Sys2Proof.Machine

/-- The EMPTY token of R15. -/
def emptyToken : Nat := 0x80000000

-- Firmware-reserved registers (R456) ------------------------------------------------------------------------------

/-- Registers reserved for firmware. -/
def fwReserved (a : Nat) : Bool :=
  decide (R.CPL_POP 0 ≤ a ∧ a < R.CPL_POP 64) || a == R.CPL_FREE ||
  decide (R.EVT_FW_ROUTE 0 ≤ a ∧ a < R.EVT_FW_ROUTE 512) || decide (R.EVT_FIFO 1 ≤ a ∧ a < R.EVT_FIFO 6) ||
  a == R.HDMA_MBX_ANSWER || decide (R.HDMA_FRAME_SEL 0 ≤ a ∧ a < R.HDMA_FRAME_SEL 16) ||
  decide (R.HDMA_FRAME_WIN 0 ≤ a ∧ a < R.HDMA_FRAME_WIN 16) ||
  (decide (0x1130000 ≤ a ∧ a < 0x1140000) && (regAt a).isSome && a != R.PORT19_CP_STATE &&
    !decide (R.PORT19_CNT 0 ≤ a ∧ a < R.PORT19_CNT 4))

/-- A reserved register whose read pops: CPL_POP[k] and EVT_FIFO[1–5]. -/
def fwPop (a : Nat) : Bool :=
  decide (R.CPL_POP 0 ≤ a ∧ a < R.CPL_POP 64) || decide (R.EVT_FIFO 1 ≤ a ∧ a < R.EVT_FIFO 6)

/-- An access reported DENIED, read or write: R457 and the block's own source. -/
def deniedAccess (req : Requester) (a : Nat) (read : Bool) (s : State) : State := denied req a read (deniedBy a s)

/-- A host read of a reserved register: CPL_POP[k] and EVT_FIFO[1–5] answer the EMPTY token and are reported DENIED, and every
other one just reads 0 (R456). -/
def reservedRead (req : Requester) (a : Nat) (s : State) : Nat × State :=
  if fwPop a then (emptyToken, deniedAccess req a true s) else (0, s)

-- Stalled reads (R15, R104) ---------------------------------------------------------------------------------------

/-- A read of an empty RS register stalls; one made while the module leaves for Doze or below returns at once (R104). -/
def stall (req : Requester) (evt : Bool) (i : Nat) (be : BitVec 4) (s : State) : State :=
  if moving s || decide (2 ≤ rung s) then answer [addressed be emptyToken] s
  else { s with router := { s.router with stalls := s.router.stalls ++ [⟨req, evt, i, s.devNs, be⟩] } }

/-- Stall limit in ns (CPL_STALL_LIMIT). -/
def stallNs (s : State) : Nat := rdf s R.CPL_STALL_LIMIT 9 0 * 1000

/-- What execPopStallExpire does. -/
def popStallExpireDo (req : Requester) (x : Stall) (s : State) : State :=
  answer [addressed x.be emptyToken] { s with router := { s.router with stalls := s.router.stalls.erase x } }

/-- POP_STALL_EXPIRE. -/
def execPopStallExpire (req : Requester) (s : State) : Host.Outcome State Fault Refusal :=
  run s (.popStallExpire req)
    (match s.router.stalls.find? (fun x => x.req == req) with
     | none => s
     | some x =>
     if x.sinceNs + stallNs s ≤ s.devNs then popStallExpireDo req x s else s)

/-- A value written to CPL_STALL_LIMIT: 1 to 1,000 µs, any other is ignored with event 108. -/
def stallLimit (req : Requester) (v : Nat) (s : State) : State :=
  if 1 ≤ v ∧ v ≤ 1000 then wr s R.CPL_STALL_LIMIT v else deniedWrite req R.CPL_STALL_LIMIT s

/-- STALL_LIMIT_WRITE. -/
def execStallLimitWrite (req : Requester) (val : Word) (s : State) : Host.Outcome State Fault Refusal :=
  run s (.stallLimitWrite req val) (access req (stallLimit req (fld val.toNat 9 0)) s)

-- Control queues (R103) -------------------------------------------------------------------------------------------

/-- One DWord popped from control queue k, or the read stalls: an empty queue, or one that a multi-bit error in its head's
descriptor has frozen, has no item to give (R103, R105). -/
def popOne (req : Requester) (k : Nat) (be : BitVec 4) (ecc : PoolEcc) (s : State) : State :=
  match headOf s (448 + k) with
  | none => stall req false k be s
  | some _ =>
    let s := if ecc = .desc then freezeQueue (448 + k) s else poolEcc ecc s
    if s.pool.frozen.contains (448 + k) then stall req false k be s else
    let r := ctlPop k s
    answer (r.1.toList.map (addressed be)) r.2

/-- Empty frame window w. -/
def winClear (w : Nat) (s : State) : State :=
  let out (x : Nat × Word) : Bool := decide (x.1 < R.HDMA_FRAME_WIN w ∨ R.HDMA_FRAME_WIN (w + 1) ≤ x.1)
  { s with regs := s.regs.filter out }

/-- Frame windows that show descriptor d become invalid and empty (R470). -/
def winDrop (d : Nat) (s : State) : State :=
  forEach ((List.range 16).filter (fun w => rd s (R.HDMA_FRAME_SEL w) == 2 ^ 31 + d)) (fun w s =>
    wr (winClear w s) (R.HDMA_FRAME_SEL w) d) s

/-- A popped copy is released by its index (R103). -/
def freePopped (d : Nat) (s : State) : State :=
  match s.pool.copies.get? d with
  | some c => if c.popped then winDrop d (releaseCopy d s) else raise 107 s
  | none => raise 107 s

/-- A write of CPL_FREE. -/
def cplFreeWrite (req : Requester) (v : Nat) (s : State) : State :=
  if reqIsHost req then deniedWrite req R.CPL_FREE s else freePopped (v % 0x10000) s

/-- CPL_FREE. -/
def execCplFree (req : Requester) (val : Word) (s : State) : Host.Outcome State Fault Refusal :=
  run s (.cplFree req val) (access req (cplFreeWrite req val.toNat) s)

/-- Put the words of a frame into window w. -/
def winFill (w : Nat) (b : List Byte) (s : State) : State :=
  forEach (List.range (ceilDiv b.length 4)) (fun i s => wr s (R.HDMA_FRAME_WIN w + 4 * i) (leAt b (4 * i) 4)) s

/-- The frame of a popped copy, as its reader finds it: tail-marked by a bad cell of this copy's read (R105), and with an
inverted FCS where its stored one failed (R133). -/
def poppedFrame (s : State) (d : Nat) : Option PFrame :=
  (s.pool.copies.get? d).bind (fun c =>
    if c.popped then
      (s.pool.frames.get? c.frame).map (fun f =>
        { f with tailMark := f.tailMark || c.marked, data := if c.fcsBad then invertFcs f.data else f.data })
    else none)

/-- Copy d is found to have a bad cell by its reader, which tail-marks it; the frame's other copies are not touched
(R105). -/
def markCopy (d : Nat) (s : State) : State :=
  match s.pool.copies.get? d with
  | none => s
  | some c => wrf { s with pool := { s.pool with copies := s.pool.copies.put d { c with marked := true } } } (R.CPL_DESC d) 14 14 1

/-- What a frame window's read of copy d found (R105). -/
def windowEcc (ecc : PoolEcc) (d : Nat) (s : State) : State :=
  match ecc with
  | .cell => markCopy d s
  | .desc => match s.pool.copies.get? d with
    | some c => freezeQueue c.q s
    | none => s
  | e => poolEcc e s

/-- A write of HDMA_FRAME_SEL[w] (R470): the window shows the fabric words of the frame's chain (R82). -/
def frameSel (req : Requester) (w v : Nat) (ecc : PoolEcc) (s : State) : State :=
  if reqIsHost req then deniedWrite req (R.HDMA_FRAME_SEL w) s else
  let d := v % 0x10000
  let s := winClear w s
  let s := if (poppedFrame s d).isSome then windowEcc ecc d s else s
  match poppedFrame s d with
  | some f => winFill w ((f.words.flatMap FabricWord.bytes).take 0x4000) (wr s (R.HDMA_FRAME_SEL w) (2 ^ 31 + d))
  | none => wr s (R.HDMA_FRAME_SEL w) d

/-- FRAME_SELECT. -/
def execFrameSelect (req : Requester) (w : Nat) (val : Word) (s : State) (ecc : PoolEcc := .ok) : Host.Outcome State Fault Refusal :=
  run s (.frameSelect req w val ecc) (access req (frameSel req w val.toNat ecc) s)

-- Event FIFOs (R472, R473) ----------------------------------------------------------------------------------------

/-- An item of an event FIFO. -/
def evtItem (x : TickItem) : Nat := x.tick % 0x400000 * 512 + x.src

/-- FIFO t's level register follows its contents. -/
def fifoLevel (t : Nat) (s : State) : State := wrf s (R.EVT_FIFO_LEVEL t) 8 0 (s.router.fifos.getD t []).length

/-- Pop FIFO t. -/
def fifoPop (t : Nat) (s : State) : Option Nat × State :=
  match s.router.fifos.getD t [] with
  | [] => (none, s)
  | x :: l => (some x, fifoLevel t { s with router := { s.router with fifos := s.router.fifos.set t l [] } })

/-- Insert an item by tick and source. -/
def tickInsert (x : TickItem) : List TickItem → List TickItem
  | [] => [x]
  | y :: t => if x.tick < y.tick ∨ (x.tick = y.tick ∧ x.src < y.src) then x :: y :: t else y :: tickInsert x t

def tickSort : List TickItem → List TickItem
  | [] => []
  | x :: t => tickInsert x (tickSort t)

/-- Push one item into FIFO t; answers whether it was dropped (256 items, R473). -/
def fifoPush (t : Nat) (x : TickItem) (s : State) : Bool × State :=
  let l := s.router.fifos.getD t []
  if 256 ≤ l.length then
    let s := wrf s (R.EVT_FIFO_LEVEL t) 31 16 (min 0xFFFF (rdf s (R.EVT_FIFO_LEVEL t) 31 16 + 1))
    (true, inc s (R.HDMA_CNT 4))
  else (false, fifoLevel t { s with router := { s.router with fifos := s.router.fifos.put t (l ++ [evtItem x]) } })

/-- The pops stalled on FIFO t, oldest first, each take its lowest item while there is one: `n` bounds them. -/
def fifoServe (t : Nat) : Nat → State → State
  | 0, s => s
  | n + 1, s =>
    match s.router.stalls.find? (fun x => x.evt && x.index == t) with
    | none => s
    | some x =>
      let r := fifoPop t s
      match r.1 with
      | some v => fifoServe t n
          (answer [addressed x.be v] { r.2 with router := { r.2.router with stalls := r.2.router.stalls.erase x } })
      | none => s

/-- The items collected in a tick that has ended are pushed in ascending source order; a drop raises source 503. -/
def tickPush (s : State) : State :=
  let ended (x : TickItem) : Bool := decide (x.tick < tickOf s)
  let items := tickSort (s.router.tick.filter ended)
  let s := { s with router := { s.router with tick := s.router.tick.filter (fun x => !ended x) } }
  let s := forEach items (fun x s =>
    forEach (bitsOf x.fifos 6) (fun t s =>
      let r := fifoPush t x s
      if r.1 then raise 503 r.2 else r.2) s) s
  forEach (List.range 6) (fun t s => fifoServe t s.router.stalls.length s) s

/-- EVT_TICK_PUSH. -/
def execEvtTickPush (s : State) : Host.Outcome State Fault Refusal :=
  run s .evtTickPush
    (tickPush s)

/-- What execEvtHoldoffExpire does. -/
def evtHoldoffExpireDo (v : Nat) (x : VecState) (s : State) : State :=
  msix v { s with router := { s.router with vecs := s.router.vecs.put v ⟨s.devNs, false⟩ } }

/-- EVT_HOLDOFF_EXPIRE: vector v's holdoff has ended; a source raised during it is signalled. -/
def execEvtHoldoffExpire (v : Nat) (s : State) : Host.Outcome State Fault Refusal :=
  run s (.evtHoldoffExpire v)
    (match s.router.vecs.get? v with
     | none => s
     | some x =>
     if x.lastNs + rdf s R.EVT_VEC_HOLDOFF 15 0 * 1000 ≤ s.devNs ∧ x.owed = true then evtHoldoffExpireDo v x s else s)

-- The mailbox (R475) ----------------------------------------------------------------------------------------------

def mbxBusy (s : State) : Bool := rdb s R.HDMA_MBX_STATUS 31

/-- A command written to HDMA_MBX_CMD: host requesters only, refused with BUSY while one is pending. -/
def mbxStart (req : Requester) (f : State → State) (s : State) : State :=
  if !reqIsHost req then deniedWrite req R.HDMA_MBX_CMD s
  else if mbxBusy s then inc s (R.HDMA_CNT 6)
  else f s

/-- OP 0x01 SCENE: pending until the scene switch has answered it. -/
def mbxSceneOp (req : Requester) (arg : Nat) (s : State) : State :=
  sceneRequestDo req (arg % 16) true (wr { s with host := { s.host with mbxSince := s.devNs } } R.HDMA_MBX_STATUS (2 ^ 31))

/-- OP 0x02 INVALIDATE: RESULT as VLT_OP_STATUS shows. -/
def mbxInvalidateOp (arg : Nat) (s : State) : State :=
  -- pending until the vault has served it
  vaultAsk ⟨2, 2, arg % 0x1000, [], .ok, true⟩ (wrf { s with host := { s.host with mbxSince := s.devNs } } R.HDMA_MBX_STATUS 31 31 1)

/-- The 36-byte frame of a firmware command. -/
def mbxFrame (s : State) (cmd : Nat) : List Byte :=
  leBytes cmd 4 ++ (List.range 8).flatMap (fun i => leBytes (rd s (R.HDMA_MBX_DATA i)) 4)

/-- Place a frame made inside the module on control queue k; answers what admission said. -/
def toCtl (k tc : Nat) (bus : Bool) (data : List Byte) (s : State) : Except Nat Nat × State :=
  let f : PFrame := {
    bus := bus, data := data, src := 19, tc := tc, cutThrough := false, tailWritten := true, tailMark := false
    refs := 0, cells := cellsOf data.length, rxNs := s.devNs }
  let r := newFrame f s
  let a := admitCopy r.1 19 tc (448 + k) ⟨0, 0, none, none, false, none⟩ r.2
  match a.1 with
  | .ok d => (.ok d, ctlPush k d a.2)
  | .error e => (.error e, freeFrame r.1 a.2)

/-- OP 0x03 FIRMWARE: the frame goes to control queue 8; the command is pending until it is answered. -/
def mbxFirmwareOp (cmd : Nat) (s : State) : State :=
  let s := wr { s with host := { s.host with mbxSince := s.devNs } } R.HDMA_MBX_STATUS (2 ^ 31)
  (toCtl 8 0 false (mbxFrame s cmd) s).2

/-- A word written to HDMA_MBX_CMD. -/
def mbxWrite (req : Requester) (v : Nat) (s : State) : State :=
  mbxStart req (match fld v 31 24 with
    | 1 => mbxSceneOp req (fld v 23 0)
    | 2 => mbxInvalidateOp (fld v 23 0)
    | 3 => mbxFirmwareOp v
    | _ => mbxDone 2 0) s

/-- MBX_SCENE. -/
def execMbxScene (req : Requester) (val : Word) (s : State) : Host.Outcome State Fault Refusal :=
  run s (.mbxScene req val) (access req (mbxStart req (mbxSceneOp req (fld val.toNat 23 0))) s)

/-- MBX_INVALIDATE. -/
def execMbxInvalidate (req : Requester) (val : Word) (s : State) : Host.Outcome State Fault Refusal :=
  run s (.mbxInvalidate req val) (access req (mbxStart req (mbxInvalidateOp (fld val.toNat 23 0))) s)

/-- MBX_FIRMWARE. -/
def execMbxFirmware (req : Requester) (val : Word) (s : State) : Host.Outcome State Fault Refusal :=
  run s (.mbxFirmware req val) (access req (mbxStart req (mbxFirmwareOp (putFld val.toNat 31 24 3))) s)

/-- MBX_OTHER: completes at once with DENIED. -/
def execMbxOther (req : Requester) (val : Word) (s : State) : Host.Outcome State Fault Refusal :=
  run s (.mbxOther req val) (access req (mbxStart req (mbxDone 2 0)) s)

/-- A command to Lyesh is pending: the scene switch and the vault complete their own. -/
def mbxForLyesh (s : State) : Bool := mbxBusy s && !s.upd.sceneReqs.any SceneReq.mbx && !s.vault.reqs.any VaultReq.mbx

/-- A word written to HDMA_MBX_ANSWER: with no command pending, or from a host, it is ignored and reported DENIED, and so is
an answer whose RESULT is no status code: the module never returns 0x11 to 0xFF (R19, log entry 163). -/
def mbxReply (req : Requester) (v : Nat) (s : State) : State :=
  if reqIsHost req || !mbxForLyesh s || decide (0x10 < v % 256) then deniedWrite req R.HDMA_MBX_ANSWER s else mbxDone (v % 256) (fld v 23 8) s

/-- MBX_ANSWER. -/
def execMbxAnswer (req : Requester) (val : Word) (s : State) : Host.Outcome State Fault Refusal :=
  run s (.mbxAnswer req val) (access req (mbxReply req val.toNat) s)

/-- MBX_FIRMWARE_TIMEOUT: no answer for 1,000 ms. -/
def execMbxFirmwareTimeout (s : State) : Host.Outcome State Fault Refusal :=
  run s .mbxFirmwareTimeout
    (if mbxForLyesh s && decide (s.host.mbxSince + 1000000000 ≤ s.devNs) then mbxDone 5 0 s else s)

-- Injection slots (R471) ------------------------------------------------------------------------------------------

/-- Bytes of injection slot k. -/
def cpBytes (s : State) (k : Nat) : List Byte :=
  let n := min 9216 (rdf s (R.PORT19_CP_LEN k) 13 0)
  ((List.range (ceilDiv n 4)).flatMap (fun i => leBytes (rd s (R.PORT19_CP_BUF k + 4 * i)) 4)).take n

/-- Refusals of queue q: for space, descriptors or drop precedence, and for the link or the gate (R90, R91). -/
def refusals (s : State) (q : Nat) : Nat × Nat :=
  (cnt s (R.CPL_Q_CNT q 2) + cnt s (R.CPL_Q_CNT q 3), cnt s (R.CPL_Q_CNT q 4) + cnt s (R.CPL_Q_CNT q 5))

/-- DIRECT = 1: a verdict whose only destination is port p; port 19 takes it on control queue cq. -/
def injectDirect (k p cq tc : Nat) (bus : Bool) (data : List Byte) (ts : Option Nat) (s : State) : State :=
  if 44 < p ∨ p = 18 then slotResult k 2 s
  else if p = 19 then
    let r := toCtl cq tc bus (if bus then data else withFcs data) s
    match r.1 with
    | .ok _ => slotOk k (inc r.2 (R.PORT19_CNT 1))
    | .error e => slotResult k (if e = 4 ∨ e = 5 then 2 else 4) r.2
  else
    let b := if bus then data else withFcs data
    let f : PFrame := {
      bus := bus, data := b, src := 19, tc := tc, cutThrough := false, tailWritten := true, tailMark := false
      refs := 0, cells := cellsOf b.length, rxNs := s.devNs }
    let before := refusals s (qOf p tc)
    let r := newFrame f s
    let s := freeFrame r.1 (copyTo r.1 f ⟨2 ^ p, tc, ⟨0, 0, none, none, false, ts⟩, false⟩ p r.2)
    let after := refusals s (qOf p tc)
    if before.1 < after.1 then slotResult k 4 s
    else if before.2 < after.2 then slotResult k 2 s
    else slotOk k (inc s (R.PORT19_CNT 1))

/-- GO on injection slot k. -/
def inject (k v : Nat) (s : State) : State :=
  if rdb s (R.PORT19_CP_RES k) 31 then raise 504 (inc s (R.PORT19_CNT 3)) else
  let data := cpBytes s k
  let bus := v.testBit 29
  let asks := v.testBit 28
  let s := wr s (R.PORT19_CP_RES k) (2 ^ 31)
  let s := if asks then { s with host := { s.host with injSince := s.host.injSince.put k s.devNs } } else s
  let ts := if asks then some (64 + k) else none
  if v.testBit 30 then injectDirect k (fld v 27 22) (fld v 21 16) (fld v 15 13) bus data ts s
  else
    -- BUSY until lookup has handed the frame over; one that ingress discards at once is done with (R471)
    let s := hostIngress 19 bus data ts (inc s (R.PORT19_CNT 0)) (some k)
    if s.ing.any (fun x => x.slot == some k) then s else slotOk k s

/-- A word written to PORT[19]_CP_TX[k]; GO reads back as 0. -/
def cpTx (req : Requester) (k v : Nat) (s : State) : State :=
  if reqIsHost req then deniedWrite req (R.PORT19_CP_TX k) s else
  let s := wr s (R.PORT19_CP_TX k) (fld v 30 13 * 0x2000)
  if v.testBit 31 then inject k v s else s

/-- CP_INJECT. -/
def execCpInject (req : Requester) (slot : Nat) (val : Word) (s : State) : Host.Outcome State Fault Refusal :=
  run s (.cpInject req slot val) (access req (fun s => stageSync (cpTx req slot val.toNat s)) s)

end Sys2Proof.Machine
end

