-- ==== Sys2Proof/Machine/PoolCmd.lean ====
section
/-! DEFINITION. The watermark units' command (R95). -/

namespace Sys2Proof.Machine

/-- WM_CLR_STATS: CROSSINGS to 0 and PEAK to LIVE. -/
def wmClrStatsDo (w : Nat) (s : State) : State :=
  (wr (wrf s (R.CPL_WM_NOTICE w) 15 0 0) (R.CPL_WM_PEAK w) (rd s (R.CPL_WM_LIVE w)))

end Sys2Proof.Machine
end

