-- ==== Sys2Proof/Machine/HostCmd.lean ====
section
/-! DEFINITION. The command registers (R474): each command of a host or of firmware as an access of the register map. What
a command does stands with its block. -/

namespace Sys2Proof.Machine

/-- CAN_RECOVER, as a register access of `req`. -/
def execCanRecover (req : Requester) (n : Nat) (val : Word) (s : State) : Host.Outcome State Fault Refusal :=
  run s (.canRecover req n val) (access req (canRecoverDo n val) s)

/-- ETH_RESTART, as a register access of `req`. -/
def execEthRestart (req : Requester) (p : Nat) (val : Word) (s : State) : Host.Outcome State Fault Refusal :=
  run s (.ethRestart req p val) (access req (ethRestartDo p val) s)

/-- SO_SET, as a register access of `req`. -/
def execSoSet (req : Requester) (val : Word) (s : State) : Host.Outcome State Fault Refusal :=
  run s (.soSet req val) (access req (soSetDo req val) s)

/-- SO_CLEAR_LATCH, as a register access of `req`. -/
def execSoClearLatch (req : Requester) (val : Word) (s : State) : Host.Outcome State Fault Refusal :=
  run s (.soClearLatch req val) (access req (soClearLatchDo val) s)

/-- CLEAR_SUPPRESS, as a register access of `req`. -/
def execClearSuppress (req : Requester) (val : Word) (s : State) : Host.Outcome State Fault Refusal :=
  run s (.clearSuppress req val) (access req (clearSuppressDo val) s)

/-- WM_CLR_STATS, as a register access of `req`. -/
def execWmClrStats (req : Requester) (w : Nat) (s : State) : Host.Outcome State Fault Refusal :=
  run s (.wmClrStats req w) (access req (wmClrStatsDo w) s)

/-- TRIGGER, as a register access of `req`. -/
def execTrigger (req : Requester) (s : State) : Host.Outcome State Fault Refusal :=
  run s (.trigger req) (access req triggerDo s)

/-- UNFREEZE, as a register access of `req`. -/
def execUnfreeze (req : Requester) (s : State) : Host.Outcome State Fault Refusal :=
  run s (.unfreeze req) (access req unfreezeDo s)

/-- ENTER_SAFE, as a register access of `req`. -/
def execEnterSafe (req : Requester) (s : State) : Host.Outcome State Fault Refusal :=
  run s (.enterSafe req) (access req enterSafeDo s)

/-- RXU_FAULTN_WRITE, as a register access of `req`. -/
def execRxuFaultnWrite (req : Requester) (val : Word) (s : State) : Host.Outcome State Fault Refusal :=
  run s (.rxuFaultnWrite req val) (access req (rxuFaultnWriteDo req val) s)

/-- RELEASE, as a register access of `req`. -/
def execRelease (req : Requester) (s : State) : Host.Outcome State Fault Refusal :=
  run s (.release req) (access req (releaseDo req) s)

/-- RELEASE_AUTH, as a register access of `req`. -/
def execReleaseAuth (req : Requester) (s : State) : Host.Outcome State Fault Refusal :=
  run s (.releaseAuth req) (access req (releaseAuthDo req) s)

/-- SNAP_GO, as a register access of `req`. -/
def execSnapGo (req : Requester) (val : Word) (s : State) : Host.Outcome State Fault Refusal :=
  run s (.snapGo req val) (access req (snapGoDo val) s)

/-- SVY_CMD_GO, as a register access of `req`. -/
def execSvyCmdGo (req : Requester) (val : Word) (s : State) : Host.Outcome State Fault Refusal :=
  run s (.svyCmdGo req val) (access req (svyCmdGoDo val) s)

/-- TIM_GM_ADJ, as a register access of `req`. -/
def execTimGmAdj (req : Requester) (val : Word) (s : State) : Host.Outcome State Fault Refusal :=
  run s (.timGmAdj req val) (access req (timGmAdjDo req val) s)

/-- STEP_TO_SET, as a register access of `req`. -/
def execStepToSet (req : Requester) (s : State) : Host.Outcome State Fault Refusal :=
  run s (.stepToSet req) (access req stepToSetDo s)

/-- LATCH, as a register access of `req`. -/
def execLatch (req : Requester) (s : State) : Host.Outcome State Fault Refusal :=
  run s (.latch req) (access req latchDo s)

/-- UPD_OPEN, as a register access of `req`. -/
def execUpdOpen (req : Requester) (s : State) : Host.Outcome State Fault Refusal :=
  run s (.updOpen req) (access req updOpenDo s)

/-- UPD_CLOSE, as a register access of `req`. -/
def execUpdClose (req : Requester) (s : State) : Host.Outcome State Fault Refusal :=
  run s (.updClose req) (access req updCloseDo s)

/-- UPD_COMMIT, as a register access of `req`. -/
def execUpdCommit (req : Requester) (s : State) : Host.Outcome State Fault Refusal :=
  run s (.updCommit req) (access req updCommitDo s)

/-- UPD_VERIFY, as a register access of `req`. -/
def execUpdVerify (req : Requester) (s : State) : Host.Outcome State Fault Refusal :=
  run s (.updVerify req) (access req updVerifyDo s)

/-- UPD_ACTIVATE, as a register access of `req`. -/
def execUpdActivate (req : Requester) (s : State) : Host.Outcome State Fault Refusal :=
  run s (.updActivate req) (access req updActivateDo s)

/-- UPD_CONFIRM, as a register access of `req`. -/
def execUpdConfirm (req : Requester) (s : State) : Host.Outcome State Fault Refusal :=
  run s (.updConfirm req) (access req updConfirmDo s)

/-- UPD_DISCARD, as a register access of `req`. -/
def execUpdDiscard (req : Requester) (s : State) : Host.Outcome State Fault Refusal :=
  run s (.updDiscard req) (access req updDiscardDo s)

/-- UPD_RESTART, as a register access of `req`. -/
def execUpdRestart (req : Requester) (s : State) : Host.Outcome State Fault Refusal :=
  run s (.updRestart req) (access req updRestartDo s)

/-- UPD_ATTEST, as a register access of `req`. -/
def execUpdAttest (req : Requester) (s : State) : Host.Outcome State Fault Refusal :=
  run s (.updAttest req) (access req (updAttestDo req) s)

/-- RING_DOORBELL: the host's write of BAR 2, served as an access of the register map is (R366, R455, R459). -/
def execRingDoorbell (k prod : Nat) (s : State) : Host.Outcome State Fault Refusal :=
  run s (.ringDoorbell k prod) (access .hostPcie (doorbell k prod) s)

/-- RING_ENABLE, as a register access of `req`. -/
def execRingEnable (req : Requester) (k : Nat) (val : Word) (s : State) : Host.Outcome State Fault Refusal :=
  run s (.ringEnable req k val) (access req (ringEnableDo k val) s)

/-- RING_DISABLE, as a register access of `req`. -/
def execRingDisable (req : Requester) (k : Nat) (val : Word) (s : State) : Host.Outcome State Fault Refusal :=
  run s (.ringDisable req k val) (access req (ringDisableDo k val) s)

/-- GAF_RUNG_LIMIT_WRITE, as a register access of `req`. -/
def execGafRungLimitWrite (req : Requester) (val : Word) (s : State) : Host.Outcome State Fault Refusal :=
  run s (.gafRungLimitWrite req val) (access req (gafRungLimitDo req val) s)

/-- HOST_WAKE_ACK, as a register access of `req`. -/
def execHostWakeAck (req : Requester) (val : Word) (s : State) : Host.Outcome State Fault Refusal :=
  run s (.hostWakeAck req val) (access req (hostWakeAckDo val) s)

/-- GAF_ALARM_WRITE, as a register access of `req`: seconds to the alarm; 0 cancels. -/
def execGafAlarmWrite (req : Requester) (val : Word) (s : State) : Host.Outcome State Fault Refusal :=
  run s (.gafAlarmWrite req val) (access req (alarmSet val.toNat) s)

end Sys2Proof.Machine
end

