-- ==== Sys2Proof/Machine/HostRegs.lean ====
section
/-! DEFINITION. Reads and writes of the register map by access type (R12 to R16, R454 to R457), BAR 2 (R459), and the
management SPI (R476). -/

namespace Sys2Proof.Machine

-- Command registers -----------------------------------------------------------------------------------------------

/-- Apply `f` where bit `b` of the written word is set. -/
def ifBit (v : Word) (b : Nat) (f : State → State) (s : State) : State := if v.toNat.testBit b then f s else s

/-- A word written to UPD_CMD: codes outside the table are DENIED. -/
def updCmd (req : Requester) (op : Nat) (s : State) : State :=
  match op with
  | 1 => updOpenDo s
  | 2 => updCloseDo s
  | 3 => updCommitDo s
  | 4 => updVerifyDo s
  | 5 => updActivateDo s
  | 6 => updConfirmDo s
  | 7 => updDiscardDo s
  | 8 => updRestartDo s
  | 9 => updAttestDo req s
  | _ => hostResult 2 s

/-- A word written to RXU_CMD. -/
def rxuCmd (req : Requester) (v : Word) (s : State) : State :=
  if v.toNat.testBit 2 then enterSafeDo s else if v.toNat.testBit 1 then releaseAuthDo req s else ifBit v 0 (releaseDo req) s

/-- Index of an address in an array of `n` registers at `base`, `stride` bytes apart. -/
def idxIn (base stride n a : Nat) : Option Nat :=
  if base ≤ a ∧ (a - base) % stride = 0 ∧ (a - base) / stride < n then some ((a - base) / stride) else none

/-- What a word does that is written to a command register with an index. -/
def cmdIndexed (req : Requester) (a : Nat) (v : Word) : Option (State → State) :=
  ((idxIn (R.PORT_CAN_CMD 20) 0x10000 16 a).map (fun n => canRecoverDo n v)).orElse fun _ =>
  ((idxIn (R.PORT_ETH_CMD 0) 0x10000 18 a).map (fun p => ethRestartDo p v)).orElse fun _ =>
  ((idxIn (R.HDMA_RING_CTRL 0) 0x20 64 a).map (fun k => ringCtrl k v.toNat)).orElse fun _ =>
  ((idxIn (R.HDMA_FRAME_SEL 0) 4 16 a).map (fun w => frameSel req w v.toNat .ok)).orElse fun _ =>
  (idxIn (R.PORT19_CP_TX 0) 0x20 4 a).map (fun k => cpTx req k v.toNat)

/-- What a word does that is written to a command register. -/
def cmdWrite (req : Requester) (a : Nat) (v : Word) : Option (State → State) :=
  if a = R.SVY_CMD then some (svyCmdGoDo v)
  else if a = R.CPL_STALL_LIMIT then some (stallLimit req (fld v.toNat 9 0))
  else if a = R.CPL_FREE then some (cplFreeWrite req v.toNat)
  else if a = R.SNAP_CMD then some (snapGoDo v)
  else if a = R.RXU_SO_SET then some (soSetDo req v)
  else if a = R.RXU_SO_CMD then some (soClearLatchDo v)
  else if a = R.RXU_CMD then some (rxuCmd req v)
  else if a = R.RXU_FAULTN then some (rxuFaultnWriteDo req v)
  else if a = R.TIM_CMD then some (fun s => ifBit v 2 (stepToSetDo) (ifBit v 0 latchDo s))
  else if a = R.TIM_GM_ADJ then some (timGmAdjDo req v)
  else if a = R.GAF_NM_CMD then some (clearSuppressDo v)
  else if a = R.GAF_RUNG_LIMIT then some (gafRungLimitDo req v)
  else if a = R.GAF_CMD then some (hostWakeAckDo v)
  else if a = R.GAF_ALARM then some (alarmSet v.toNat)
  else if a = R.REC_CMD then some (fun s => ifBit v 2 unfreezeDo (ifBit v 1 triggerDo s))
  else if a = R.UPD_CMD then some (updCmd req (fld v.toNat 7 0))
  else if a = R.HDMA_MBX_CMD then some (mbxWrite req v.toNat)
  else if a = R.HDMA_MBX_ANSWER then some (mbxReply req v.toNat)
  else cmdIndexed req a v

-- Writes by access type (R13, R14) --------------------------------------------------------------------------------

/-- The word a register holds after `v` is written to it: RW and WO bits take the written value, W1S bits are set and
W1C bits cleared by a 1, and every other bit keeps its value. -/
def typedWord (r : RegRow) (w old v : Nat) : Nat :=
  let take := r.mask r.rw w ||| r.mask r.wo w
  let clr := r.mask r.w1c w &&& v
  let set := r.mask r.w1s w &&& v
  let kept := old - (old &&& (take ||| clr))
  (kept + (v &&& take)) ||| set

/-- What follows a plain write of the register at `a`: the pending bit of a watermark notice (R96), and the snapshot
schedule (R240). -/
def afterWrite (a : Nat) (v : Word) (s : State) : State :=
  if a = R.SNAP_SCHED_CFG ∨ a = R.SNAP_SCHED_PERIOD ∨ a = R.SNAP_SCHED_START ∨ a = R.SNAP_SCHED_START + 4 then snapArm s
  else match idxIn (R.CPL_WM_NOTICE 0) 0x10 64 a with
    | some w =>
      let s := wrf s (R.CPL_WM_PEND (w / 32)) (w % 32) (w % 32) (if fld (rd s a) 31 30 = 0 then 0 else 1)
      ifBit v 29 (wmClrStatsDo w) s
    | none => s

/-- Writes that a block refuses by its own rules: a snapshot period out of range (R245), and a completion base while its
ring is enabled (R467). -/
def rangeDenied (s : State) (a : Nat) (v : Word) : Bool :=
  if a = R.SNAP_SCHED_PERIOD then decide (v.toNat < 1000 ∨ 60000000 < v.toNat)
  else match (idxIn (R.HDMA_RING_CMPL 0) 0x20 64 a).orElse fun _ => idxIn (R.HDMA_RING_CMPL 0 + 4) 0x20 64 a with
    | some k => rdb s (R.HDMA_RING_CTRL k) 31
    | none => false

/-- A write of a register that is no command register (R13, R16): RL fields report DENIED, and so does any register of the
vault that is not write-1-to-clear. -/
def plainWrite (req : Requester) (a : Nat) (v : Word) (s : State) : State :=
  match regAt a with
  | none => s
  | some (r, w) =>
    if r.mask r.rl w ≠ 0 ∨ rangeDenied s a v = true ∨ (a >>> 24 = 9 ∧ r.mask r.w1c w = 0) then deniedWrite req a s
    else if r.mask r.rw w ||| r.mask r.wo w ||| r.mask r.w1c w ||| r.mask r.w1s w = 0 then s
    else
      -- CLR_STATS is a command of its register and is not kept
      -- a bit that was set at this instant stays set (R14)
      let n := v.toNat - (v.toNat &&& r.mask r.w1c w &&& s.router.w1cSet.getD a 0)
      let x := typedWord r w (rd s a) n
      afterWrite a v (wr s a (if (idxIn (R.CPL_WM_NOTICE 0) 0x10 64 a).isSome then putFld x 29 29 0 else x))

/-- A whole word written to the register map at `a` (R12, R454, R456). -/
def regWrite (req : Requester) (a : Nat) (v : Word) (s : State) : State :=
  if reqIsHost req && fwReserved a then deniedAccess req a false s
  else match cmdWrite req a v with
    | some f => f s
    | none => plainWrite req a v s

-- BAR 2 (R459, R462) ----------------------------------------------------------------------------------------------

/-- Where BAR 2 stands in the operand of REGISTER_WRITE (log entry 2). -/
def bar2Base : Nat := 0x200000000

/-- Word i of a descriptor replaced. -/
def descPut (d : Nat × Nat × Nat) (i v : Nat) : Nat × Nat × Nat :=
  match i with
  | 0 => (putFld d.1 31 0 v, d.2)
  | 1 => (putFld d.1 63 32 v, d.2)
  | 2 => (d.1, v, d.2.2)
  | _ => (d.1, d.2.1, v)

/-- A word written to ring k's descriptor window: the slots from CONS to PROD − 1 refuse it (R462). -/
def descWrite (k o v : Nat) (s : State) : State :=
  let size := ringSize s k
  let i := o / 16
  if !rdb s (R.HDMA_RING_CFG k) 31 || decide (size ≤ i) then s
  else
    let cons := rdf s (R.HDMA_RING_IDX k) 31 16
    if (i + size - cons % size) % size < ringPosted s k then denied .hostPcie (bar2Base + 0x4000 * k + o) false s
    else
      let d := descPut (s.host.descs.getD (1024 * k + i) (0, 0, 0)) (o % 16 / 4) v
      { s with host := { s.host with descs := s.host.descs.set (1024 * k + i) d (0, 0, 0) } }

/-- A word written to the MSI-X table: a vector that is unmasked sends its pending message (R466). -/
def msixWrite (o v : Nat) (s : State) : State :=
  let e := o / 16
  if o % 16 < 12 then { s with host := { s.host with msixTable := s.host.msixTable.set (o / 4) v 0 } }
  else if v.testBit 0 then { s with router := { s.router with msixMask := s.router.msixMask ||| 2 ^ e } }
  else
    let owed := s.router.msixPend.testBit e
    let s := { s with router := { s.router with msixMask := putFld s.router.msixMask e e 0
                                                msixPend := putFld s.router.msixPend e e 0 } }
    if owed then msix e s else s

/-- A word written at offset `o` of BAR 2. -/
def bar2Write (o v : Nat) (s : State) : State :=
  if o % 4 ≠ 0 then s
  else if o < 0x100000 then descWrite (o / 0x4000) (o % 0x4000) v s
  else if o < 0x100400 then msixWrite (o - 0x100000) v s
  else if 0x102000 ≤ o ∧ o < 0x102100 then doorbell ((o - 0x102000) / 4) v s
  else s

/-- What execRegisterWrite does. -/
def registerWriteDo (req : Requester) (addr : Nat) (be : BitVec 4) (val : Word) (s : State) : State :=
  if bar2Base ≤ addr then (if req = .hostPcie then access req (bar2Write (addr - bar2Base) val.toNat) s else s)
  else access req (regWrite req addr val) s

/-- REGISTER_WRITE: a write with fewer than four byte enables is ignored (R12); BAR 2 is the PCIe host's alone. -/
def execRegisterWrite (req : Requester) (addr : Nat) (be : BitVec 4) (val : Word) (s : State) :
    Host.Outcome State Fault Refusal :=
  run s (.registerWrite req addr be val)
    (if be ≠ 15 then s else
     registerWriteDo req addr be val s)

-- Reads (R13, R16) ------------------------------------------------------------------------------------------------

/-- The word at offset `o` of the recorder's region: of a record its ring holds, 0 elsewhere, REC_WINDOW's Reset value (R18,
R386, R396). -/
def recWord (o : Nat) (s : State) : Nat :=
  let ring := (List.range 4).find? (fun r =>
    let b := rdf s (R.REC_RING r) 11 0 * 0x100000
    decide (b ≤ o ∧ o < b + recRingBytes s r))
  match ring with
  | none => 0
  | some r =>
    let size := recRingBytes s r
    let rel := (o - rdf s (R.REC_RING r) 11 0 * 0x100000 + size - rd s (R.REC_RING_TAIL r) % size) % size
    let b := (s.recd.rings.getD r []).flatMap Rec.bytes
    leAt b rel 4

/-- Bits of a word of an Ethernet port's block that apply to the port's kind (R219, R226, R231); the others read 0. -/
def ethKindMask (a : Nat) : Nat :=
  let p := (a - 0x1000000) / 0x10000
  let all := 0xFFFFFFFF
  if a < 0x1000000 ∨ 0x1120000 ≤ a then all else
  match a % 0x10000 with
  | 0x00 => if 12 ≤ p ∧ p ≤ 15 then all - 0x8000 else all
  | 0x0C => if p ≤ 11 then all else 0
  | 0x10 => if p ≤ 3 then all else 0
  | 0x24 => if p ≤ 11 then all else 0
  | 0x14 => if p ≤ 3 then all else 0
  | 0x18 => if 12 ≤ p ∧ p ≤ 15 then all else 0
  | 0x1C => if 12 ≤ p ∧ p ≤ 15 then all else 0
  | _ => all

/-- The value that a read of a word answers: SCH_Q_TOKENS of a shaped queue refills continuously (R115), and VLT_KT_ATTR reads
0 until the call sheet has loaded (R18, R289). -/
def liveWord (s : State) (a : Nat) : Nat :=
  if ktAddr 0 0 ≤ a && a < ktAddr 2048 0 && !sheetLive s then 0 else
  let q := (a - R.SCH_Q_TOKENS 0) / 0x10
  if R.SCH_Q_TOKENS 0 ≤ a && a % 0x10 == 0xC && q < 152 && shaperOn s q then toU32 (shaperLevel s q / 125000) else rd s a

/-- One word read from the register map by a single access, with its side effects; an empty queue answers the EMPTY token
(R476). -/
def busRead (req : Requester) (a : Nat) (s : State) : Nat × State :=
  if reqIsHost req && fwReserved a then reservedRead req a s
  else if a = R.ID_REQUESTER then (reqCode req, s)
  else if a = R.EVT_FIFO 0 then
    let r := fifoPop 0 s
    (r.1.getD emptyToken, r.2)
  else if R.REC_WINDOW ≤ a ∧ a < R.REC_WINDOW + 0x800000 ∧ a % 4 = 0 then
    (recWord (rdf s R.REC_WIN_BASE 11 0 * 0x100000 + (a - R.REC_WINDOW)) s, s)
  else if 0xC100000 ≤ a ∧ a < 0xC500000 ∧ a % 4 = 0 then (rd s a, s)
  else match regAt a with
    | none => (0, s)
    | some (r, w) => ((liveWord s a - (rd s a &&& r.mask r.wo w)) &&& ethKindMask a, s)

/-- Consecutive words read from `a`. -/
def busReadN (req : Requester) : Nat → Nat → State → List Nat × State
  | 0, _, s => ([], s)
  | n + 1, a, s =>
    let r := busRead req a s
    let t := busReadN req n (a + 4) r.2
    (r.1 :: t.1, t.2)

-- Pops (R103, R456, R459, R473) -------------------------------------------------------------------------------------

/-- A register whose read pops: those reserved for firmware, and EVT_FIFO[0]. -/
def popReg (a : Nat) : Bool := fwPop a || a == R.EVT_FIFO 0

/-- The words of a read of more than one DWord from `a`: an RS register returns the EMPTY token and pops nothing (R459). -/
def wideRead (req : Requester) : Nat → Nat → State → List Nat × State
  | 0, _, s => ([], s)
  | n + 1, a, s =>
    let r := if popReg a && !(reqIsHost req && fwReserved a) then (emptyToken, s) else busRead req a s
    let t := wideRead req n (a + 4) r.2
    (r.1 :: t.1, t.2)

/-- A read of `dwords` DWords from a pop register at `a`: one DWord pops by `pop`, unless the register is reserved to firmware
and the read is a host's (R456, R459). -/
def popRead (req : Requester) (a dwords : Nat) (be : BitVec 4) (pop : State → State) (s : State) : State :=
  if dwords ≠ 1 then
    let r := wideRead req dwords a s
    answer r.1 r.2
  else if reqIsHost req && fwReserved a then
    let r := reservedRead req a s
    answer [addressed be r.1] r.2
  else pop s

/-- Effect of execCplPopRead's access. -/
def cplPopReadDo (req : Requester) (k : Nat) (dwords : Nat) (be : BitVec 4) (ecc : PoolEcc) (s : State) : State :=
  popRead req (R.CPL_POP k) dwords be (popOne req k be ecc) s

/-- CPL_POP_READ: a single-DWord read of firmware pops; a longer one returns EMPTY tokens, and a host's is DENIED (R456,
R459). -/
def execCplPopRead (req : Requester) (k dwords : Nat) (s : State) (be : BitVec 4 := 0xF) (ecc : PoolEcc := .ok) :
    Host.Outcome State Fault Refusal :=
  run s (.cplPopRead req k dwords be ecc) (access req (cplPopReadDo req k dwords be ecc) s)

/-- One item popped from FIFO t, or the read stalls; the SPI never stalls (R473, R476). -/
def fifoTake (req : Requester) (t : Nat) (be : BitVec 4) (s : State) : State :=
  let r := fifoPop t s
  match r.1 with
  | some x => answer [addressed be x] r.2
  | none => if req = .spi then answer [addressed be emptyToken] s else stall req true t be s

/-- Effect of execEvtFifoPop's access. -/
def evtFifoPopDo (req : Requester) (t : Nat) (dwords : Nat) (be : BitVec 4) (s : State) : State :=
  popRead req (R.EVT_FIFO t) dwords be (fifoTake req t be) s

/-- EVT_FIFO_POP (R456, R459, R473, R476): FIFOs 1 to 5 are firmware's, a read of more than one DWord pops nothing, and
the SPI never stalls. -/
def execEvtFifoPop (req : Requester) (t dwords : Nat) (s : State) (be : BitVec 4 := 0xF) : Host.Outcome State Fault Refusal :=
  run s (.evtFifoPop req t dwords be) (access req (evtFifoPopDo req t dwords be) s)

/-- The word at offset `o` of BAR 2: a descriptor window, 0 in its unused space, the MSI-X table or the pending bits (R459). What
a doorbell reads the spec does not say: a free value (DESIGN CHOICE, log entry 259). -/
def bar2Word (o : Nat) (s : State) : Nat × State :=
  if o % 4 ≠ 0 then (0, s)
  else if o < 0x100000 then
    let k := o / 0x4000
    let i := o % 0x4000 / 16
    let d := s.host.descs.getD (1024 * k + i) (0, 0, 0)
    if !rdb s (R.HDMA_RING_CFG k) 31 || decide (ringSize s k ≤ i) then (0, s)
    else ((match o % 16 / 4 with
      | 0 => fld d.1 31 0
      | 1 => fld d.1 63 32
      | 2 => d.2.1
      | _ => d.2.2), s)
  else if o < 0x100400 then
    let e := (o - 0x100000) / 16
    (if o % 16 < 12 then s.host.msixTable.getD ((o - 0x100000) / 4) 0 else fld s.router.msixMask e e, s)
  else if o = 0x101000 then (fld s.router.msixPend 31 0, s)
  else if o = 0x101004 then (fld s.router.msixPend 63 32, s)
  else if 0x102000 ≤ o ∧ o < 0x102100 then
    let r := free s
    (fld r.1 31 0, r.2)
  else (0, s)

/-- Consecutive words of BAR 2 from offset `o`. -/
def bar2Read : Nat → Nat → State → List Nat × State
  | 0, _, s => ([], s)
  | n + 1, o, s =>
    let r := bar2Word o s
    let t := bar2Read n (o + 4) r.2
    (r.1 :: t.1, t.2)

/-- A read of `dwords` DWords at `addr`: of BAR 2, by the PCIe host; of a pop register, which pops in a single-DWord read
alone; or of consecutive registers (R12, R456, R459). -/
def mapRead (req : Requester) (addr dwords : Nat) (be : BitVec 4) (s : State) : State :=
  if bar2Base ≤ addr then
    if req = .hostPcie then
      let r := bar2Read dwords (addr - bar2Base) s
      answer (if dwords = 1 then r.1.map (addressed be) else r.1) r.2
    else s
  else match idxIn (R.CPL_POP 0) 4 64 addr, idxIn (R.EVT_FIFO 0) 4 6 addr with
    | some k, _ => cplPopReadDo req k dwords be .ok s
    | none, some t => evtFifoPopDo req t dwords be s
    | none, none =>
      let r := wideRead req dwords addr s
      answer (if dwords = 1 then r.1.map (addressed be) else r.1) r.2

/-- HOST_RESERVED_READ: a read of the host's, of a reserved register or of any other place of BAR 0 or BAR 2 (R456, R459; log
entry 259). -/
def execHostReservedRead (req : Requester) (addr : Nat) (s : State) (be : BitVec 4 := 0xF) (dwords : Nat := 1) :
    Host.Outcome State Fault Refusal :=
  run s (.hostReservedRead req addr be dwords) (access req (mapRead req addr dwords be) s)

-- The management SPI (R476) ---------------------------------------------------------------------------------------

/-- Words written one after the other from `a`. -/
def spiWords (a : Nat) : List Word → State → State
  | [], s => s
  | v :: t, s => spiWords (a + 4) t (regWrite .spi a v s)

/-- Effect of execSpiWrite's access: MISO is 0x00 while the address and the whole words are shifted in. -/
def spiWriteDo (addr : Nat) (words : List Word) (s : State) : State :=
  emit (.miso (List.replicate (4 + 4 * words.length) 0)) (spiWords addr words s)

/-- SPI_WRITE: a word cut short by MSPI_CS_N is not written. -/
def execSpiWrite (addr : Nat) (words : List Word) (cutShort : Bool) (s : State) : Host.Outcome State Fault Refusal :=
  run s (.spiWrite addr words cutShort) (access .spi (spiWriteDo addr (if cutShort then words.dropLast else words)) s)

/-- Words as bytes on MSPI_MISO, byte 0 of each first. -/
def misoWords (l : List Nat) : List Byte := l.flatMap (fun w => leBytes w 4)

/-- Effect of execSpiRead's access. -/
def spiReadDo (addr : Nat) (count : Nat) (ready : Bool) (wait : Nat) (s : State) : State :=
  let idle : List Byte := List.replicate wait 0xFF
  if ready then
    let r := busReadN .spi count addr s
    answer r.1 (emit (.miso (idle ++ 0x5A :: misoWords r.1)) r.2)
  else emit (.miso (idle ++ [0xE5])) s

/-- SPI_READ: 0xFF in the `wait` bytes that the read takes, then the ready marker and consecutive words, or 0xE5 where the
read is not ready within 2 ms. -/
def execSpiRead (addr count : Nat) (ready : Bool) (s : State) (wait : Nat := 0) : Host.Outcome State Fault Refusal :=
  run s (.spiRead addr count ready wait) (access .spi (spiReadDo addr count ready wait) s)

/-- The status byte; below Doze the pulled-down MISO reads 0. -/
def statusByte (s : State) : Nat :=
  if s.gaf.inReset || decide (2 < rung s) then 0 else
  1 + (if limp s then 2 else 0) + (if inSafe s then 4 else 0) + (if loaderOnly s then 8 else 0) + (if mbxBusy s then 16 else 0)

/-- SPI_STATUS. -/
def execSpiStatus (s : State) : Host.Outcome State Fault Refusal :=
  run s .spiStatus
    (answer [statusByte s] (emit (.miso [BitVec.ofNat 8 (statusByte s)]) s))

end Sys2Proof.Machine
end

