-- ==== Sys2Proof/Machine/Dispatch.lean ====
section
/-! DEFINITION. One arm per command of the table: a direct call of its meaning. -/

namespace Sys2Proof.Machine

/-- The effect of a command on everything but the queue. -/
def exec (i : Instr) (s : State) : Host.Outcome State Fault Refusal :=
  match i with
  | .registerWrite req addr be val => Sys2Proof.Machine.execRegisterWrite req addr be val s
  | .hostReservedRead req addr be dwords => Sys2Proof.Machine.execHostReservedRead req addr s be dwords
  | .cplPopRead req k dwords be ecc => Sys2Proof.Machine.execCplPopRead req k dwords s be ecc
  | .popStallExpire req => Sys2Proof.Machine.execPopStallExpire req s
  | .stallLimitWrite req val => Sys2Proof.Machine.execStallLimitWrite req val s
  | .cplFree req val => Sys2Proof.Machine.execCplFree req val s
  | .powerOn mv tstDriven meshBroken reservoirLow entropyFails kt => Sys2Proof.Machine.execPowerOn mv tstDriven meshBroken reservoirLow entropyFails s kt
  | .powerFail mv lowMs => Sys2Proof.Machine.execPowerFail mv lowMs s
  | .powerRestart mv heldMs => Sys2Proof.Machine.execPowerRestart mv heldMs s
  | .feedLost mvA mvB => Sys2Proof.Machine.execFeedLost mvA mvB s
  | .supplyRange mv => Sys2Proof.Machine.execSupplyRange mv s
  | .tempMeasure mainDie phyDie lineDie lid => Sys2Proof.Machine.execTempMeasure mainDie phyDie lineDie lid s
  | .unitPowerStep unit regulated waited microOk rail => Sys2Proof.Machine.execUnitPowerStep unit regulated waited s microOk rail
  | .coreRailRetry regulated => Sys2Proof.Machine.execCoreRailRetry regulated s
  | .reservoirCharged tstDriven entropyFails => Sys2Proof.Machine.execReservoirCharged tstDriven entropyFails s
  | .sheetLoad => Sys2Proof.Machine.execSheetLoad s
  | .canTermMeasureDone n ohmX10 recH recL domDiff st => Sys2Proof.Machine.execCanTermMeasureDone n ohmX10 recH recL domDiff st s
  | .canTermNoIdle n => Sys2Proof.Machine.execCanTermNoIdle n s
  | .reflectometryDone g results => Sys2Proof.Machine.execReflectometryDone g results s
  | .polarityWindowEnd => Sys2Proof.Machine.execPolarityWindowEnd s
  | .canRoleSwap n => Sys2Proof.Machine.execCanRoleSwap n s
  | .startConditionsEvaluate => Sys2Proof.Machine.execStartConditionsEvaluate s
  | .svyCmdGo req val => Sys2Proof.Machine.execSvyCmdGo req val s
  | .surveyComplete items => Sys2Proof.Machine.execSurveyComplete items s
  | .frameReceive p data room => Sys2Proof.Machine.execFrameReceive p data room s
  | .frameLookup p lku col colAt pool => Sys2Proof.Machine.execFrameLookup p lku col s colAt pool
  | .frameTail p fcsOk symbolErr => Sys2Proof.Machine.execFrameTail p fcsOk symbolErr s
  | .wmClrStats req w => Sys2Proof.Machine.execWmClrStats req w s
  | .spillCopy d ecc => Sys2Proof.Machine.execSpillCopy d s ecc
  | .refillCopy d dramError => Sys2Proof.Machine.execRefillCopy d dramError s
  | .egressSelect p ecc sched => Sys2Proof.Machine.execEgressSelect p ecc s sched
  | .frameTxStart p collision => Sys2Proof.Machine.execFrameTxStart p collision s
  | .frameTxComplete p fcsStoredOk => Sys2Proof.Machine.execFrameTxComplete p fcsStoredOk s
  | .gateEntryChange p ecc => Sys2Proof.Machine.execGateEntryChange p ecc s
  | .canPqMove n ecc => Sys2Proof.Machine.execCanPqMove n s ecc
  | .canArbitrationStart n => Sys2Proof.Machine.execCanArbitrationStart n s
  | .pauseReceived p opcode quanta enable fcsOk => Sys2Proof.Machine.execPauseReceived p opcode quanta enable fcsOk s
  | .pauseExpire p c => Sys2Proof.Machine.execPauseExpire p c s
  | .pauseRepeat p c => Sys2Proof.Machine.execPauseRepeat p c s
  | .lpiEnter p rx => Sys2Proof.Machine.execLpiEnter p rx s
  | .linkUp p rate leader eeeAgreed stepAgreed partner => Sys2Proof.Machine.execLinkUp p rate leader eeeAgreed stepAgreed partner s
  | .linkDown p => Sys2Proof.Machine.execLinkDown p s
  | .linkHoldExpire p => Sys2Proof.Machine.execLinkHoldExpire p s
  | .anFail p partner => Sys2Proof.Machine.execAnFail p partner s
  | .ethRestart req p val => Sys2Proof.Machine.execEthRestart req p val s
  | .plcaBeaconLoss p => Sys2Proof.Machine.execPlcaBeaconLoss p s
  | .plcaBeaconReceived p => Sys2Proof.Machine.execPlcaBeaconReceived p s
  | .stepWindow p txBytes rxBytes partnerDown partnerUp headWaitUs => Sys2Proof.Machine.execStepWindow p txBytes rxBytes partnerDown partnerUp headWaitUs s
  | .stepComplete p durationNs => Sys2Proof.Machine.execStepComplete p durationNs s
  | .stepFail p => Sys2Proof.Machine.execStepFail p s
  | .tc10SleepRequestRx p => Sys2Proof.Machine.execTc10SleepRequestRx p s
  | .tc10HandshakeDone p => Sys2Proof.Machine.execTc10HandshakeDone p s
  | .sqiUpdate p sqi => Sys2Proof.Machine.execSqiUpdate p sqi s
  | .phyFault p => Sys2Proof.Machine.execPhyFault p s
  | .snapGo req val => Sys2Proof.Machine.execSnapGo req val s
  | .snapSchedule => Sys2Proof.Machine.execSnapSchedule s
  | .snapComplete => Sys2Proof.Machine.execSnapComplete s
  | .holeTimeout c => Sys2Proof.Machine.execHoleTimeout c s
  | .recoveryReset c => Sys2Proof.Machine.execRecoveryReset c s
  | .latentTest c => Sys2Proof.Machine.execLatentTest c s
  | .latentReset c => Sys2Proof.Machine.execLatentReset c s
  | .canConvert cells mem => Sys2Proof.Machine.execCanConvert s cells mem
  | .encapMessage cells mem => Sys2Proof.Machine.execEncapMessage s cells mem
  | .encapWindowExpire e => Sys2Proof.Machine.execEncapWindowExpire e s
  | .unpack1722 cells mem => Sys2Proof.Machine.execUnpack1722 s cells mem
  | .signalFrame cells mem => Sys2Proof.Machine.execSignalFrame s cells mem
  | .signalGroupApply t ecc => Sys2Proof.Machine.execSignalGroupApply t ecc s
  | .pduPeriodicTx l => Sys2Proof.Machine.execPduPeriodicTx l s
  | .pduGapEnd l => Sys2Proof.Machine.execPduGapEnd l s
  | .pduRxTimeout l => Sys2Proof.Machine.execPduRxTimeout l s
  | .transportPacket cells mem => Sys2Proof.Machine.execTransportPacket s cells mem
  | .tpTimerExpire sess => Sys2Proof.Machine.execTpTimerExpire sess s
  | .tpBamPacket sess => Sys2Proof.Machine.execTpBamPacket sess s
  | .j1939ClaimTimer n => Sys2Proof.Machine.execJ1939ClaimTimer n s
  | .j1939ClaimReceived n address name => Sys2Proof.Machine.execJ1939ClaimReceived n address name s
  | .j1939RequestReceived n dest => Sys2Proof.Machine.execJ1939RequestReceived n dest s
  | .canIntegrated n => Sys2Proof.Machine.execCanIntegrated n s
  | .canFrameReceived n frame negative since dataPhase => Sys2Proof.Machine.execCanFrameReceived n frame negative since s dataPhase
  | .canTxSuccess n nearPs farPs tdcv => Sys2Proof.Machine.execCanTxSuccess n nearPs farPs tdcv s
  | .canErrorDetected n kind asTx domInPassiveFlag extra8 tdcv place => Sys2Proof.Machine.execCanErrorDetected n kind asTx domInPassiveFlag extra8 tdcv s place
  | .canRecoveryComplete n => Sys2Proof.Machine.execCanRecoveryComplete n s
  | .canRecover req n val => Sys2Proof.Machine.execCanRecover req n val s
  | .canDomTimeout n => Sys2Proof.Machine.execCanDomTimeout n s
  | .canProtocolException n => Sys2Proof.Machine.execCanProtocolException n s
  | .lonelyProbe n => Sys2Proof.Machine.execLonelyProbe n s
  | .canTerminationApply n => Sys2Proof.Machine.execCanTerminationApply n s
  | .canTrcvFault n => Sys2Proof.Machine.execCanTrcvFault n s
  | .clapperSyncDue n => Sys2Proof.Machine.execClapperSyncDue n s
  | .clapperAbandon n => Sys2Proof.Machine.execClapperAbandon n s
  | .followupAbandon n => Sys2Proof.Machine.execFollowupAbandon n s
  | .linSlotStart m readbackOk => Sys2Proof.Machine.execLinSlotStart m readbackOk s
  | .linResponseReceived m ident data checksum framingErr room => Sys2Proof.Machine.execLinResponseReceived m ident data checksum framingErr s room
  | .linNoResponse m => Sys2Proof.Machine.execLinNoResponse m s
  | .linHeaderReceived m ident baud breakBits since readbackOk => Sys2Proof.Machine.execLinHeaderReceived m ident baud breakBits since s readbackOk
  | .linBusStuck m => Sys2Proof.Machine.execLinBusStuck m s
  | .linGoToSleepRx m => Sys2Proof.Machine.execLinGoToSleepRx m s
  | .linInactivity m => Sys2Proof.Machine.execLinInactivity m s
  | .swSample mv => Sys2Proof.Machine.execSwSample mv s
  | .swWakePoll k mv => Sys2Proof.Machine.execSwWakePoll k mv s
  | .soSet req val => Sys2Proof.Machine.execSoSet req val s
  | .soDiag k ma mv testMv tempC atLimit1ms mismatch1ms => Sys2Proof.Machine.execSoDiag k ma mv testMv tempC atLimit1ms mismatch1ms s
  | .soCooled k => Sys2Proof.Machine.execSoCooled k s
  | .soClearLatch req val => Sys2Proof.Machine.execSoClearLatch req val s
  | .syncReceived d p offsetNs originNs corrNs twoStep => Sys2Proof.Machine.execSyncReceived d p offsetNs s originNs corrNs twoStep
  | .timeStep => Sys2Proof.Machine.execTimeStep s
  | .syncTimeout d => Sys2Proof.Machine.execSyncTimeout d s
  | .holdoverExpire => Sys2Proof.Machine.execHoldoverExpire s
  | .pdelayExchange p delayNs nrrPpb => Sys2Proof.Machine.execPdelayExchange p delayNs nrrPpb s
  | .timGmAdj req val => Sys2Proof.Machine.execTimGmAdj req val s
  | .stepToSet req => Sys2Proof.Machine.execStepToSet req s
  | .latch req => Sys2Proof.Machine.execLatch req s
  | .ppsPulse => Sys2Proof.Machine.execPpsPulse s
  | .ppsLandFault => Sys2Proof.Machine.execPpsLandFault s
  | .clockCheck ppm => Sys2Proof.Machine.execClockCheck ppm s
  | .vaultDerive req idx ecc => Sys2Proof.Machine.execVaultDerive req idx s ecc
  | .vaultGenerate req idx ecc => Sys2Proof.Machine.execVaultGenerate req idx s ecc
  | .vaultInvalidate req idx ecc => Sys2Proof.Machine.execVaultInvalidate req idx s ecc
  | .vaultDelete req idx ecc => Sys2Proof.Machine.execVaultDelete req idx s ecc
  | .vaultImport req blob ecc => Sys2Proof.Machine.execVaultImport req blob s ecc
  | .rotateKem req => Sys2Proof.Machine.execRotateKem req s
  | .tamperDetected sources => Sys2Proof.Machine.execTamperDetected sources s
  | .openRequest others value tap => Sys2Proof.Machine.execOpenRequest others s value tap
  | .cipherJobPlace inverseOk ecc => Sys2Proof.Machine.execCipherJobPlace inverseOk ecc s
  | .cipherJobComplete lane coresAgree ecc slot onward => Sys2Proof.Machine.execCipherJobComplete lane coresAgree ecc s slot onward
  | .macsecSaInstall p sc slot an key inUse current sci ssci salt => Sys2Proof.Machine.execMacsecSaInstall p sc slot an key inUse current sci s ssci salt
  | .resyncAnnounceTx d slot => Sys2Proof.Machine.execResyncAnnounceTx d slot s
  | .resyncRequestRx n frame => Sys2Proof.Machine.execResyncRequestRx n frame s
  | .resyncAnnounceRx n frame => Sys2Proof.Machine.execResyncAnnounceRx n frame s
  | .resyncPartTimeout n d => Sys2Proof.Machine.execResyncPartTimeout n d s
  | .needEvaluate => Sys2Proof.Machine.execNeedEvaluate s
  | .nmRequestExpire p => Sys2Proof.Machine.execNmRequestExpire p s
  | .silenceExpire p => Sys2Proof.Machine.execSilenceExpire p s
  | .wrapCommit p => Sys2Proof.Machine.execWrapCommit p s
  | .mediumAsleep p => Sys2Proof.Machine.execMediumAsleep p s
  | .keepaliveTx p => Sys2Proof.Machine.execKeepaliveTx p s
  | .keepaliveRx p => Sys2Proof.Machine.execKeepaliveRx p s
  | .coupleHoldExpire p => Sys2Proof.Machine.execCoupleHoldExpire p s
  | .wakeDetected src => Sys2Proof.Machine.execWakeDetected src s
  | .falseWakeJudge idx => Sys2Proof.Machine.execFalseWakeJudge idx s
  | .clearSuppress req val => Sys2Proof.Machine.execClearSuppress req val s
  | .nmStuck p => Sys2Proof.Machine.execNmStuck p s
  | .rungEvaluate wakeReqN => Sys2Proof.Machine.execRungEvaluate s wakeReqN
  | .dwellExpire => Sys2Proof.Machine.execDwellExpire s
  | .rungReached slow => Sys2Proof.Machine.execRungReached slow s
  | .holdEnter => Sys2Proof.Machine.execHoldEnter s
  | .resumeComplete resumeDigestOk kt => Sys2Proof.Machine.execResumeComplete resumeDigestOk s kt
  | .gafRungLimitWrite req val => Sys2Proof.Machine.execGafRungLimitWrite req val s
  | .hostWakeAck req val => Sys2Proof.Machine.execHostWakeAck req val s
  | .hostWakeTimeout => Sys2Proof.Machine.execHostWakeTimeout s
  | .wakeReqNFall low => Sys2Proof.Machine.execWakeReqNFall low s
  | .gafAlarmWrite req val => Sys2Proof.Machine.execGafAlarmWrite req val s
  | .alarmFire => Sys2Proof.Machine.execAlarmFire s
  | .lowBattCheck mv => Sys2Proof.Machine.execLowBattCheck mv s
  | .faultLineAssert l => Sys2Proof.Machine.execFaultLineAssert l s
  | .resetUnitDone l => Sys2Proof.Machine.execResetUnitDone l s
  | .reactionEscalate l => Sys2Proof.Machine.execReactionEscalate l s
  | .shadowSettleEnd l => Sys2Proof.Machine.execShadowSettleEnd l s
  | .enterSafe req => Sys2Proof.Machine.execEnterSafe req s
  | .faultnPulseDone => Sys2Proof.Machine.execFaultnPulseDone s
  | .rxuFaultnWrite req val => Sys2Proof.Machine.execRxuFaultnWrite req val s
  | .release req => Sys2Proof.Machine.execRelease req s
  | .releaseAuth req => Sys2Proof.Machine.execReleaseAuth req s
  | .rxuTableFault ecc => Sys2Proof.Machine.execRxuTableFault ecc s
  | .lineTest l registered => Sys2Proof.Machine.execLineTest l registered s
  | .safeFrameDue b => Sys2Proof.Machine.execSafeFrameDue b s
  | .safeFrameLate b => Sys2Proof.Machine.execSafeFrameLate b s
  | .gapRecord ring => Sys2Proof.Machine.execGapRecord ring s
  | .traceSampleAdjust => Sys2Proof.Machine.execTraceSampleAdjust s
  | .trigger req => Sys2Proof.Machine.execTrigger req s
  | .windowEnd => Sys2Proof.Machine.execWindowEnd s
  | .freezeComplete nandOk corrected lost => Sys2Proof.Machine.execFreezeComplete nandOk corrected lost s
  | .unfreeze req => Sys2Proof.Machine.execUnfreeze req s
  | .sceneRequest req target => Sys2Proof.Machine.execSceneRequest req target s
  | .sceneSwitch => Sys2Proof.Machine.execSceneSwitch s
  | .updOpen req => Sys2Proof.Machine.execUpdOpen req s
  | .updClose req => Sys2Proof.Machine.execUpdClose req s
  | .updCommit req => Sys2Proof.Machine.execUpdCommit req s
  | .chunkCommitted programOk lost => Sys2Proof.Machine.execChunkCommitted programOk s lost
  | .updVerify req => Sys2Proof.Machine.execUpdVerify req s
  | .takeVerifyDone => Sys2Proof.Machine.execTakeVerifyDone s
  | .updActivate req => Sys2Proof.Machine.execUpdActivate req s
  | .moduleReset => Sys2Proof.Machine.execModuleReset s
  | .updConfirm req => Sys2Proof.Machine.execUpdConfirm req s
  | .updDiscard req => Sys2Proof.Machine.execUpdDiscard req s
  | .updRestart req => Sys2Proof.Machine.execUpdRestart req s
  | .updAttest req => Sys2Proof.Machine.execUpdAttest req s
  | .attestReady => Sys2Proof.Machine.execAttestReady s
  | .sessionTimeout => Sys2Proof.Machine.execSessionTimeout s
  | .bootGood => Sys2Proof.Machine.execBootGood s
  | .trialClockSave => Sys2Proof.Machine.execTrialClockSave s
  | .trialDeadline => Sys2Proof.Machine.execTrialDeadline s
  | .autoConfirm => Sys2Proof.Machine.execAutoConfirm s
  | .actPrepare => Sys2Proof.Machine.execActPrepare s
  | .actTimeReached => Sys2Proof.Machine.execActTimeReached s
  | .udsSessionControl doip sub => Sys2Proof.Machine.execUdsSessionControl doip sub s
  | .udsEcuReset doip sub => Sys2Proof.Machine.execUdsEcuReset doip sub s
  | .udsReadDid doip did => Sys2Proof.Machine.execUdsReadDid doip did s
  | .udsWriteDid doip did value => Sys2Proof.Machine.execUdsWriteDid doip did value s
  | .udsRoutineVerify doip => Sys2Proof.Machine.execUdsRoutineVerify doip s
  | .udsRoutineActivate doip => Sys2Proof.Machine.execUdsRoutineActivate doip s
  | .udsRoutineConfirm doip => Sys2Proof.Machine.execUdsRoutineConfirm doip s
  | .udsRoutineResults doip routine => Sys2Proof.Machine.execUdsRoutineResults doip routine s
  | .udsRequestDownload doip fmt alfid address size => Sys2Proof.Machine.execUdsRequestDownload doip fmt alfid address size s
  | .udsTransferData doip seq data => Sys2Proof.Machine.execUdsTransferData doip seq data s
  | .udsTransferExit doip => Sys2Proof.Machine.execUdsTransferExit doip s
  | .udsUnsupportedService doip sid => Sys2Proof.Machine.execUdsUnsupportedService doip sid s
  | .doipRoutingActivation tester => Sys2Proof.Machine.execDoipRoutingActivation tester s
  | .stohalOpen offset => Sys2Proof.Machine.execStohalOpen offset s
  | .stohalData seq data => Sys2Proof.Machine.execStohalData seq data s
  | .stohalCommit => Sys2Proof.Machine.execStohalCommit s
  | .stohalEnd => Sys2Proof.Machine.execStohalEnd s
  | .stohalActivate => Sys2Proof.Machine.execStohalActivate s
  | .stohalConfirm => Sys2Proof.Machine.execStohalConfirm s
  | .stohalStatus => Sys2Proof.Machine.execStohalStatus s
  | .pcieReset => Sys2Proof.Machine.execPcieReset s
  | .ringDoorbell k prod => Sys2Proof.Machine.execRingDoorbell k prod s
  | .hostDescFetch k data ecc => Sys2Proof.Machine.execHostDescFetch k data ecc s
  | .ringEnable req k val => Sys2Proof.Machine.execRingEnable req k val s
  | .ringDisable req k val => Sys2Proof.Machine.execRingDisable req k val s
  | .ringDmaError k => Sys2Proof.Machine.execRingDmaError k s
  | .completionCoalesceExpire k => Sys2Proof.Machine.execCompletionCoalesceExpire k s
  | .tsReqTimeout k => Sys2Proof.Machine.execTsReqTimeout k s
  | .transportRingWaitExpire => Sys2Proof.Machine.execTransportRingWaitExpire s
  | .cpInject req slot val => Sys2Proof.Machine.execCpInject req slot val s
  | .frameSelect req w val ecc => Sys2Proof.Machine.execFrameSelect req w val s ecc
  | .evtFifoPop req t dwords be => Sys2Proof.Machine.execEvtFifoPop req t dwords s be
  | .evtTickPush => Sys2Proof.Machine.execEvtTickPush s
  | .evtHoldoffExpire v => Sys2Proof.Machine.execEvtHoldoffExpire v s
  | .mbxScene req val => Sys2Proof.Machine.execMbxScene req val s
  | .mbxInvalidate req val => Sys2Proof.Machine.execMbxInvalidate req val s
  | .mbxFirmware req val => Sys2Proof.Machine.execMbxFirmware req val s
  | .mbxOther req val => Sys2Proof.Machine.execMbxOther req val s
  | .mbxAnswer req val => Sys2Proof.Machine.execMbxAnswer req val s
  | .mbxFirmwareTimeout => Sys2Proof.Machine.execMbxFirmwareTimeout s
  | .spiWrite addr words cutShort => Sys2Proof.Machine.execSpiWrite addr words cutShort s
  | .spiRead addr count ready wait => Sys2Proof.Machine.execSpiRead addr count ready s wait
  | .spiStatus => Sys2Proof.Machine.execSpiStatus s
  | .pcieLinkUp gen width bme => Sys2Proof.Machine.execPcieLinkUp gen width bme s
  | .ppsDriverReconnect => Sys2Proof.Machine.execPpsDriverReconnect s
  | .canDriverCooled n => Sys2Proof.Machine.execCanDriverCooled n s
  | .holdExitBeforeSchedule => Sys2Proof.Machine.execHoldExitBeforeSchedule s
  | .faultLineDeassert l => Sys2Proof.Machine.execFaultLineDeassert l s

end Sys2Proof.Machine
end

