-- ==== Sys2Proof/Machine/Tick.lean ====
section
/-! DEFINITION. One cycle of the time base island: what step does while no command waits (log entry 12). Both clocks advance, and what
follows time alone is brought up to date: the commit point of a move, the slew, counters of time, and timers that
registers show. Every other event of time is a command of its own. -/

namespace Sys2Proof.Machine

/-- The crystal is stopped, and the 32,768 Hz oscillator counts: Sleep, Watch and Dormant (R268). -/
def crystalOff (s : State) : Bool := decide (3 ≤ rung s)

/-- Length of the cycle that begins now in ns of device time: 8 at 125 MHz; with the crystal stopped, one count of the
oscillator, 30.517578125 µs, so that a sleep's counts add up without loss (R268). -/
def cycleNs (s : State) : Nat :=
  if crystalOff s then s.gaf.sleepNs + (s.gaf.sleepCount + 1) * 30517578125 / 1000000 - s.devNs else 8

/-- A boundary of `period` ns of device time falls into the cycle that begins now. -/
def crossing (s : State) (period : Nat) : Bool := decide (s.devNs / max 1 period < (s.devNs + cycleNs s) / max 1 period)

/-- Both clocks advance one cycle; global time also by the rate correction and the grandmaster's adjustment in force (R11,
R268, R271, R276). -/
def clockTick (s : State) : State :=
  let n := cycleNs s
  let sl : Int := if 0 < s.tim.slewLeft then s.tim.slew else 0
  let tot : Int := s.tim.frac + n * (s.tim.base + sl + ofU32 (rd s R.TIM_GM_ADJ))
  let left : Int := s.tim.slewLeft - n * sl.natAbs
  let done := decide (0 < s.tim.slewLeft ∧ left ≤ 0)
  let s := { s with
    devNs := s.devNs + n, globalNs := ((s.globalNs : Int) + n + tot / 1000000000).toNat
    router := { s.router with w1cSet := [] }
    gaf := { s.gaf with sleepCount := if crystalOff s then s.gaf.sleepCount + 1 else s.gaf.sleepCount }
    tim := { s.tim with frac := tot % 1000000000, slewLeft := max 0 left, slew := if done then 0 else s.tim.slew } }
  if done then rateShow s else s

/-- Syncs that the grandmaster's domains send on their MASTER ports at each port's interval (R275). -/
def syncTick (s : State) : State :=
  forEach [0, 1] (fun d s =>
    if domActive s d && domState s d == 3 then
      forEach (List.range 18) (fun p s =>
        if crossing s (logNs (rdf s (R.TIM_PORT_CFG p) 27 24)) then syncSend d s.globalNs 0 p s else s) s
    else s) s

/-- A PLCA coordinator's beacons: one for each round of NODE_COUNT opportunities, which frames put off (R226, log entry 169);
none in safe state (R378). -/
def beaconTick (s : State) : State :=
  forEach ((List.range 4).map (· + 12)) (fun p s =>
    if rdb s (R.PORT_ETH_STATE p) 18 && linked s p && rdf s (R.PORT_ETH_PLCA p) 31 24 == 0 && atBoundary s p && !inSafe s &&
        !plcaInBurst s p && ((ethPort s p).beaconNs == 0 ||
          decide (plcaBase s p + rdf s (R.PORT_ETH_PLCA p) 23 16 * plcaTo s p ≤ s.devNs)) then
      emit (.beacon p) (setEth p { ethPort s p with beaconNs := s.devNs, plcaBusy := 0 } s)
    else s) s

/-- Time left on the reactions under way (RXU_ENTRY_STATE LEFT_MS). -/
def reactionLeft (s : State) : State :=
  forEach s.rxu.actions (fun a s =>
    let left (from0 ms : Nat) : Nat := (from0 + ms * 1000000 - s.devNs) / 1000000
    match a.doneNs with
    | none => if a.act = 1 then wrf s (R.RXU_ENTRY_STATE a.line) 15 0 (left a.startNs (rdf s (R.RXU_ENTRY_CFG a.line) 15 0)) else s
    | some d => wrf s (R.RXU_ENTRY_STATE a.line) 15 0 (left d (rdf s (R.RXU_ENTRY_SETTLE a.line) 15 0))) s

/-- The trial clock runs while the active take is in TRIAL, in Run and Hold (R432). -/
def trialTick (s : State) : State :=
  if inTrial s && decide (rung s ≤ 1) then
    let n := s.upd.clockNs + cycleNs s
    if n < 1000000000 then { s with upd := { s.upd with clockNs := n } }
    else wr { s with upd := { s.upd with clockNs := 0 } } R.UPD_TRIAL (rd s R.UPD_TRIAL + 1)
  else s

/-- Timers that registers show. -/
def showTimers (s : State) : State :=
  let s := forEach (s.sge.pduX.map Prod.fst) (fun l s => if rdb s (R.SGE_PDU_CFG l) 30 then s else rxShow l s) s
  let s := if domState s (clkDom s) = 2 then wr s R.TIM_HOLD_ELAPSED ((s.devNs - s.tim.holdNs) / 1000000000) else s
  let s := forEach (s.nm.segs.map Prod.fst) (fun p s =>
    if [1, 3, 4].contains (segState s p) then wrf s (R.GAF_NM_SEG_STATE p) 15 0 (segTimer s p) else s) s
  let s := reactionLeft s
  forEach ((s.ports.can.filter (fun x => !x.2.recoveries.isEmpty)).map Prod.fst) canRecent s

/-- What a cycle does in Run, Hold and Doze: transfers on rings that have ended complete; once a tick, stamps are read out of their FIFOs, records are streamed, and the scene switch and the vault serve the tick's
requests; the identity public key is computed once the
start is done, a floor record that is pending is written, and shown timers follow (R277, R433, R446). -/
def mainTick (s : State) : State :=
  let s := if crossing s 1000 then { s with sched := { s.sched with stamps := [] } } else s
  let s := flightTick (if crossing s 1000 then streamTick s else s)
  let s := if crossing s 1000 then sceneServe s else s
  let s := if crossing s 1000 then vaultDrain s.vault.reqs.length s else s
  let s := if startDone s && decide (lifecycle s = 1) && rd s (R.ATT_PUBKEY 0) == 0 then attPubkey s else s
  showTimers (trialTick (stageSync (ctxTick (ppsTick (linTick (cipRegs (canTick (syncTick (beaconTick (stepTick (lpiTick (phyResetTick (floorTick s)))))))))))))

/-- What the gaffer keeps over time: the commit point of a move, power steps, the alarm, the milliseconds spent in each rung, and the
minutes left in the false wake windows (R346, R359, R367). -/
def gafTick (s : State) : State :=
  let s := if crossing s 1000000 then inc s (R.GAF_CNT (12 + rung s)) else s
  let s := match s.gaf.alarmNs with
    | some t => wr s R.GAF_ALARM_LEFT ((t - s.devNs + 999999999) / 1000000000)
    | none => s
  -- the entry conditions of Hold must hold together for HOLD_IDLE_US (R358)
  let s := if rung s = 0 && !holdConds s then { s with gaf := { s.gaf with idleNs := s.devNs } } else s
  unitTick (moveCommit (fwShow s))

/-- One cycle. A module that has never been powered idles. A snapshot is taken as its boundary comes, before anything of the tick
that begins there (R240). -/
def idleTick (s : State) : State :=
  settle s
    (if s.gaf.inReset && s.gaf.keepLost then s
     else if s.gaf.inReset then clockTick s
     else snapTick (clockTick (gafTick (if rung s ≤ 2 then mainTick s else s))))

end Sys2Proof.Machine
end

