-- ==== Sys2Proof/Safety.lean ====
section
/-! DEFINITION. What a safe run is: commands that the module has, none of which stops it; and what every step keeps. -/

namespace Sys2Proof

/-- Every waiting command names units that exist. -/
def Machine.State.queueWf (s : Machine.State) : Bool := s.pending.all Instr.wf

/-- A step that answers a next state. -/
def stepsOn (s : Machine.State) : Prop := ∃ t, Machine.step s = .next t

/-- Port 18's registers follow its conditions (R463, R469): HDMA_STATUS bit 1, LINK of PORT[18]_HP_STATE and RATE of
SCH_PORT_STATE[18] show UP at 25 Gbit/s exactly while the PCIe link is up, Bus Master Enable is 1, some to-host GENERAL ring
has ENABLE = 1 and line 18 is not fenced; else DOWN. -/
def Machine.State.hpAgrees (s : Machine.State) : Prop :=
  Machine.rdb s Machine.R.HDMA_STATUS 1 = Machine.hpWant s ∧
  Machine.rdf s Machine.R.PORT18_HP_STATE 31 28 = (if Machine.hpWant s then 2 else 0) ∧
  Machine.rdf s (Machine.R.SCH_PORT_STATE 18) 11 8 = (if Machine.hpWant s then 7 else 0)

/-- What every step keeps: a queue of commands that the module has, and port 18's registers true to their conditions. -/
def Machine.State.Inv (s : Machine.State) : Prop := s.queueWf = true ∧ s.hpAgrees

/-- The canonical form of the register file: addresses strictly rising, and no entry equal to its register's reset value. -/
def Machine.State.regsCanonical (s : Machine.State) : Prop :=
  s.regs.sorted = true ∧ ∀ x ∈ s.regs, x.2 ≠ Machine.resetWord x.1

/-- Served in this order: a lower key first, and among equal keys the earlier arrival (R122, R123). -/
def Machine.servedBefore (a b : Machine.CanEntry) : Prop := a.key < b.key ∨ (a.key = b.key ∧ a.order ≤ b.order)

end Sys2Proof
end

