-- ==== Sys2Proof/Certificates/Slice0/Obligations.lean ====
section
/-! DEFINITION. The statements for the provers: what the queue, a step and the invariant do; what registers, queues, FIFOs,
rings and engines hold; and for every command of the table, by family, the next state that it answers. -/

open Sys2Proof Sys2Proof.Machine

-- The machine as a whole -----------------------------------------------------------------------------------------

/-- A step takes the command at the front of the queue and runs it on the state with the queue's rest. -/
def Obligations.FrontCommandRuns : Prop :=
  ∀ (s : State) (c : Instr) (rest : List Instr),
    s.pending = c :: rest → step s = exec c { s with pending := rest }

/-- With no command waiting a step is one cycle of the time base island (the model's choice, log entry 12): 8 ns of device time
while the crystal runs, one count of the 32,768 Hz oscillator while it is stopped (R268); global time advances by as much where
no rate correction, slew or grandmaster adjustment is in force. -/
def Obligations.EmptyQueueTicks : Prop :=
  (∀ s : State, s.pending = [] → step s = .next (idleTick s)) ∧
  (∀ s : State, rung s < 3 → (clockTick s).devNs = s.devNs + 8) ∧
  (∀ s : State, 3 ≤ rung s → s.devNs ≤ s.gaf.sleepNs + (s.gaf.sleepCount + 1) * 30517578125 / 1000000 →
    (clockTick s).devNs = s.gaf.sleepNs + (s.gaf.sleepCount + 1) * 30517578125 / 1000000 ∧
    (clockTick s).gaf.sleepCount = s.gaf.sleepCount + 1) ∧
  (∀ s : State, rung s < 3 → s.tim.slewLeft = 0 → s.tim.frac = 0 → s.tim.base = 0 → rd s R.TIM_GM_ADJ = 0 →
    clockTick s = { s with devNs := s.devNs + 8, globalNs := s.globalNs + 8 })

/-- A command whose operands name a unit that the module does not have is refused by name (the model's choice, log entry
2): the spec has no such command. -/
def Obligations.UnknownUnitsRefused : Prop :=
  ∀ (s : State) (c : Instr), c.wf = false → exec c s = .refused .noSuchUnit

/-- Every command of the module answers a next state, from every state: no fault, no refusal. It leaves the queue as it
is, and port 18's registers show what its conditions say (R463, R469). A command of a unit that has no power at the present rung
happens to no one and changes nothing (R354: the fabric, the engines, the harts and the host interface have none in Sleep, Watch
and Dormant, the fabric and the engines none in Doze); which unit a command belongs to is the model's reading (log entry 122). -/
def Obligations.EveryCommandCompletes : Prop :=
  ∀ (s : State) (c : Instr), c.wf = true →
    (∃ t, exec c s = .next t ∧ t.pending = s.pending ∧ t.hpAgrees) ∧
    (acts s c = false → exec c s = .next (settle s s))

/-- The invariant: every step keeps a queue of commands that the module has, and port 18's link state, rate and UP bit true
to the four conditions of R463 and R469. -/
def Obligations.EveryStepKeepsTheInvariant : Prop :=
  ∀ s t : State, s.Inv → step s = .next t → t.Inv

/-- The invariant holds right after reset. -/
def Obligations.ResetMeetsTheInvariant : Prop := State.reset.Inv

/-- Right after reset nothing waits and nothing is held, and these registers of the block chapters read the Reset column of
their tables (R18). -/
def Obligations.ResetRegisterValues : Prop :=
  State.reset.pending = [] ∧ State.reset.ing = [] ∧ State.reset.pool.copies = [] ∧ State.reset.out = [] ∧
  rd State.reset R.CPL_FREE_CELLS = 0x20000 ∧ rd State.reset R.CPL_FREE_DESC = 0x10000 ∧
  rd State.reset R.UPD_SHEET_RECORD = 0xFFFFFFFF ∧ rdf State.reset R.UPD_SHEET_STATUS 19 18 = 3 ∧
  rd State.reset R.RXU_FAULTN = 1 ∧ rd State.reset R.RXU_STATUS = 1 ∧
  (∀ p < 44, p ∉ [16, 17, 18, 19] → rd State.reset (R.GAF_NM_TIMES_8 p) = 1500) ∧
  (∀ n < 16, rd State.reset (R.SCH_CAN_STATE n) = 0)

-- Registers ------------------------------------------------------------------------------------------------------

/-- What stands after every command differs from the state its effect leaves in the queue, which is as before, and in three
fields of port 18's registers alone. -/
def Obligations.SettleTouchesPort18Alone : Prop :=
  ∀ s t : State,
    settle s t = { t with pending := s.pending, regs := (settle s t).regs } ∧
    (∀ a, a ≠ R.HDMA_STATUS → a ≠ R.PORT18_HP_STATE → a ≠ R.SCH_PORT_STATE 18 → rd (settle s t) a = rd t a) ∧
    (∀ i, i ≠ 1 → rdb (settle s t) R.HDMA_STATUS i = rdb t R.HDMA_STATUS i) ∧
    (∀ i, i < 28 → rdb (settle s t) R.PORT18_HP_STATE i = rdb t R.PORT18_HP_STATE i) ∧
    (∀ i, i < 8 ∨ 11 < i → rdb (settle s t) (R.SCH_PORT_STATE 18) i = rdb t (R.SCH_PORT_STATE 18) i)

/-- Writing a register or one of its fields keeps the register file in its canonical form, and two canonical register files
that read alike at every address are the same data. The form, which lists no register at its reset value, is the model's choice (log
entry 1). -/
def Obligations.RegisterFileIsCanonical : Prop :=
  (∀ (s : State) (a v hi lo : Nat), s.regsCanonical →
    (wr s a v).regsCanonical ∧ (wrf s a hi lo v).regsCanonical ∧ (addCnt s a v).regsCanonical) ∧
  (∀ s t : State, s.regsCanonical → t.regsCanonical → (∀ a, rd s a = rd t a) → s.regs = t.regs)

/-- The access types of R13, bit by bit: an RW or WO bit takes the value written, a 1 clears a W1C bit and sets a W1S bit,
and every other bit keeps its value. -/
def Obligations.WrittenBitsFollowTheirAccessType : Prop :=
  ∀ (r : RegRow) (w old v i : Nat),
    (typedWord r w old v).testBit i =
      if (r.mask r.rw w).testBit i || (r.mask r.wo w).testBit i then v.testBit i || ((r.mask r.w1s w).testBit i && v.testBit i)
      else (old.testBit i && !((r.mask r.w1c w).testBit i && v.testBit i)) || ((r.mask r.w1s w).testBit i && v.testBit i)

/-- REGISTER_WRITE of a word to a register that is no command register (R12, R13): the register takes the word by its access
types, but that a W1C bit set at this same instant stays set (R14); a register with nothing to write ignores it; one loaded from the
call sheet reports DENIED. A host's write first raises the module from Hold or Doze (R455). -/
def Obligations.RegisterWriteByAccessType : Prop :=
  ∀ (s : State) (req : Requester) (a : Nat) (v : Word) (r : RegRow) (w : Nat),
    (Instr.registerWrite req a 15 v).wf = true → rung s ≤ 2 → unserved req s = false → a < bar2Base →
    (reqIsHost req && fwReserved a) = false → (cmdWrite req a v).isNone = true → regAt a = some (r, w) → a >>> 24 ≠ 9 →
    (r.mask r.rl w ≠ 0 →
      exec (Instr.registerWrite req a 15 v) s = .next (settle s (deniedWrite req a (hostRaise req s)))) ∧
    (r.mask r.rl w = 0 → rangeDenied (hostRaise req s) a v = false →
      r.mask r.rw w ||| r.mask r.wo w ||| r.mask r.w1c w ||| r.mask r.w1s w = 0 →
      exec (Instr.registerWrite req a 15 v) s = .next (settle s (hostRaise req s))) ∧
    (r.mask r.rl w = 0 → rangeDenied (hostRaise req s) a v = false →
      r.mask r.rw w ||| r.mask r.wo w ||| r.mask r.w1c w ||| r.mask r.w1s w ≠ 0 →
      (idxIn (R.CPL_WM_NOTICE 0) 0x10 64 a).isNone = true →
      exec (Instr.registerWrite req a 15 v) s = .next (settle s
        (afterWrite a v (wr (hostRaise req s) a (typedWord r w (rd (hostRaise req s) a)
          (v.toNat - (v.toNat &&& r.mask r.w1c w &&& (hostRaise req s).router.w1cSet.getD a 0)))))))

/-- Commands that write registers alone, and their frame: LATCH (R276), GAF_RUNG_LIMIT_WRITE (R357), HOST_WAKE_ACK (R366), WM_CLR_STATS
(R95) and STALL_LIMIT_WRITE (R15). Beside the registers listed, and port 18's, every register reads as before; nothing else of
the state changes. A host's command first raises the module from Hold or Doze (R455). -/
def Obligations.RegisterOnlyCommandsFrame : Prop :=
  ∀ (s : State) (req : Requester), rung s ≤ 2 → unserved req s = false →
    let h := hostRaise req s
    let frame (l : List Nat) (t : State) : Prop :=
      t = { h with pending := s.pending, regs := t.regs } ∧
      ∀ a, a ∉ l → a ≠ R.HDMA_STATUS → a ≠ R.PORT18_HP_STATE → a ≠ R.SCH_PORT_STATE 18 → rd t a = rd h a
    (∃ t, exec (.latch req) s = .next t ∧ cnt t R.TIM_LATCH_DEV = h.devNs % 2 ^ 64 ∧
      cnt t R.TIM_LATCH_SEC = h.globalNs / 1000000000 % 2 ^ 48 ∧ rd t R.TIM_LATCH_NS = h.globalNs % 1000000000 ∧
      rdf t R.TIM_CMD_STATUS 7 0 = 0 ∧
      frame [R.TIM_LATCH_DEV, R.TIM_LATCH_DEV + 4, R.TIM_LATCH_SEC, R.TIM_LATCH_SEC + 4, R.TIM_LATCH_NS, R.TIM_CMD_STATUS] t) ∧
    (∀ val : Word, val.toNat % 8 ≤ 5 → ∃ t, exec (.gafRungLimitWrite req val) s = .next t ∧
      rd t R.GAF_RUNG_LIMIT = val.toNat % 8 ∧ frame [R.GAF_RUNG_LIMIT] t) ∧
    (∀ val : Word, val.toNat.testBit 0 = true → ∃ t, exec (.hostWakeAck req val) s = .next t ∧
      rdb t R.GAF_HOST 1 = false ∧ (∀ i, i ≠ 1 → rdb t R.GAF_HOST i = rdb h R.GAF_HOST i) ∧
      rdf t R.GAF_CMD_STATUS 7 0 = 0 ∧ frame [R.GAF_HOST, R.GAF_CMD_STATUS] t) ∧
    (∀ w ≤ 63, ∃ t, exec (.wmClrStats req w) s = .next t ∧ rdf t (R.CPL_WM_NOTICE w) 15 0 = 0 ∧
      rd t (R.CPL_WM_PEAK w) = rd h (R.CPL_WM_LIVE w) ∧ (∀ i, 16 ≤ i → rdb t (R.CPL_WM_NOTICE w) i = rdb h (R.CPL_WM_NOTICE w) i) ∧
      frame [R.CPL_WM_NOTICE w, R.CPL_WM_PEAK w] t) ∧
    (∀ val : Word, 1 ≤ fld val.toNat 9 0 → fld val.toNat 9 0 ≤ 1000 → ∃ t, exec (.stallLimitWrite req val) s = .next t ∧
      rd t R.CPL_STALL_LIMIT = fld val.toNat 9 0 ∧ frame [R.CPL_STALL_LIMIT] t)

/-- The frame of commands that report: SQI_UPDATE, PLCA_BEACON_LOSS, LIN_NO_RESPONSE, PPS_LAND_FAULT, PPS_PULSE,
TRACE_SAMPLE_ADJUST, GAP_RECORD, EVT_HOLDOFF_EXPIRE, COMPLETION_COALESCE_EXPIRE, POP_STALL_EXPIRE and SPI_STATUS. Beside
registers, what the module sends and answers, the event router, the host rings, the recorder, the gaffer's fields and the
port's own run, nothing changes: time, the queue, frames in ingress and pool, lookup tables, scheduler, collator, signal
engine, time base but the end of the pulse under way, vault, cipher engine, reaction unit, CAN channels, survey, network management
and takes are as before, and so is the run of every Ethernet port and LIN channel but the one that SQI_UPDATE, PLCA_BEACON_LOSS or
LIN_NO_RESPONSE names. -/
def Obligations.ReportingCommandsFrame : Prop :=
  ∀ (s t : State) (c : Instr),
    ((∃ p q, c = .sqiUpdate p q) ∨ (∃ p, c = .plcaBeaconLoss p) ∨ (∃ m, c = .linNoResponse m) ∨ c = .ppsLandFault ∨
      c = .ppsPulse ∨ c = .traceSampleAdjust ∨ (∃ r, c = .gapRecord r) ∨ (∃ v, c = .evtHoldoffExpire v) ∨
      (∃ k, c = .completionCoalesceExpire k) ∨ (∃ req, c = .popStallExpire req) ∨ c = .spiStatus) →
    exec c s = .next t →
    t = { s with regs := t.regs, out := t.out, readData := t.readData, router := t.router, host := t.host, recd := t.recd, gaf := t.gaf
                 ports := { s.ports with eth := t.ports.eth, lin := t.ports.lin }, tim := { s.tim with ppsFall := t.tim.ppsFall } } ∧
    (∀ q, (∀ x, c ≠ .sqiUpdate q x) → c ≠ .plcaBeaconLoss q → t.ports.eth.get? q = s.ports.eth.get? q) ∧
    (∀ m, c ≠ .linNoResponse m → t.ports.lin.get? m = s.ports.lin.get? m)

-- Lookup and policing --------------------------------------------------------------------------------------------

/-- The bus frame header of R197 reads back field by field. -/
def Obligations.BusHeaderRoundTrip : Prop :=
  ∀ (fmt ident vcid sdt af t : Nat) (rtr brs esi sec : Bool) (data : List Byte),
    fmt < 8 → ident < 2 ^ 29 → vcid < 256 → sdt < 256 → data.length < 4096 →
    let b := busFrame fmt ident rtr brs esi sec vcid sdt af t data
    b.length = 16 + data.length ∧ busFormat b = fmt ∧ busIdent b = ident ∧ busRtr b = rtr ∧ busBrs b = brs ∧
    (hdrWord b 1).testBit 29 = esi ∧ (hdrWord b 1).testBit 28 = sec ∧ busVcid b = vcid ∧ busSdt b = sdt ∧
    busLen b = data.length ∧ hdrWord b 2 = af % 2 ^ 32 ∧ hdrWord b 3 = t % 2 ^ 32 ∧ busData b = data

/-- A meter (R72): refilled buckets stay within CBS and EBS; green pays from the committed bucket, yellow from the excess
bucket, red from none, and a bucket pays only what it holds. -/
def Obligations.MeterColours : Prop :=
  ∀ (m : MeterCfg) (st : MeterState) (now len : Nat) (pre : Bool),
    let r := meterRefill m st now
    let c : Int := len * 1000000
    r.tc ≤ m.cbs * 1000000 ∧ r.te ≤ m.ebs * 1000000 ∧ r.atNs = now ∧
    (m.coupled = false → r.tc = min (st.tc + m.cir * (now - st.atNs : Nat)) (m.cbs * 1000000) ∧
      r.te = min (st.te + m.eir * (now - st.atNs : Nat)) (m.ebs * 1000000)) ∧
    (pre = false → c ≤ st.tc → meterColour st pre len = (0, { st with tc := st.tc - c })) ∧
    (¬ (pre = false ∧ c ≤ st.tc) → c ≤ st.te → meterColour st pre len = (1, { st with te := st.te - c })) ∧
    (¬ (pre = false ∧ c ≤ st.tc) → ¬ c ≤ st.te → meterColour st pre len = (2, st))

/-- A CAN flood limiter (R75) admits a frame exactly while a token is present and the minimum spacing from the end of the last
admitted frame to its own end has passed; an admitted frame takes one token of that limiter and of no other. That a limiter
without a state yet starts with a full bucket is the model's choice (log entry 49). -/
def Obligations.FloodLimiterAdmits : Prop :=
  ∀ (s : State) (r endNs : Nat) (l : Limiter), limiterOf s r = some l →
    let st := s.lku.floodState.getD r ⟨l.burst * 1000000000, s.devNs, none, none⟩
    let tokens := min (l.burst * 1000000000) (st.tokens + l.rateFps * (s.devNs - st.atNs))
    let spaced : Prop := ∀ t, st.lastAdmit = some t → l.spacingUs * 1000 ≤ endNs - t
    ((floodLimit r endNs s).1 = true ↔ 1000000000 ≤ tokens ∧ spaced) ∧
    ((floodLimit r endNs s).1 = true →
      (floodLimit r endNs s).2.lku.floodState.get? r = some ⟨tokens - 1000000000, s.devNs, some endNs, st.lastDrop⟩ ∧
      (∀ j, j ≠ r → (floodLimit r endNs s).2.lku.floodState.get? j = s.lku.floodState.get? j) ∧
      (floodLimit r endNs s).2.regs = s.regs)

/-- Numbering (R76): ASSIGN gives the stream's next number and advances the count modulo 65,536; TAKE_RTAG gives the
R-TAG's number, none where the frame has no R-TAG, and leaves the count. -/
def Obligations.SequenceNumbers : Prop :=
  ∀ (s : State) (n : Nat) (rtag : Option Nat),
    (rdb s (R.LKU_SEQ n) 30 = true → numberFrame n rtag s = (rtag, s)) ∧
    (rdb s (R.LKU_SEQ n) 30 = false →
      (numberFrame n rtag s).1 = some (rdf s (R.LKU_SEQ n) 15 0) ∧
      rdf (numberFrame n rtag s).2 (R.LKU_SEQ n) 15 0 = (rdf s (R.LKU_SEQ n) 15 0 + 1) % 65536 ∧
      (∀ a, a ≠ R.LKU_SEQ n → rd (numberFrame n rtag s).2 a = rd s a))

-- Cell pool, scheduler and gates ---------------------------------------------------------------------------------

/-- A frame of B bytes takes ⌈B/128⌉ cells (R85): the least number of 128-byte cells that holds it, 17 for a CAN XL frame of
2,048 data bytes; a new frame of n cells, from whichever port, takes n from CPL_FREE_CELLS. -/
def Obligations.CellsOfAFrame : Prop :=
  (∀ b : Nat, b ≤ 128 * cellsOf b ∧ 128 * cellsOf b < b + 128) ∧ cellsOf (16 + 2048) = 17 ∧
  (∀ (s : State) (f : PFrame), f.src ≤ 44 → f.cells ≤ rd s R.CPL_FREE_CELLS →
    rd (newFrame f s).2 R.CPL_FREE_CELLS = rd s R.CPL_FREE_CELLS - f.cells ∧
    ∃ c, (newFrame f s).2.pool.frames.get? (newFrame f s).1 = some { f with headCell := c })

/-- The reserve queues of R89 are Q152 to Q159, Q448 to Q511 and those marked RESERVE, and an admitted copy is charged to
RESERVE in such a queue alone. -/
def Obligations.ReserveChargesReserveQueues : Prop :=
  (∀ (s : State) (q : Nat), isReserveQ s q = true ↔
    (152 ≤ q ∧ q ≤ 159) ∨ (448 ≤ q ∧ q ≤ 511) ∨ rdb s (R.CPL_Q_CFG q) 30 = true) ∧
  (∀ (s : State) (p tc src dp n q : Nat), admitDecide s p tc src dp n q = .ok .reserve → isReserveQ s q = true) ∧
  (∀ (s t : State) (fid p tc q d : Nat) (a : CopyAttr), isReserveQ s q = false → admitCopy fid p tc q a s = (.ok d, t) →
    ∃ c, t.pool.copies.get? d = some c ∧ c.q = q ∧ c.part ≠ .reserve)

/-- A copy takes the lowest descriptor that is not in use (the model's choice, log entry 9), and CPL_FREE_DESC counts it; a
released copy gives its descriptor back; either leaves every other copy as it was (R86, R93). -/
def Obligations.LowestFreeDescriptor : Prop :=
  (∀ m : SMap Copy, m.sorted = true →
    m.get? (firstFree m 0) = none ∧ ∀ j, j < firstFree m 0 → (m.get? j).isSome = true) ∧
  (∀ (s t : State) (fid p tc q d : Nat) (a : CopyAttr), admitCopy fid p tc q a s = (.ok d, t) →
    d = firstFree s.pool.copies 0 ∧ (t.pool.copies.get? d).isSome = true ∧
    (∀ j, j ≠ d → t.pool.copies.get? j = s.pool.copies.get? j) ∧
    rd t R.CPL_FREE_DESC + 1 = rd s R.CPL_FREE_DESC) ∧
  (∀ (s : State) (d : Nat) (c : Copy), s.pool.copies.get? d = some c →
    (releaseCopy d s).pool.copies.get? d = none ∧
    (∀ j, j ≠ d → (releaseCopy d s).pool.copies.get? j = s.pool.copies.get? j) ∧
    rd (releaseCopy d s) R.CPL_FREE_DESC = (rd s R.CPL_FREE_DESC + 1) % 2 ^ 32)

/-- Selection (R110, R113, R114): the class served is eligible and fits; while a strict one is and does, a strict class at least
as high is served; where none is served, none was eligible. Of the weighted classes whose finish tags lie within half the range, the
smallest tag is served, the higher class at a tie. A served copy of a weighted queue moves its tags and the port's virtual time
by its cost, one of a strict queue moves none. Shapers (R115): tokens never exceed the burst, refill at the rate and pay for what is
sent, and a shaped queue below zero is not eligible. -/
def Obligations.SelectionAndShaping : Prop :=
  (∀ (s : State) (p d : Nat), pickClass s p = some d → headReady s p d = true ∧ headFits s p d = true) ∧
  (∀ (s : State) (p c : Nat), c ∈ strictClasses s p → headReady s p c = true → headFits s p c = true →
    ∃ d, pickClass s p = some d ∧ d ∈ strictClasses s p ∧ c ≤ d) ∧
  (∀ (s : State) (p : Nat), strictCount s p ≤ 4 → pickClass s p = none →
    ∀ c < 8, ¬ (headReady s p c = true ∧ headFits s p c = true)) ∧
  (∀ (s : State) (p c v : Nat) (l : List Nat), l.Pairwise (· > ·) → minTag s p l = some c →
    (∀ d ∈ l, v ≤ headTag s p d ∧ headTag s p d < v + 2 ^ 63) →
    c ∈ l ∧ ∀ d ∈ l, headTag s p c ≤ headTag s p d ∧ (headTag s p d = headTag s p c → d ≤ c)) ∧
  (∀ (s : State) (q w : Nat),
    let start := (s.sched.tags.getD q (0, 0)).1
    let finish := (start + w * 0x10000 / max 1 (rdf s (R.SCH_Q_CFG q) 7 0)) % 2 ^ 64
    ((weightedClasses s (q / 8)).contains (q % 8) = true →
      (wfqDone q w s).sched.tags.get? q = some (if qEmpty s q then start else finish, finish) ∧
      cnt (wfqDone q w s) (R.SCH_VTIME (q / 8)) = finish ∧
      (∀ j, j ≠ q → (wfqDone q w s).sched.tags.get? j = s.sched.tags.get? j)) ∧
    ((weightedClasses s (q / 8)).contains (q % 8) = false → wfqDone q w s = s)) ∧
  (∀ (s : State) (q : Nat) (w : Int),
    let burst : Int := (rd s (R.SCH_Q_BURST q) * 1000000 : Nat)
    shaperLevel s q ≤ burst ∧
    (∀ x : Int × Nat, s.sched.shaper.get? q = some x →
      shaperLevel s q = min burst (x.1 + (rd s (R.SCH_Q_RATE q) * (s.devNs - x.2) : Nat))) ∧
    (shaperOn s q = true → 0 ≤ w → shaperLevel (shaperDebit q w s) q = shaperLevel s q - w * 1000000) ∧
    (∀ j, j ≠ q → (shaperDebit q w s).sched.shaper.get? j = s.sched.shaper.get? j) ∧
    (shaperOn s q = false → shaperDebit q w s = s)) ∧
  (∀ (s : State) (p c : Nat), headReady s p c = true → shaperOn s (qOf p c) = true → 0 ≤ shaperLevel s (qOf p c))

/-- Sequence recovery of the collator. ELIMINATE (R146), with k the signed distance of a copy's number from the highest one
passed: the first copy sets NEXT; one at the window's width or further is a rogue; a higher number is released and moves the history; a
number passed before is a duplicate, any other within the window is released and noted. ORDER (R145) of a number behind
NEXT: a duplicate by the history, else passed late where LATE_PASS is set, else discarded late; of a number within the window: a
duplicate where a copy holds its slot, else the copy takes the slot. A discarded copy is counted and released (R147). -/
def Obligations.SequenceRecovery : Prop :=
  (∀ (s : State) (c d n : Nat) (k : Int), n < 65536 →
    let st := R.COL_CTX_STATE c
    let hist := cnt s (R.COL_CTX_HIST c)
    let w : Int := ctxWin s c
    (rdb s st 15 = true → ctxElimCopy c d n s =
      ctxRelease c d (wrq (wrf (wrf s st 31 16 (n + 1)) st 15 15 0) (R.COL_CTX_HIST c) 1)) ∧
    (rdb s st 15 = false → -32768 ≤ k → k < 32768 → ((n : Int) - (ctxNext s c - 1) - k) % 65536 = 0 →
      (w ≤ k ∨ k ≤ -w → ctxElimCopy c d n s = ctxDiscard c d 2 s) ∧
      (0 < k → k < w → ctxElimCopy c d n s =
        ctxRelease c d (wrf (wrq s (R.COL_CTX_HIST c) ((hist * 2 ^ k.toNat + 1) % 2 ^ 64)) st 31 16 (n + 1))) ∧
      (k ≤ 0 → -w < k → ctxElimCopy c d n s =
        if hist.testBit (-k).toNat then ctxDiscard c d 1 s
        else ctxRelease c d (wrq s (R.COL_CTX_HIST c) (hist ||| 2 ^ (-k).toNat))))) ∧
  (∀ (s : State) (c d n : Nat), n < 65536 → rdb s (R.COL_CTX_STATE c) 15 = false →
    let hist := cnt s (R.COL_CTX_HIST c)
    let back := (ctxNext s c + 65535 - n) % 65536
    let ahead := (n + 65536 - ctxNext s c) % 65536
    (32768 ≤ ahead →
      (back < 64 ∧ hist.testBit back = true → ctxOrderCopy c d n s = ctxDiscard c d 1 s) ∧
      (¬ (back < 64 ∧ hist.testBit back = true) → rdb s (R.COL_CTX_CFG c) 25 = false →
        ctxOrderCopy c d n s = ctxDiscard c d 3 s) ∧
      (64 ≤ back → rdb s (R.COL_CTX_CFG c) 25 = true →
        ctxOrderCopy c d n s = raise 194 (inc (ctxRelease c d s) (R.COL_CTX_CNT c 4)))) ∧
    (ahead < 32768 → ahead < ctxWin s c →
      (∀ e at_, (ctx s c).slots.getD ahead .empty = .copy e at_ → ctxOrderCopy c d n s = ctxRegs c (ctxDiscard c d 1 s)) ∧
      ((∀ e at_, (ctx s c).slots.getD ahead .empty ≠ .copy e at_) → ctxOrderCopy c d n s =
        ctxDrain c (setCtx c { ctx s c with slots := slotPut (ctx s c).slots ahead (.copy d s.devNs) } s)))) ∧
  (∀ (s : State) (c d : Nat),
    ctxDiscard c d 1 s = releaseCopy d (inc (setCtx c { ctx s c with du := (ctx s c).du + 1 } s) (R.COL_CTX_CNT c 1)) ∧
    ctxDiscard c d 2 s = raise 195 (releaseCopy d (inc s (R.COL_CTX_CNT c 2))) ∧
    ctxDiscard c d 3 s = raise 194 (releaseCopy d (inc s (R.COL_CTX_CNT c 3))))

/-- The error counters of a CAN channel (R204, ISO 11898-1): a transmitter's error adds 8 to TEC, but for an acknowledge error
while passive with no dominant bit in the passive error flag, and for a stuff error of a recessive bit in arbitration; a
receiver's adds 1 to REC; a bit error in an error or overload flag adds 8 to the counter of the side that sends it; each run of 8
dominant bits after a flag adds 8. The other counter stays. The channel is error passive above 127, and bus-off above 255. -/
def Obligations.CanErrorCounters : Prop :=
  (∀ (s : State) (n extra : Nat) (kind : CanErr) (dom : Bool) (place : CanWhere),
    let tx := canErrCounters n kind true dom extra place s
    let rx := canErrCounters n kind false dom extra place s
    canRec tx n = canRec s n ∧ canTec rx n = canTec s n ∧
    (place = .flag → canTec tx n = min 511 (canTec s n + (if kind = .bit then 8 else 0) + 8 * extra) ∧
      canRec rx n = min 255 (canRec s n + (if kind = .bit then 8 else 0) + 8 * extra)) ∧
    (place ≠ .flag → canRec rx n = min 255 (canRec s n + 1 + 8 * extra)) ∧
    (place ≠ .flag →
      (kind = .ack ∧ canPassive s n = true ∧ dom = false) ∨ (kind = .stuff ∧ place = .arbitrationStuff) →
      canTec tx n = min 511 (canTec s n + 8 * extra)) ∧
    (place ≠ .flag →
      ¬ ((kind = .ack ∧ canPassive s n = true ∧ dom = false) ∨ (kind = .stuff ∧ place = .arbitrationStuff)) →
      canTec tx n = min 511 (canTec s n + 8 + 8 * extra))) ∧
  (∀ (s : State) (n : Nat), canPassive s n = true ↔ 127 < canTec s n ∨ 127 < canRec s n) ∧
  (∀ (s : State) (n : Nat) (was : Bool), 255 < canTec s n → canJudge n was s = canBusOff n s)

/-- LIN frames (R248; ISO 17987-3, log entry 179): the two parity bits of a protected identifier; and a checksum that brings the
sum of what it covers to 0 modulo 255, over the protected identifier and the data of an enhanced frame, over the data
alone of a classic or diagnostic one. A safe output's diagnosis (R261), worst finding first. -/
def Obligations.LinChecksAndOutputDiagnosis : Prop :=
  (∀ i < 64, fld (linPid i) 5 0 = i ∧ linPid i < 256 ∧
    (linPid i).testBit 6 = (i.testBit 0 ^^ i.testBit 1 ^^ i.testBit 2 ^^ i.testBit 4) ∧
    (linPid i).testBit 7 = !(i.testBit 1 ^^ i.testBit 3 ^^ i.testBit 4 ^^ i.testBit 5)) ∧
  (∀ (s : State) (p i : Nat) (data : List Byte),
    let sum := (data.map BitVec.toNat).sum + (linChecksum s p i data).toNat
    (rdb s (R.PORT_LIN_FRAME p i) 29 = true → i ≠ 0x3C → i ≠ 0x3D → (linPid i + sum) % 255 = 0) ∧
    (rdb s (R.PORT_LIN_FRAME p i) 29 = false ∨ i = 0x3C ∨ i = 0x3D → sum % 255 = 0)) ∧
  (∀ (s : State) (k ma mv testMv ms : Nat) (temp : Int) (limit mismatch : Bool),
    let diag := soDiagCode s k ma mv testMv temp limit mismatch ms
    let on := soIsOn s k
    let openLoad : Prop := (on = true ∧ 10 ≤ ms) ∨ (on = false ∧ 3000 < testMv)
    (165 < temp → diag = 4) ∧
    (temp ≤ 165 → on = true → limit = true → diag = 2) ∧
    (temp ≤ 165 → on = false → 3000 < mv → diag = 3) ∧
    (temp ≤ 165 → ¬ (on = true ∧ limit = true) → ¬ (on = false ∧ 3000 < mv) →
      (openLoad → diag = 1) ∧ (¬ openLoad → diag = if mismatch then 5 else 0)))

/-- Every field of the arbitration key (R123), for each frame format; and a lower key is served first: buffers stay in
order of key, then of arrival, and of two offers on the bus the lower key is chosen. -/
def Obligations.ArbitrationKey : Prop :=
  (∀ (fmt ident vcid sdt af t : Nat) (rtr brs esi sec : Bool) (data : List Byte),
    fmt ≤ 4 → ident < 2 ^ 29 → (fmt ∉ [1, 3] → ident < 2048) → vcid < 256 → sdt < 256 → data.length < 4096 →
    let k := canKey (busFrame fmt ident rtr brs esi sec vcid sdt af t data)
    k < 2 ^ 32 ∧
    (fmt = 0 → fld k 31 21 = ident ∧ k.testBit 20 = rtr ∧ fld k 19 0 = 0) ∧
    (fmt = 1 → fld k 31 21 = fld ident 28 18 ∧ k.testBit 20 = true ∧ k.testBit 19 = true ∧
      k.testBit 18 = ident.testBit 17 ∧ k.testBit 17 = ident.testBit 16 ∧ fld k 16 1 = fld ident 15 0 ∧ k.testBit 0 = rtr) ∧
    (fmt = 2 → fld k 31 21 = ident ∧ fld k 20 19 = 0 ∧ k.testBit 18 = true ∧ fld k 17 0 = 0) ∧
    (fmt = 3 → fld k 31 21 = fld ident 28 18 ∧ k.testBit 20 = true ∧ k.testBit 19 = true ∧
      k.testBit 18 = ident.testBit 17 ∧ k.testBit 17 = ident.testBit 16 ∧ fld k 16 1 = fld ident 15 0 ∧ k.testBit 0 = false) ∧
    (fmt = 4 → fld k 31 21 = ident ∧ fld k 20 19 = 0 ∧ k.testBit 18 = true ∧ k.testBit 17 = true ∧ fld k 16 0 = 0)) ∧
  (∀ (e : CanEntry) (l : List CanEntry), l.Pairwise servedBefore →
    (entryIn e l).Pairwise servedBefore ∧ (∀ x, x ∈ entryIn e l ↔ x = e ∨ x ∈ l)) ∧
  (∀ (x y : Nat × CanAir), ∃ z, lowerOffer (some x) (some y) = some z ∧ z.1 = min x.1 y.1)

/-- The MAC control frames of R129: destination 01-80-C2-00-00-01, the port's address as source, EtherType 0x8808, opcode
0x0001 with the time for PAUSE, 0x0101 with the class's enable bit and time for PFC; 64 bytes with the FCS. -/
def Obligations.PauseFrameFields : Prop :=
  ∀ (s : State) (p c quanta : Nat), c < 8 → quanta < 65536 →
    let b := pauseFrame s p c quanta
    b.length = 64 ∧ beAt b 0 6 = 0x0180C2000001 ∧
    beAt b 6 6 = rd s (R.PORT_ETH_MAC_LO p) + 2 ^ 32 * rdf s (R.PORT_ETH_MAC_HI p) 15 0 ∧ beAt b 12 2 = 0x8808 ∧
    (rdf s (R.SCH_PORT_CFG p) 27 26 = 1 → beAt b 14 2 = 1 ∧ beAt b 16 2 = quanta) ∧
    (rdf s (R.SCH_PORT_CFG p) 27 26 ≠ 1 → beAt b 14 2 = 0x0101 ∧ beAt b 16 2 = 2 ^ c ∧ beAt b (18 + 2 * c) 2 = quanta)

-- Bridging -------------------------------------------------------------------------------------------------------

/-- A signal route (R178): where its bits lie; a signal that reaches past its source is absent and leaves its destination; the
value that it writes, by substitution, sign extension and clamp; and the bits of the destination that it sets, no other bit
changing. -/
def Obligations.SignalRoutes : Prop :=
  (∀ start j len : Nat, sigPos start j false len = start + j ∧
    (j + 1 = len → sigPos start j true len = start) ∧
    (j + 1 < len → sigPos start j true len =
      if sigPos start (j + 1) true len % 8 ≠ 0 then sigPos start (j + 1) true len - 1 else sigPos start (j + 1) true len + 15)) ∧
  (∀ (src : List Byte) (start len : Nat) (mot : Bool),
    ((∃ j < len, 8 * src.length ≤ sigPos start j mot len) → sigRead src start mot len = none) ∧
    ((∀ j < len, sigPos start j mot len < 8 * src.length) → ∃ raw, sigRead src start mot len = some raw ∧ raw < 2 ^ len ∧
      ∀ j < len, raw.testBit j = bitOf src (sigPos start j mot len))) ∧
  (∀ (s : State) (i : Nat) (src : List Byte),
    let w := rd s (R.SGE_ROUTE_SRC i)
    let d := rd s (R.SGE_ROUTE_DST i)
    let sig := sigRead src (fld w 13 0) (w.testBit 30) (rdf s (R.SGE_ROUTE_OPS i) 31 26 + 1)
    (sig = none → routeApply i src s = s) ∧
    (∀ raw, sig = some raw → routeApply i src s =
      setPduBuf (fld d 24 14) (sigWrite (fld d 13 0) (d.testBit 30) (rdf s (R.SGE_ROUTE_OPS i) 25 20 + 1)
        (routeValue s i raw) (pduBuf s (fld d 24 14))) s)) ∧
  (∀ (s : State) (i raw : Nat) (k : RouteK), s.sge.routeK.get? i = some k →
    let subst := rdb s (R.SGE_ROUTE_OPS i) 18
    let clamp := rdb s (R.SGE_ROUTE_OPS i) 19
    let signed := rdb s (R.SGE_ROUTE_SRC i) 29
    let v := signExt raw (rdf s (R.SGE_ROUTE_OPS i) 31 26 + 1)
    (subst = true ∧ raw = k.matched → routeValue s i raw = k.subst) ∧
    (¬ (subst = true ∧ raw = k.matched) → signed = true → clamp = true →
      routeValue s i raw = (min (max v (signed64 k.lo)) (signed64 k.hi) % 2 ^ 64).toNat) ∧
    (¬ (subst = true ∧ raw = k.matched) → signed = true → clamp = false → routeValue s i raw = (v % 2 ^ 64).toNat) ∧
    (¬ (subst = true ∧ raw = k.matched) → signed = false → clamp = true →
      routeValue s i raw = min (max raw k.lo) k.hi % 2 ^ 64) ∧
    (¬ (subst = true ∧ raw = k.matched) → signed = false → clamp = false → routeValue s i raw = raw % 2 ^ 64)) ∧
  (∀ (start len v : Nat) (mot : Bool) (b : List Byte),
    (sigWrite start mot len v b).length = b.length ∧
    (∀ j < len, sigPos start j mot len < 8 * b.length →
      bitOf (sigWrite start mot len v b) (sigPos start j mot len) = v.testBit j) ∧
    (∀ k, (∀ j < len, sigPos start j mot len ≠ k) → bitOf (sigWrite start mot len v b) k = bitOf b k))

/-- The order check of an unpack record (R175): the first frame sets the expectation; each frame expects its number plus
one next; a number that is not the expected one counts SEQ_GAP and raises 226; and the frame is unpacked either way. -/
def Obligations.UnpackSequence : Prop :=
  (∀ (s : State) (u seq : Nat),
    let t := wrf (wrf s (R.SGE_UNP_CFG u) 15 8 (seq + 1)) (R.SGE_UNP_CFG u) 7 7 1
    rdf t (R.SGE_UNP_CFG u) 15 8 = (seq + 1) % 256 ∧ rdb t (R.SGE_UNP_CFG u) 7 = true ∧
    (rdb s (R.SGE_UNP_CFG u) 7 = false → unpSeq u seq s = t) ∧
    (rdb s (R.SGE_UNP_CFG u) 7 = true → rdf s (R.SGE_UNP_CFG u) 15 8 = seq → unpSeq u seq s = t) ∧
    (rdb s (R.SGE_UNP_CFG u) 7 = true → rdf s (R.SGE_UNP_CFG u) 15 8 ≠ seq →
      unpSeq u seq s = raise 226 (inc t (R.SGE_UNP_CNT u 2)))) ∧
  (∀ (s t : State) (j : Job) (cells mem : Ecc) (o : Nat), acts s (Instr.unpack1722 cells mem) = true →
    jobTake 3 cells mem s = (some j, t) → avtpAt j.data = some o →
    let u := j.v.bridgeIdx
    let kind := rdf t (R.SGE_UNP_CFG u) 30 29
    let seq := byteAt j.data (if kind = 0 then o + 3 else o + 2)
    -- the payload: of the length that the header gives, and none of the FCS
    let b := if kind = 0 then slice (dropFcs j.data) (o + 12) (beAt j.data (o + 1) 2 % 0x800)
      else if kind = 1 then slice (dropFcs j.data) (o + 24) (beAt j.data (o + 20) 2)
      else slice (dropFcs j.data) (o + 30) (beAt j.data (o + 20) 2 - 6)
    byteAt j.data o = (if kind = 0 then 0x82 else if kind = 1 then 0x05 else 0x6F) →
    exec (Instr.unpack1722 cells mem) s =
      .next (settle s (unpAll u (kind == 2) b.length b (unpSeq u seq (inc t (R.SGE_UNP_CNT u 0))))))

-- Time -----------------------------------------------------------------------------------------------------------

/-- Instants base + k × period (R116, R240, R279): the one found lies at or after g (after g where asked strictly), and is the
first such; so do the cycle starts of a gate list. -/
def Obligations.ScheduledInstants : Prop :=
  (∀ (base period g : Nat) (strict : Bool), 0 < period →
    g ≤ nextInstant base period g strict ∧ nextInstant base period g strict ≤ g + period ∧
    (strict = true → g < nextInstant base period g strict) ∧
    (strict = false → nextInstant base period g strict < g + period) ∧
    ∃ k : Int, (nextInstant base period g strict : Int) = base + k * period) ∧
  (∀ (s : State) (l g : Nat), rd s (R.GATE_LIST_CYCLE l) ≠ 0 →
    g ≤ cycleStart s l g ∧ cycleStart s l g < g + rd s (R.GATE_LIST_CYCLE l) ∧
    ∃ k : Int, (cycleStart s l g : Int) = cnt s (R.GATE_LIST_BASE l) + k * rd s (R.GATE_LIST_CYCLE l))

-- Vault and seals ------------------------------------------------------------------------------------------------

/-- DELETE of a valid entry by firmware (R291): result OK; the entry's attribute words read 0 and its key is gone. A host's
DELETE, or one of an entry that is not valid, is DENIED and changes no entry. The requests of one device tick (R291, R303): a
request waits, and at the end of the tick, unless the root is held unread, they are served safety pair, cluster, host, each requester's
in order of arrival (the model's reading, log entry 193). -/
def Obligations.VaultDeleteAndRequestOrder : Prop :=
  (∀ (s : State) (i : Nat) (reqr : Nat),
    (lifecycle s = 1 → reqr ≠ 2 → ktValid s i = true →
      vltDelete reqr i s = vltResult 3 reqr i 0 (ktCounts (ktDrop i (ktStaleBelow i s)))) ∧
    (∀ t : State, (∀ w < 4, rd (ktDrop i t) (ktAddr i w) = 0) ∧ (ktDrop i t).vault.keys.get? i = none ∧
      (∀ k, k ≠ i → (ktDrop i t).vault.keys.get? k = t.vault.keys.get? k)) ∧
    (reqr = 2 ∨ ktValid s i = false → vltDelete reqr i s = vltResult 3 reqr i 2 s)) ∧
  (∀ (s : State) (req : Requester) (i : Nat) (ecc : Ecc),
    (Instr.vaultDelete req i ecc).wf = true → acts s (Instr.vaultDelete req i ecc) = true →
    exec (Instr.vaultDelete req i ecc) s = .next (settle s
      { s with vault := { s.vault with reqs := s.vault.reqs ++ [⟨3, vltReq req, i, [], ecc, false⟩] } })) ∧
  (∀ (s : State) (r : VaultReq), vaultFirst s = some r →
    ∃ before after, s.vault.reqs = before ++ r :: after ∧ r.reqr ≤ 2 ∧
      (∀ q ∈ before, q.reqr ≤ 2 → r.reqr < q.reqr) ∧ (∀ q ∈ after, q.reqr ≤ 2 → r.reqr ≤ q.reqr)) ∧
  (∀ (s : State) (n : Nat),
    (s.gaf.resLow = true → vaultDrain n s = s) ∧
    (∀ r, s.gaf.resLow = false → vaultFirst s = some r →
      vaultDrain (n + 1) s = vaultDrain n (vaultServe r { s with vault := { s.vault with reqs := s.vault.reqs.erase r } })))

/-- A MACsec frame (R317): the SecTAG of a protected frame is one that a SecY validates and carries association number,
packet number and, where included, SCI; its ICV verifies under the same key and IV; and taking SecTAG and ICV off gives
the frame back, encrypted or not. With extended packet numbers (IEEE 802.1AE) a received tag's number keeps its 32 low bits and
lies within half their range below, and within the whole of it above, the lowest acceptable one. -/
def Obligations.MacsecRoundTrip : Prop :=
  (∀ (key sci an pn : Nat) (iv b : List Byte) (conf incSci : Bool), 16 ≤ b.length →
    let p := secProtect key iv sci an pn conf incSci b
    hasSecTag p = true ∧ secTagOk p = true ∧ secConf p = conf ∧ (byteAt p 14).testBit 5 = incSci ∧
    fld (byteAt p 14) 1 0 = an % 4 ∧ beAt p 16 4 = pn % 2 ^ 32 ∧ (incSci = true → beAt p 20 8 = sci % 2 ^ 64) ∧
    p.take 12 = b.take 12 ∧ secIcvOk key iv p = true ∧ secPlain key iv p = withFcs (dropFcs b)) ∧
  (∀ (b : List Byte) (low : Nat),
    secPn b false low = beAt b 16 4 ∧ secPn b true low % 2 ^ 32 = beAt b 16 4 % 2 ^ 32 ∧
    low < secPn b true low + 2 ^ 31 ∧ secPn b true low < low + 2 ^ 32)

/-- The freshness value reconstructed from its low bits (R324) is the least one above the last accepted value that ends in
them; with no freshness bits it is the next value. -/
def Obligations.FreshnessReconstruction : Prop :=
  ∀ (last f rx : Nat), rx < 2 ^ f →
    last < fvCand last f rx ∧ fvCand last f rx % 2 ^ f = rx ∧
    (∀ y, last < y → y % 2 ^ f = rx → fvCand last f rx ≤ y)

-- Events and host rings ------------------------------------------------------------------------------------------

/-- The items of a tick are pushed in order of tick and source, none lost, and an item carries its tick modulo 2^22 and its
source with bit 31 at 0. Each event FIFO holds 256 items, oldest first: a push on a full one drops the item and counts it in
EVT_FIFO_DROPS, any other appends it; the push at the end of a tick, and the pops that it serves, keep every FIFO within 256
(R473). -/
def Obligations.EventFifos : Prop :=
  (∀ l : List TickItem, (tickSort l).Pairwise (fun a b => a.tick < b.tick ∨ (a.tick = b.tick ∧ a.src ≤ b.src)) ∧
    (tickSort l).Perm l) ∧
  (∀ x : TickItem, x.src < 512 → evtItem x < 2 ^ 31 ∧ fld (evtItem x) 30 9 = x.tick % 2 ^ 22 ∧ fld (evtItem x) 8 0 = x.src) ∧
  (∀ (s : State) (t : Nat) (x : TickItem), t < 6 →
    (256 ≤ (s.router.fifos.getD t []).length →
      (fifoPush t x s).1 = true ∧ (fifoPush t x s).2.router = s.router ∧
      cnt (fifoPush t x s).2 (R.HDMA_CNT 4) = (cnt s (R.HDMA_CNT 4) + 1) % 2 ^ 64) ∧
    ((s.router.fifos.getD t []).length < 256 →
      (fifoPush t x s).1 = false ∧
      (fifoPush t x s).2.router.fifos.getD t [] = s.router.fifos.getD t [] ++ [evtItem x] ∧
      (∀ j, j ≠ t → (fifoPush t x s).2.router.fifos.get? j = s.router.fifos.get? j))) ∧
  (∀ s : State, (∀ t, (s.router.fifos.getD t []).length ≤ 256) → ∀ t, ((tickPush s).router.fifos.getD t []).length ≤ 256)

/-- A completion (R466): it goes to slot CONS modulo the ring's size of the completion ring, its word 0 carries PHASE,
COARSE, class, source port, status and kind, CONS advances by one, and at most one MSI-X message follows it. A masked vector sets its
pending bit and sends nothing; an unmasked one sends its message. -/
def Obligations.CompletionRecord : Prop :=
  (∀ (s : State) (k status kind tc src len time : Nat) (coarse : Bool),
    k < 64 → status < 256 → kind < 256 → tc < 8 → src < 64 →
    let t := complete k status kind tc src len time coarse s
    rdf t (R.HDMA_RING_IDX k) 31 16 = (rdf s (R.HDMA_RING_IDX k) 31 16 + 1) % 65536 ∧
    ∃ (w0 : Nat) (l : List Out), l.length ≤ 1 ∧
      t.out = l ++ (.completion k (cnt s (R.HDMA_RING_CMPL k) + 16 * (rdf s (R.HDMA_RING_IDX k) 31 16 % ringSize s k))
        w0 len time :: s.out) ∧
      fld w0 7 0 = kind ∧ fld w0 15 8 = status ∧ fld w0 20 16 = 0 ∧ fld w0 26 21 = src ∧ fld w0 29 27 = tc ∧
      w0.testBit 30 = coarse ∧ w0.testBit 31 = rdb s (R.HDMA_RING_STATE k) 16) ∧
  (∀ (s : State) (v : Nat),
    (s.router.msixMask.testBit v = true →
      (msix v s).router.msixPend.testBit v = true ∧ (msix v s).out = s.out ∧ (msix v s).regs = s.regs) ∧
    (s.router.msixMask.testBit v = false → (msix v s).out = .msix v :: s.out ∧ (msix v s).router = s.router))

-- Recorder and reaction unit -------------------------------------------------------------------------------------

/-- The 32-byte slate and the body of a recorder record (R386): its length is a multiple of 32, and each field reads back at
its offset, little-endian. -/
def Obligations.RecordLayout : Prop :=
  ∀ r : Rec,
    r.bytes.length = r.len ∧ r.len % 32 = 0 ∧ 32 + r.body.length ≤ r.len ∧
    leAt r.bytes 0 1 = r.kind % 256 ∧ leAt r.bytes 1 1 = r.flags % 256 ∧ leAt r.bytes 2 2 = r.len % 65536 ∧
    leAt r.bytes 4 2 = r.source % 65536 ∧ leAt r.bytes 6 2 = r.seq % 65536 ∧ leAt r.bytes 8 8 = r.devNs % 2 ^ 64 ∧
    leAt r.bytes 16 6 = r.globalNs / 1000000000 % 2 ^ 48 ∧ leAt r.bytes 22 4 = r.globalNs % 1000000000 ∧
    leAt r.bytes 26 1 = r.timeState % 256 ∧ leAt r.bytes 27 1 = 0 ∧ leAt r.bytes 28 4 = r.aux % 2 ^ 32 ∧
    slice r.bytes 32 r.body.length = r.body

/-- Recording keeps a ring within its size (R387), its gap records within their reserve and the others within the rest, and
changes no other ring; a record that was kept stands last, unless records of its device tick with higher source numbers are
there, and records stay in order of tick and, within one, of source (R386), where a streamed record does not follow one of its tick that
has gone to the host (R391). -/
def Obligations.RecorderRingFits : Prop :=
  ∀ (s : State) (r : Nat) (x : Rec), r < 4 →
    gapBytes (s.recd.rings.getD r []) ≤ recRoom s r true → plainBytes (s.recd.rings.getD r []) ≤ recRoom s r false →
    let t := (recPush r x s).2
    gapBytes (t.recd.rings.getD r []) ≤ recRoom t r true ∧ plainBytes (t.recd.rings.getD r []) ≤ recRoom t r false ∧
    recsBytes (t.recd.rings.getD r []) ≤ recRingBytes t r ∧ recRingBytes t r = recRingBytes s r ∧
    (∀ j, j ≠ r → t.recd.rings.get? j = s.recd.rings.get? j) ∧
    ((recPush r x s).1 = true →
      (∀ y ∈ s.recd.rings.getD r [], y.devNs / 1000 = x.devNs / 1000 → y.source ≤ x.source) →
      (t.recd.rings.getD r []).getLast? = some { x with seq := rdf s (R.REC_RING_STATE r) 15 0 }) ∧
    (let before (a b : Rec) : Prop := a.devNs / 1000 < b.devNs / 1000 ∨ (a.devNs / 1000 = b.devNs / 1000 ∧ a.source ≤ b.source)
     (s.recd.rings.getD r []).Pairwise before → (∀ y ∈ s.recd.rings.getD r [], y.devNs / 1000 ≤ x.devNs / 1000) →
     (x.fresh = true → ∀ y ∈ s.recd.rings.getD r [], y.devNs / 1000 = x.devNs / 1000 → y.fresh = true) →
     (t.recd.rings.getD r []).Pairwise before)

/-- Sampling of traces (R390): the shift's adjustment each millisecond, and which trace copies are admitted; one that is
sampled out is counted and takes no descriptor and no cells. The quarter of TRACE_HWM is the integer one (the model's reading,
log entry 21). -/
def Obligations.TraceSampling : Prop :=
  (∀ s : State, acts s .traceSampleAdjust = true →
    let held := rd s (R.CPL_PORT_LOGICAL 44)
    let hwm := rd s R.REC_TRACE_HWM
    let k := rdf s R.REC_STATUS 27 24
    let quiet (n : Nat) (t : State) : State := { t with recd := { t.recd with quiet := n } }
    (hwm < held ∧ k < 10 → exec Instr.traceSampleAdjust s =
      .next (settle s (quiet 0 (raise 452 (wrf s R.REC_STATUS 27 24 (k + 1)))))) ∧
    (¬ (hwm < held ∧ k < 10) → held < hwm / 4 → s.recd.quiet + 1 = 1000 → 0 < k →
      exec Instr.traceSampleAdjust s = .next (settle s (quiet 0 (wrf s R.REC_STATUS 27 24 (k - 1))))) ∧
    (¬ (hwm < held ∧ k < 10) → held < hwm / 4 → ¬ (s.recd.quiet + 1 = 1000 ∧ 0 < k) →
      exec Instr.traceSampleAdjust s = .next (settle s (quiet (s.recd.quiet + 1) s))) ∧
    (¬ (hwm < held ∧ k < 10) → ¬ held < hwm / 4 →
      exec Instr.traceSampleAdjust s = .next (settle s (quiet 0 s)))) ∧
  (∀ (s : State) (src bytes : Nat),
    let n := s.recd.traceSeen.getD src 0 + 1
    let r := traceSample src bytes s
    r.2.recd.traceSeen.get? src = some n ∧ (r.1 = true ↔ n % 2 ^ rdf s R.REC_STATUS 27 24 = 0) ∧
    (r.1 = false → cnt r.2 (R.REC_CNT 7) = (cnt s (R.REC_CNT 7) + 1) % 2 ^ 64)) ∧
  (∀ (s : State) (fid : Nat) (f : PFrame) (h : Hand), (traceSample f.src (traceBytes f) s).1 = false →
    copyTo fid f h 44 s = (traceSample f.src (traceBytes f) s).2 ∧ (copyTo fid f h 44 s).pool = s.pool ∧
    rd (copyTo fid f h 44 s) R.CPL_FREE_DESC = rd s R.CPL_FREE_DESC ∧
    rd (copyTo fid f h 44 s) R.CPL_FREE_CELLS = rd s R.CPL_FREE_CELLS)

/-- A write of RXU_FAULTN (R380): after PULSE_DONE in safe state, the host or the safety pair sets the level; at any other
time it is ignored and reported as DENIED, and so is a write of a hart (the model's reading, log entry 45). -/
def Obligations.FaultNLevelWrite : Prop :=
  ∀ (s : State) (req : Requester) (v : Word),
    (Instr.rxuFaultnWrite req v).wf = true → rung s ≤ 2 → unserved req s = false →
    let h := hostRaise req s
    (inSafe h = true → rdb h R.RXU_FAULTN 1 = true → hostOrPair req = true →
      exec (Instr.rxuFaultnWrite req v) s =
        .next (settle s (wrf (wrf h R.RXU_FAULTN 0 0 (v.toNat % 2)) R.RXU_STATUS 1 1 (v.toNat % 2)))) ∧
    (inSafe h = false ∨ rdb h R.RXU_FAULTN 1 = false ∨ hostOrPair req = false →
      exec (Instr.rxuFaultnWrite req v) s = .next (settle s (deniedWrite req R.RXU_FAULTN h)))

-- Network management, power, call sheet, updates -----------------------------------------------------------------

/-- Coupling holds (R342): leaving ASLEEP gives each enabled segment of the COUPLE set a hold of COUPLE_HOLD_MS from now, whatever was
left of an earlier one, and touches no other segment. -/
def Obligations.CouplingHolds : Prop :=
  ∀ (s : State) (p q : Nat),
    seg (coupleStart p s) q =
      if q < 44 ∧ (cnt s (R.GAF_NM_SEG_COUPLE p)).testBit q = true ∧ isSeg q = true ∧ portEnabled s q = true then
        { seg s q with coupleNs := s.devNs + rdf s (R.GAF_NM_TIMES_8 p) 31 16 * 1000000 }
      else seg s q

/-- The deepest permitted rung (R357) is the shallowest of the limits in force: of the scene, of the host, Run while
WAKE_REQ_N is low, Hold while a segment is awake, a session is open, the start is not done or a freeze is written, Doze in
safe state. -/
def Obligations.DeepestPermittedRung : Prop :=
  ∀ s : State,
    deepest s ≤ 5 ∧ (deepest s = 5 ∨ ∃ x ∈ rungLimits s, x.2 = deepest s) ∧
    deepest s ≤ rdf s R.GAF_RUNG_LIMIT 2 0 ∧
    deepest s ≤ rdf s (R.GAF_SCENE_DEEPEST (scene s / 8)) (4 * (scene s % 8) + 2) (4 * (scene s % 8)) ∧
    (rdb s R.GAF_HOST 2 = false → deepest s = 0) ∧ (rdb s R.GAF_NM_STATUS 1 = false → deepest s ≤ 1) ∧
    (rdf s R.UPD_STATUS 23 20 ≠ 0 → deepest s ≤ 1) ∧ (startDone s = false → deepest s ≤ 1) ∧
    (rdf s R.REC_STATUS 31 28 = 3 → deepest s ≤ 1) ∧ (inSafe s = true → deepest s ≤ 2)

/-- Scene requests (R414): a request waits for the end of its device tick (log entry 193); the requests of a tick stand in the order
safety pair, cluster, host, each in order of arrival (log entry 110); the first is answered by the first row of the
table that applies, a switch taking effect at the next tick boundary, and every other one is answered BUSY. -/
def Obligations.SceneRequestAnswers : Prop :=
  (∀ (s : State) (req : Requester) (t : Nat), (Instr.sceneRequest req t).wf = true → acts s (Instr.sceneRequest req t) = true →
    exec (Instr.sceneRequest req t) s =
      .next (settle s { s with upd := { s.upd with sceneReqs := s.upd.sceneReqs ++ [⟨req, t, false⟩] } })) ∧
  (∀ l : List SceneReq, (sceneOrder l).Perm l ∧ (sceneOrder l).Pairwise (fun a b => reqRank a.req ≤ reqRank b.req) ∧
    ∀ k, (sceneOrder l).filter (fun r => reqRank r.req == k) = l.filter (fun r => reqRank r.req == k)) ∧
  (∀ s : State, s.upd.sceneReqs = [] → sceneServe s = s) ∧
  (∀ (s : State) (r : SceneReq) (rest : List SceneReq), sceneOrder s.upd.sceneReqs = r :: rest →
    let s' : State := { s with upd := { s.upd with sceneReqs := [] } }
    let undefd : Prop := limp s = true ∨ (rdf s R.UPD_SCENE 31 16).testBit r.target = false ∨
      rdb s (R.UPD_SCENE_ALLOWED (scene s)) r.target = false
    let early : Prop := startDone s = false ∨ rdb s R.UPD_SCENE 8 = true
    (undefd → sceneServe s = forEach rest sceneBusy (sceneEnd r 2 (raise 495 (inc s' (R.UPD_SCENE_CNT 1))))) ∧
    (¬ undefd → early → sceneServe s = forEach rest sceneBusy (sceneEnd r 1 (raise 495 (inc s' (R.UPD_SCENE_CNT 2))))) ∧
    (¬ undefd → ¬ early → r.target = scene s → sceneServe s = forEach rest sceneBusy (sceneEnd r 0 s')) ∧
    (¬ undefd → ¬ early → r.target ≠ scene s → sceneServe s = forEach rest sceneBusy (sceneEnd r 0
      (wrf (wrf { s' with upd := { s'.upd with sceneNs := nextTick s } } R.UPD_SCENE 8 8 1) R.UPD_SCENE 7 4 r.target)))) ∧
  (∀ (s : State) (r : SceneReq),
    sceneBusy r s = sceneEnd r 1 (raise 495 (inc s (R.UPD_SCENE_CNT 2))) ∧
    (r.mbx = false → ∀ code, sceneEnd r code s = emit (.scene r.req code) s))

/-- The update session (R437, R438): a source that SOURCES leaves out is DENIED; the source that holds the session goes on; another
is answered BUSY; a free session is the asker's, with source 480. Chunks (R428): one is BUSY while another programs or a take
is verified, and DENIED unless it is the first or the next without a log page; a programmed one completes. CONFIRM
of a take that is not in trial, has not booted well or whose trial is over is DENIED (R432). -/
def Obligations.SessionAndChunks : Prop :=
  (∀ (s : State) (src : Nat),
    (srcAllowed src s = false → sessOpen src s = (2, s)) ∧
    (srcAllowed src s = true → sessOwner s = src → sessOpen src s = (0, { s with upd := { s.upd with sessNs := s.devNs } })) ∧
    (srcAllowed src s = true → sessOwner s ≠ src → sess s ≠ 0 → sessOpen src s = (1, inc s (R.UPD_CNT 11))) ∧
    (srcAllowed src s = true → 1 ≤ src → src ≤ 4 → loaderOnly s = false → sess s = 0 → sessOvertaken src s = false →
      (sessOpen src s).1 = 0 ∧ sess (sessOpen src s).2 = src ∧ sessOwner (sessOpen src s).2 = src ∧
      cnt (sessOpen src s).2 (R.UPD_CNT 0) = (cnt s (R.UPD_CNT 0) + 1) % 2 ^ 64)) ∧
  (∀ (s : State) (src i : Nat) (b : List Byte),
    (s.upd.prog.isSome = true ∨ s.upd.verifying.isSome = true → chunkStart src i b s = (1, inc s (R.UPD_CNT 11))) ∧
    (s.upd.prog = none → s.upd.verifying = none → i ≠ 0 → resumeIndex s ≠ some i →
      chunkStart src i b s = (2, inc s (R.UPD_CNT 2))) ∧
    ((chunkStart src i b s).1 = 0 →
      (∃ last, (chunkStart src i b s).2.upd.prog = some (b, last, src)) ∧ b.length = chunkLen i s ∧ (i = 0 ∨ resumeIndex s = some i))) ∧
  (∀ s : State, inTrial s = false ∨ s.upd.bootGood = false ∨ trialOver s = true → confirm s = (2, s))

/-- Negative responses (R440): the codes of the status codes that the rule maps, 0x73 for a block out of sequence, 0x7F for a
service outside its session, 0x31 for an unknown identifier or routine; identifier 0xFD00 reads the exact code. A DoIP answer goes
to its tester, one on CAN to UDS_CHANNEL with UDS_TX_ID (R439). Requests are those of a module that is not in LOADER_ONLY, where none is
heard (R444); a source that SOURCES leaves out is answered DENIED (R437), its reads too (the model's reading, log entry 237). -/
def Obligations.NegativeResponses : Prop :=
  (∀ (s : State) (src sid : Nat) (pos : List Byte),
    udsResult src sid 1 pos s = udsNeg src sid 0x21 s ∧ udsResult src sid 2 pos s = udsNeg src sid 0x22 s ∧
    udsResult src sid 4 pos s = udsNeg src sid 0x70 s ∧ udsResult src sid 11 pos s = udsNeg src sid 0x70 s ∧
    udsResult src sid 12 pos s = udsNeg src sid 0x72 s ∧ udsResult src sid 5 pos s = udsNeg src sid 0x72 s ∧
    (udsNeg 2 sid 0x21 s).out =
      .doip (rd s R.UPD_UDS_RX % 65536) (s.upd.tester.getD 0) [0x7F, byteOf sid, 0x21] :: s.out ∧
    (udsNeg 3 sid 0x21 s).out = .canAnswer (rdf s R.UPD_POLICY 31 24 % 16) (rd s R.UPD_UDS_TX)
      (nomPs s (20 + rdf s R.UPD_POLICY 31 24 % 16)) [0x7F, byteOf sid, 0x21] :: s.out) ∧
  (∀ (s : State) (doip : Bool) (did : Nat), rung s ≤ 1 → loaderOnly s = false → (doip = false ∨ s.upd.tester.isSome = true) →
    srcAllowed (udsSrc doip) s = false → (Instr.udsReadDid doip did).wf = true →
    exec (Instr.udsReadDid doip did) s = .next (settle s (udsNeg (udsSrc doip) 0x22 0x22 (updResult 2 s)))) ∧
  (∀ (s : State) (doip : Bool), rung s ≤ 1 → loaderOnly s = false →
    (doip = false ∨ s.upd.tester.isSome = true) → srcAllowed (udsSrc doip) s = true →
    let src := udsSrc doip
    let h := sessHeard src s
    (∀ (seq len : Nat) (data : List Byte), (Instr.udsTransferData doip seq data).wf = true → sessOwner h = src →
      h.upd.dl = some len → h.upd.prog = none → seq ≠ h.upd.next % 256 →
      exec (Instr.udsTransferData doip seq data) s = .next (settle s (udsNeg src 0x36 0x73 h))) ∧
    (sessOwner h ≠ src →
      (∀ seq data, (Instr.udsTransferData doip seq data).wf = true →
        exec (Instr.udsTransferData doip seq data) s = .next (settle s (udsNeg src 0x36 0x7F h))) ∧
      ((Instr.udsTransferExit doip).wf = true →
        exec (Instr.udsTransferExit doip) s = .next (settle s (udsNeg src 0x37 0x7F h))) ∧
      (∀ fmt alfid address size, (Instr.udsRequestDownload doip fmt alfid address size).wf = true →
        exec (Instr.udsRequestDownload doip fmt alfid address size) s = .next (settle s (udsNeg src 0x34 0x7F h))) ∧
      ((Instr.udsRoutineConfirm doip).wf = true →
        exec (Instr.udsRoutineConfirm doip) s = .next (settle s (udsNeg src 0x31 0x7F h)))) ∧
    (∀ did, (Instr.udsReadDid doip did).wf = true → didBytes h did = none →
      exec (Instr.udsReadDid doip did) s = .next (settle s (udsNeg src 0x22 0x31 h))) ∧
    (∀ r, (Instr.udsRoutineResults doip r).wf = true → sessOwner h = src → r < 0x0210 ∨ 0x0212 < r →
      exec (Instr.udsRoutineResults doip r) s = .next (settle s (udsNeg src 0x31 0x31 h)))) ∧
  (∀ (s : State) (code : Nat), code < 256 → code ≠ 2 →
    ∃ b, didBytes (updResult code s) 0xFD00 = some b ∧ byteAt b 0 = code)

-- Every command, by family ---------------------------------------------------------------------------------------

/-- Collator commands (R145 to R154):
under each command's conditions, exec answers exactly the next state of its effect, settled. -/
def Obligations.CollatorCommandsComplete : Prop :=
  (∀ (s : State) (c : Nat),
    ((Instr.latentReset c).wf = true) → (acts s (Instr.latentReset c) = true) → (latentResetDue s c = true) →
    exec (Instr.latentReset c) s = .next (settle s (latentResetDo c s))) ∧
  (∀ (s : State) (c : Nat),
    ((Instr.latentTest c).wf = true) → (acts s (Instr.latentTest c) = true) →
    exec (Instr.latentTest c) s = .next (settle s (latentTest c s))) ∧
  (∀ (s : State) (c : Nat),
    ((Instr.recoveryReset c).wf = true) → (acts s (Instr.recoveryReset c) = true) →
    exec (Instr.recoveryReset c) s = .next (settle s (recoveryReset c s))) ∧
  (∀ (s : State) (c : Nat),
    ((Instr.holeTimeout c).wf = true) → (acts s (Instr.holeTimeout c) = true) →
    exec (Instr.holeTimeout c) s = .next (settle s (holeTimeout c s)))

/-- Survey and supply, LIN, switch input and safe output commands (R33 to R49, R246 to R265):
under each command's conditions, exec answers exactly the next state of its effect, settled. -/
def Obligations.LandAndPinCommandsComplete : Prop :=
  (∀ (s : State) (items : List SurveyItem),
    ((Instr.surveyComplete items).wf = true) → (acts s (Instr.surveyComplete items) = true) →
    exec (Instr.surveyComplete items) s = .next (settle s (surveyCompleteDo items s))) ∧
  (∀ (s : State),
    (acts s Instr.startConditionsEvaluate = true) → (¬ (startDone s || !tsReached s)) →
    exec Instr.startConditionsEvaluate s = .next (settle s (startConditionsEvaluateDo s))) ∧
  (∀ (s : State) (n : Nat),
    ((Instr.canRoleSwap n).wf = true) → (acts s (Instr.canRoleSwap n) = true) → ((canChan s n).swapPending &&
        (s.sched.canTx.get? n).isNone) →
    exec (Instr.canRoleSwap n) s = .next (settle s (canRoleSwapDo n s))) ∧
  (∀ (s : State),
    (acts s Instr.polarityWindowEnd = true) → (windowOver s) →
    exec Instr.polarityWindowEnd s = .next (settle s (polarityWindowEndDo s))) ∧
  (∀ (s : State) (g : Nat) (results : List (Nat × Nat × Nat)),
    ((Instr.reflectometryDone g results).wf = true) → (acts s (Instr.reflectometryDone g results) = true) →
    exec (Instr.reflectometryDone g results) s = .next (settle s (reflectometryDoneDo g results s))) ∧
  (∀ (s : State) (n : Nat),
    ((Instr.canTermNoIdle n).wf = true) → (acts s (Instr.canTermNoIdle n) = true) →
    exec (Instr.canTermNoIdle n) s = .next (settle s (canItemEnd n (wrf (canWiring n 8 s) R.SVY_STATUS 31 24 5)))) ∧
  (∀ (s : State) (n : Nat) (ohmX10 : Option Nat) (recH : Int) (recL : Int) (domDiff : Int) (st : Nat),
    ((Instr.canTermMeasureDone n ohmX10 recH recL domDiff st).wf = true) → (acts s (Instr.canTermMeasureDone n ohmX10 recH
        recL domDiff st) = true) →
    exec (Instr.canTermMeasureDone n ohmX10 recH recL domDiff st) s = .next (settle s (canTermMeasureDoneDo n ohmX10 recH
        recL domDiff st s))) ∧
  (∀ (s : State) (mainDie : Int) (phyDie : Int) (lineDie : Int) (lid : Int),
    ((Instr.tempMeasure mainDie phyDie lineDie lid).wf = true) → (acts s (Instr.tempMeasure mainDie phyDie lineDie lid) =
        true) →
    exec (Instr.tempMeasure mainDie phyDie lineDie lid) s = .next (settle s (tempMeasureDo mainDie phyDie lineDie lid s))) ∧
  (∀ (s : State) (mv : Nat),
    ((Instr.supplyRange mv).wf = true) → (acts s (Instr.supplyRange mv) = true) → ((4500 ≤ mv ∧ mv < 6000) ∨ (36000 < mv ∧
        mv ≤ 58000)) →
    exec (Instr.supplyRange mv) s = .next (settle s (raise 410 s))) ∧
  (∀ (s : State) (mvA : Int) (mvB : Int),
    ((Instr.feedLost mvA mvB).wf = true) → (acts s (Instr.feedLost mvA mvB) = true) → ((mvA < 5000 ∧ 6000 ≤ mvB) ∨ (mvB <
        5000 ∧ 6000 ≤ mvA)) →
    exec (Instr.feedLost mvA mvB) s = .next (settle s (raise 411 s))) ∧
  (∀ (s : State) (k : Nat),
    ((Instr.soCooled k).wf = true) → (acts s (Instr.soCooled k) = true) → (¬ (rdf s (R.RXU_SO_STATE k) 31 28 ≠ 4)) →
    exec (Instr.soCooled k) s = .next (settle s (soCooledDo k s))) ∧
  (∀ (s : State) (k : Nat) (ma : Nat) (mv : Nat) (testMv : Nat) (tempC : Int) (atLimit1ms : Bool) (mismatch1ms : Bool),
    ((Instr.soDiag k ma mv testMv tempC atLimit1ms mismatch1ms).wf = true) → (acts s (Instr.soDiag k ma mv testMv tempC
        atLimit1ms mismatch1ms) = true) →
    exec (Instr.soDiag k ma mv testMv tempC atLimit1ms mismatch1ms) s = .next (settle s (soDiagDo k ma mv testMv tempC
        atLimit1ms mismatch1ms s))) ∧
  (∀ (s : State) (mv : List Nat),
    ((Instr.swSample mv).wf = true) → (acts s (Instr.swSample mv) = true) → (rung s ≤ 2) →
    exec (Instr.swSample mv) s = .next (settle s (swSampleAll mv 0 s))) ∧
  (∀ (s : State) (m : Nat),
    ((Instr.linInactivity m).wf = true) → (acts s (Instr.linInactivity m) = true) → (¬ (linCommander s (36 + m) || !linRuns
        s (36 + m) || decide (s.devNs < (linChan s m).activeNs + 4000000000))) →
    exec (Instr.linInactivity m) s = .next (settle s (linInactivityDo m s))) ∧
  (∀ (s : State) (m : Nat),
    ((Instr.linGoToSleepRx m).wf = true) → (acts s (Instr.linGoToSleepRx m) = true) → (¬ (linCommander s (36 + m) ||
        !linRuns s (36 + m))) →
    exec (Instr.linGoToSleepRx m) s = .next (settle s (linAsked (36 + m) false s))) ∧
  (∀ (s : State) (m : Nat),
    ((Instr.linBusStuck m).wf = true) → (acts s (Instr.linBusStuck m) = true) → (linRuns s (36 + m)) →
    exec (Instr.linBusStuck m) s = .next (settle s (linBusStuckDo m s))) ∧
  (∀ (s : State) (m : Nat) (ident : Nat) (baud : Nat) (breakBits : Nat) (since : Nat) (readbackOk : Bool),
    ((Instr.linHeaderReceived m ident baud breakBits since readbackOk).wf = true) → (acts s (Instr.linHeaderReceived m ident
        baud breakBits since readbackOk) = true) →
    exec (Instr.linHeaderReceived m ident baud breakBits since readbackOk) s = .next (settle s (linHeaderReceivedDo m ident
        baud breakBits since readbackOk s))) ∧
  (∀ (s : State) (m : Nat),
    ((Instr.linNoResponse m).wf = true) → (acts s (Instr.linNoResponse m) = true) →
    exec (Instr.linNoResponse m) s = .next (settle s (linNoResponseDo m s))) ∧
  (∀ (s : State) (m : Nat) (ident : Nat) (data : List Byte) (checksum : Byte) (framingErr : Bool) (room : Bool),
    ((Instr.linResponseReceived m ident data checksum framingErr room).wf = true) → (acts s (Instr.linResponseReceived m
        ident data checksum framingErr room) = true) →
    exec (Instr.linResponseReceived m ident data checksum framingErr room) s = .next (settle s (linResponseReceivedDo m
        ident data checksum framingErr room s))) ∧
  (∀ (s : State) (m : Nat) (readbackOk : Bool),
    ((Instr.linSlotStart m readbackOk).wf = true) → (acts s (Instr.linSlotStart m readbackOk) = true) →
    exec (Instr.linSlotStart m readbackOk) s = .next (settle s (linSlotStartDo m readbackOk s)))

/-- Reaction unit and recorder commands (R373 to R395):
under each command's conditions, exec answers exactly the next state of its effect, settled. -/
def Obligations.ReactionAndRecorderCommandsComplete : Prop :=
  (∀ (s : State) (nandOk : Bool) (corrected : Nat) (lost : List (Nat × Nat)),
    ((Instr.freezeComplete nandOk corrected lost).wf = true) → (acts s (Instr.freezeComplete nandOk corrected lost) = true)
        → (rdf s R.REC_STATUS 31 28 = 3) →
    exec (Instr.freezeComplete nandOk corrected lost) s = .next (settle s (freezeEnd nandOk corrected lost s))) ∧
  (∀ (s : State) w,
    (acts s Instr.windowEnd = true) → (s.recd.window = some w) → (rdf s R.REC_STATUS 31 28 = 2 ∧ w.endNs ≤ s.devNs) →
    exec Instr.windowEnd s = .next (settle s (windowClose s))) ∧
  (∀ (s : State),
    (acts s Instr.traceSampleAdjust = true) →
    exec Instr.traceSampleAdjust s = .next (settle s (traceSampleAdjustDo s))) ∧
  (∀ (s : State) (ring : Nat) g,
    ((Instr.gapRecord ring).wf = true) → (acts s (Instr.gapRecord ring) = true) → (s.recd.gaps.get? ring = some g) →
    exec (Instr.gapRecord ring) s = .next (settle s (gapRecordDo ring g s))) ∧
  (∀ (s : State) (b : Nat) r,
    ((Instr.safeFrameLate b).wf = true) → (acts s (Instr.safeFrameLate b) = true) → (s.rxu.frames.get? b = some r) → (rdf s
        (R.RXU_SAFE_STATE b) 31 28 = 1 ∧ r.dueNs + 100000000 ≤ s.devNs) →
    exec (Instr.safeFrameLate b) s = .next (settle s (safeNext b 4 (raise 428 (inc s (R.RXU_CNT 12)))))) ∧
  (∀ (s : State) (b : Nat) r,
    ((Instr.safeFrameDue b).wf = true) → (acts s (Instr.safeFrameDue b) = true) → (s.rxu.frames.get? b = some r) → (¬
        (!inSafe s || s.devNs < r.dueNs || rdf s (R.RXU_SAFE_STATE b) 31 28 == 2)) →
    exec (Instr.safeFrameDue b) s = .next (settle s (safeFrameDueDo b r s))) ∧
  (∀ (s : State) t,
    (acts s Instr.faultnPulseDone = true) → (s.rxu.safeSince = some t) → (t + 1000000 ≤ s.devNs) →
    exec Instr.faultnPulseDone s = .next (settle s (pulseDone s))) ∧
  (∀ (s : State) (ecc : Ecc),
    ((Instr.rxuTableFault ecc).wf = true) → (acts s (Instr.rxuTableFault ecc) = true) →
    exec (Instr.rxuTableFault ecc) s = .next (settle s (rxuTableFaultDo ecc s))) ∧
  (∀ (s : State) (l : Nat) (registered : Bool),
    ((Instr.lineTest l registered).wf = true) → (acts s (Instr.lineTest l registered) = true) → (¬ (!lineTurn s l)) →
    exec (Instr.lineTest l registered) s = .next (settle s (lineTestDo l registered s))) ∧
  (∀ (s : State) (l : Nat),
    ((Instr.shadowSettleEnd l).wf = true) → (acts s (Instr.shadowSettleEnd l) = true) →
    exec (Instr.shadowSettleEnd l) s = .next (settle s (settleEnd s))) ∧
  (∀ (s : State) (l : Nat) a,
    ((Instr.reactionEscalate l).wf = true) → (acts s (Instr.reactionEscalate l) = true) → (resetting s l = some a) → (¬
        (s.devNs < a.startNs + rdf s (R.RXU_ENTRY_CFG l) 15 0 * 1000000 ∨ readyWaits s l = true)) →
    exec (Instr.reactionEscalate l) s = .next (settle s (reactionEscalateDo l a s))) ∧
  (∀ (s : State) (l : Nat),
    ((Instr.resetUnitDone l).wf = true) → (acts s (Instr.resetUnitDone l) = true) → ((resetting s l).isSome) →
    exec (Instr.resetUnitDone l) s = .next (settle s (actionDone l s.devNs s))) ∧
  (∀ (s : State) (l : Nat),
    ((Instr.faultLineDeassert l).wf = true) → (acts s (Instr.faultLineDeassert l) = true) → (isLevelLine l) →
    exec (Instr.faultLineDeassert l) s = .next (settle s (deassertLine l s))) ∧
  (∀ (s : State) (l : Nat),
    ((Instr.faultLineAssert l).wf = true) → (acts s (Instr.faultLineAssert l) = true) →
    exec (Instr.faultLineAssert l) s = .next (settle s (faultLineAssertDo l s)))

/-- Cipher engine, MACsec and resynchronisation commands (R308 to R327):
under each command's conditions, exec answers exactly the next state of its effect, settled. -/
def Obligations.CipherCommandsComplete : Prop :=
  (∀ (s : State) (n : Nat) (d : Nat) x,
    ((Instr.resyncPartTimeout n d).wf = true) → (acts s (Instr.resyncPartTimeout n d) = true) → (s.cip.parts.get? (256 * n +
        d) = some x) → (x.sinceNs + 100000000 ≤ s.devNs) →
    exec (Instr.resyncPartTimeout n d) s = .next (settle s (resyncPartTimeoutDo n d x s))) ∧
  (∀ (s : State) (n : Nat) (frame : List Byte) d,
    ((Instr.resyncAnnounceRx n frame).wf = true) → (acts s (Instr.resyncAnnounceRx n frame) = true) → (resyncDom s n frame =
        some d) → (¬ (byteAt (busData frame) 0 = 0xF4)) →
    exec (Instr.resyncAnnounceRx n frame) s = .next (settle s (resyncIn n d frame s))) ∧
  (∀ (s : State) (n : Nat) (frame : List Byte) d,
    ((Instr.resyncRequestRx n frame).wf = true) → (acts s (Instr.resyncRequestRx n frame) = true) → (resyncDom s n frame =
        some d) →
    exec (Instr.resyncRequestRx n frame) s = .next (settle s (resyncRequest frame d s))) ∧
  (∀ (s : State) (d : Nat) (slot : Nat),
    ((Instr.resyncAnnounceTx d slot).wf = true) → (acts s (Instr.resyncAnnounceTx d slot) = true) →
    exec (Instr.resyncAnnounceTx d slot) s = .next (settle s (resyncAnnounceTxDo d slot s))) ∧
  (∀ (s : State) (p : Nat) (sc : Nat) (slot : Nat) (an : Nat) (key : Nat) (inUse : Bool) (current : Bool) (sci : BitVec 64)
      (ssci : BitVec 32) (salt : BitVec 96),
    ((Instr.macsecSaInstall p sc slot an key inUse current sci ssci salt).wf = true) → (acts s (Instr.macsecSaInstall p sc
        slot an key inUse current sci ssci salt) = true) → (¬ (rdb s (R.CIP_SECY_CFG p) 26)) →
    exec (Instr.macsecSaInstall p sc slot an key inUse current sci ssci salt) s = .next (settle s (macsecSaInstallDo p sc
        slot an key inUse current sci ssci salt s))) ∧
  (∀ (s : State) (lane : Nat) (coresAgree : Bool) (ecc : Ecc) (slot : Ecc) (onward : Ecc) j,
    ((Instr.cipherJobComplete lane coresAgree ecc slot onward).wf = true) → (acts s (Instr.cipherJobComplete lane coresAgree
        ecc slot onward) = true) → ((laneJobs s lane).head? = some j) →
    exec (Instr.cipherJobComplete lane coresAgree ecc slot onward) s = .next (settle s (cipherJobCompleteDo lane coresAgree
        ecc slot onward j s))) ∧
  (∀ (s : State) (inverseOk : Bool) (ecc : Ecc),
    ((Instr.cipherJobPlace inverseOk ecc).wf = true) → (acts s (Instr.cipherJobPlace inverseOk ecc) = true) →
    exec (Instr.cipherJobPlace inverseOk ecc) s = .next (settle s (cipherJobPlaceDo inverseOk ecc s)))

/-- Vault and tamper commands (R287 to R302):
under each command's conditions, exec answers exactly the next state of its effect, settled. -/
def Obligations.VaultCommandsComplete : Prop :=
  (∀ (s : State) (others : List TamperSource) (value : Nat) (tap : TapInstr),
    ((Instr.openRequest others value tap).wf = true) →
    exec (Instr.openRequest others value tap) s = .next (settle s (let limited := !rdb s R.VLT_STATUS 24 && (tap ==
        .boundaryScan || tap == .debug); let u : State := { s with vault := { s.vault with tap := if limited then .bypass
        else tap } }; if openAsked s value tap then openRequestDo others (answer [0] u) else u))) ∧
  (∀ (s : State) (sources : List TamperSource),
    ((Instr.tamperDetected sources).wf = true) →
    exec (Instr.tamperDetected sources) s = .next (settle s (tamperDetectedDo sources s))) ∧
  (∀ (s : State) (req : Requester),
    ((Instr.rotateKem req).wf = true) → (acts s (Instr.rotateKem req) = true) →
    exec (Instr.rotateKem req) s = .next (settle s (vaultAsk ⟨5, vltReq req, 0, [], .ok, false⟩ s))) ∧
  (∀ (s : State) (req : Requester) (blob : List Byte) (ecc : Ecc),
    ((Instr.vaultImport req blob ecc).wf = true) → (acts s (Instr.vaultImport req blob ecc) = true) →
    exec (Instr.vaultImport req blob ecc) s = .next (settle s (vaultAsk ⟨4, vltReq req, 0, blob, ecc, false⟩ s))) ∧
  (∀ (s : State) (req : Requester) (i : Nat) (ecc : Ecc),
    ((Instr.vaultDelete req i ecc).wf = true) → (acts s (Instr.vaultDelete req i ecc) = true) →
    exec (Instr.vaultDelete req i ecc) s = .next (settle s (vaultAsk ⟨3, vltReq req, i, [], ecc, false⟩ s))) ∧
  (∀ (s : State) (req : Requester) (i : Nat) (ecc : Ecc),
    ((Instr.vaultInvalidate req i ecc).wf = true) → (acts s (Instr.vaultInvalidate req i ecc) = true) →
    exec (Instr.vaultInvalidate req i ecc) s = .next (settle s (vaultAsk ⟨2, vltReq req, i, [], ecc, false⟩ s))) ∧
  (∀ (s : State) (req : Requester) (i : Nat) (ecc : Ecc),
    ((Instr.vaultGenerate req i ecc).wf = true) → (acts s (Instr.vaultGenerate req i ecc) = true) →
    exec (Instr.vaultGenerate req i ecc) s = .next (settle s (vaultAsk ⟨1, vltReq req, i, [], ecc, false⟩ s))) ∧
  (∀ (s : State) (req : Requester) (i : Nat) (ecc : Ecc),
    ((Instr.vaultDerive req i ecc).wf = true) → (acts s (Instr.vaultDerive req i ecc) = true) →
    exec (Instr.vaultDerive req i ecc) s = .next (settle s (vaultAsk ⟨0, vltReq req, i, [], ecc, false⟩ s)))

/-- Reception and lookup commands (R50 to R76):
under each command's conditions, exec answers exactly the next state of its effect, settled. -/
def Obligations.IngressCommandsComplete : Prop :=
  (∀ (s : State) (p : Nat) (fcsOk : Bool) (symbolErr : Bool),
    ((Instr.frameTail p fcsOk symbolErr).wf = true) → (acts s (Instr.frameTail p fcsOk symbolErr) = true) →
    exec (Instr.frameTail p fcsOk symbolErr) s = .next (settle s (frameTailDo p fcsOk symbolErr s))) ∧
  (∀ (s : State) (p : Nat) (lku : Ecc) (col : Ecc) (colAt : Nat) (pool : PoolEcc) x,
    ((Instr.frameLookup p lku col colAt pool).wf = true) → (acts s (Instr.frameLookup p lku col colAt pool) = true) →
        (ingNext s p = some x) →
    exec (Instr.frameLookup p lku col colAt pool) s = .next (settle s (lookupServe p x lku col colAt pool s))) ∧
  (∀ (s : State) (p : Nat) (data : List Byte) (room : Bool),
    ((Instr.frameReceive p data room).wf = true) → (acts s (Instr.frameReceive p data room) = true) →
    exec (Instr.frameReceive p data room) s = .next (settle s (frameReceiveDo p data room s)))

/-- Egress, pause, gate and deep queue commands (R97 to R133):
under each command's conditions, exec answers exactly the next state of its effect, settled. -/
def Obligations.EgressCommandsComplete : Prop :=
  (∀ (s : State) (p : Nat) (ecc : Ecc) g,
    ((Instr.gateEntryChange p ecc).wf = true) → (acts s (Instr.gateEntryChange p ecc) = true) → (s.sched.gates.get? p = some
        g) →
    exec (Instr.gateEntryChange p ecc) s = .next (settle s (pauseFlush p (gateEntryChangeDo p ecc g s)))) ∧
  (∀ (s : State) (d : Nat) (dramError : Bool),
    ((Instr.refillCopy d dramError).wf = true) → (acts s (Instr.refillCopy d dramError) = true) →
    exec (Instr.refillCopy d dramError) s = .next (settle s (refillCopyDo d dramError s))) ∧
  (∀ (s : State) (d : Nat) (ecc : PoolEcc) k c f,
    ((Instr.spillCopy d ecc).wf = true) → (acts s (Instr.spillCopy d ecc) = true) → ((s.pool.deepTail.getD d []).head? =
        some k) → (s.pool.copies.get? k = some c) → (s.pool.frames.get? c.frame = some f) → (¬ (!f.tailWritten ||
        s.pool.frozen.contains c.q)) →
    exec (Instr.spillCopy d ecc) s = .next (settle s (spillCopyDo d k c f ecc s))) ∧
  (∀ (s : State) (p : Nat) (c : Nat) t,
    ((Instr.pauseRepeat p c).wf = true) → (acts s (Instr.pauseRepeat p c) = true) → (s.sched.xoffRepeat.get? (8 * p + c) =
        some t) → (t ≤ s.devNs ∧ rdb s (R.CPL_PORT_STATE p) c = true) →
    exec (Instr.pauseRepeat p c) s = .next (settle s (pauseGenerate p c (rdf s (R.SCH_PORT_PAUSE p) 31 16) s))) ∧
  (∀ (s : State) (p : Nat) (c : Nat) x,
    ((Instr.pauseExpire p c).wf = true) → (acts s (Instr.pauseExpire p c) = true) → (s.sched.pausedUntil.get? (8 * p + c) =
        some x) → (x.1 ≤ s.devNs) →
    exec (Instr.pauseExpire p c) s = .next (settle s (pauseRelease p c s))) ∧
  (∀ (s : State) (p : Nat) (opcode : Nat) (quanta : List Nat) (enable : Nat) (fcsOk : Bool),
    ((Instr.pauseReceived p opcode quanta enable fcsOk).wf = true) → (acts s (Instr.pauseReceived p opcode quanta enable
        fcsOk) = true) →
    exec (Instr.pauseReceived p opcode quanta enable fcsOk) s = .next (settle s (pauseReceivedDo p opcode quanta enable
        fcsOk s))) ∧
  (∀ (s : State) (p : Nat) (fcsStoredOk : Bool) x y f,
    ((Instr.frameTxComplete p fcsStoredOk).wf = true) → (acts s (Instr.frameTxComplete p fcsStoredOk) = true) →
        (s.sched.service.get? p = some x) → (¬ (!x.started)) → (s.pool.copies.get? x.desc = some y) → (s.pool.frames.get?
        y.frame = some f) → f.tailWritten →
    exec (Instr.frameTxComplete p fcsStoredOk) s = .next (settle s (cipRegs (txDone p x y f fcsStoredOk s)))) ∧
  (∀ (s : State) (p : Nat) (collision : Option Bool) x y f,
    ((Instr.frameTxStart p collision).wf = true) → (acts s (Instr.frameTxStart p collision) = true) → (s.sched.service.get?
        p = some x) → (¬ (x.started)) → (s.pool.copies.get? x.desc = some y) → (s.pool.frames.get? y.frame = some f) →
    exec (Instr.frameTxStart p collision) s = .next (settle s (cipRegs (startTry p collision x y (((earlyMore y.frame
        (pauseFlush p (activity s))).pool.frames.get? y.frame).getD f) (earlyMore y.frame (pauseFlush p (activity s))))))) ∧
  (∀ (s : State) (p : Nat) (ecc : PoolEcc) (sched : Bool),
    ((Instr.egressSelect p ecc sched).wf = true) → (acts s (Instr.egressSelect p ecc sched) = true) → (¬ (!maySelect s p)) →
        (¬ (p ≤ 17 ∧ rdf s (R.PORT_ETH_STATE p) 31 28 ≠ 2)) →
    exec (Instr.egressSelect p ecc sched) s = .next (settle s (egressSelectDo p ecc (if sched then raise 172 (inc s
        R.SCH_ECC_COUNT) else s))))

/-- Time base and statistics snapshot commands (R240 to R245, R268 to R282):
under each command's conditions, exec answers exactly the next state of its effect, settled. -/
def Obligations.TimeBaseCommandsComplete : Prop :=
  (∀ (s : State) (ppm : Int),
    ((Instr.clockCheck ppm).wf = true) → (acts s (Instr.clockCheck ppm) = true) → (¬ (ppm.natAbs ≤ 1000)) →
    exec (Instr.clockCheck ppm) s = .next (settle s (clockCheckDo ppm s))) ∧
  (∀ (s : State),
    exec Instr.ppsDriverReconnect s = .next (settle s (ppsDriverReconnectDo s))) ∧
  (∀ (s : State),
    (acts s Instr.ppsLandFault = true) → (ppsRole s) →
    exec Instr.ppsLandFault s = .next (settle s (ppsLandFaultDo s))) ∧
  (∀ (s : State),
    (acts s Instr.ppsPulse = true) → (ppsDue s = true) →
    exec Instr.ppsPulse s = .next (settle s (ppsRise s))) ∧
  (∀ (s : State),
    (acts s Instr.holdoverExpire = true) → (domState s (clkDom s) = 2 ∧ s.tim.holdNs + rdf s R.TIM_LIMITS 16 0 * 1000000000
        ≤ s.devNs) →
    exec Instr.holdoverExpire s = .next (settle s (raise 259 (domEnter (clkDom s) 0 s.devNs s)))) ∧
  (∀ (s : State) (d : Nat),
    ((Instr.syncTimeout d).wf = true) → (acts s (Instr.syncTimeout d) = true) →
    exec (Instr.syncTimeout d) s = .next (settle s (syncTimeoutDo d s))) ∧
  (∀ (s : State) (d : Nat) (p : Nat) (offsetNs : Int) (originNs : Nat) (corrNs : Nat) (twoStep : Bool),
    ((Instr.syncReceived d p offsetNs originNs corrNs twoStep).wf = true) → (acts s (Instr.syncReceived d p offsetNs
        originNs corrNs twoStep) = true) → (¬ (!isPtpPort p || !domActive s d || ptpRole s d p == 0)) →
    exec (Instr.syncReceived d p offsetNs originNs corrNs twoStep) s = .next (settle s (syncReceivedDo d p offsetNs originNs
        corrNs s twoStep))) ∧
  (∀ (s : State),
    (acts s Instr.timeStep = true) →
    exec Instr.timeStep s = .next (settle s (timeStepDo s))) ∧
  (∀ (s : State) (p : Nat) (delayNs : Option Nat) (nrrPpb : Int),
    ((Instr.pdelayExchange p delayNs nrrPpb).wf = true) → (acts s (Instr.pdelayExchange p delayNs nrrPpb) = true) → (¬
        (!isPtpPort p)) →
    exec (Instr.pdelayExchange p delayNs nrrPpb) s = .next (settle s (pdelayExchangeDo p delayNs nrrPpb s))) ∧
  (∀ (s : State) x,
    (acts s Instr.snapComplete = true) → (s.tim.snap = some x) → (x.taken = true) →
    exec Instr.snapComplete s = .next (settle s (snapCompleteDo x s))) ∧
  (∀ (s : State),
    (acts s Instr.snapSchedule = true) → (¬ (!snapDue s)) →
    exec Instr.snapSchedule s = .next (settle s (snapScheduleDo s)))

/-- Ethernet port commands (R219 to R239):
under each command's conditions, exec answers exactly the next state of its effect, settled. -/
def Obligations.EthernetCommandsComplete : Prop :=
  (∀ (s : State) (p : Nat),
    ((Instr.phyFault p).wf = true) → (acts s (Instr.phyFault p) = true) →
    exec (Instr.phyFault p) s = .next (settle s (portFault p 12 s))) ∧
  (∀ (s : State) (p : Nat) (sqi : Nat),
    ((Instr.sqiUpdate p sqi).wf = true) → (acts s (Instr.sqiUpdate p sqi) = true) → (¬ (11 < p ∨ linked s p = false)) →
    exec (Instr.sqiUpdate p sqi) s = .next (settle s (sqiUpdateDo p sqi s))) ∧
  (∀ (s : State) (p : Nat),
    ((Instr.tc10HandshakeDone p).wf = true) → (acts s (Instr.tc10HandshakeDone p) = true) → (tc10On s p && segCommitted s p
        && portQuiet s p) →
    exec (Instr.tc10HandshakeDone p) s = .next (settle s (segAsleep p (linkEnds p (portCause p 7 false s))))) ∧
  (∀ (s : State) (p : Nat),
    ((Instr.tc10SleepRequestRx p).wf = true) → (acts s (Instr.tc10SleepRequestRx p) = true) → (¬ (!tc10On s p)) →
    exec (Instr.tc10SleepRequestRx p) s = .next (settle s (tc10SleepRequestRxDo p s))) ∧
  (∀ (s : State) (p : Nat),
    ((Instr.stepFail p).wf = true) → (acts s (Instr.stepFail p) = true) → (link s p = 3) →
    exec (Instr.stepFail p) s = .next (settle s (stepFailDo p s))) ∧
  (∀ (s : State) (p : Nat) (durationNs : Nat) r,
    ((Instr.stepComplete p durationNs).wf = true) → (acts s (Instr.stepComplete p durationNs) = true) → ((ethPort s
        p).stepTo = some r) → (¬ (link s p ≠ 3)) →
    exec (Instr.stepComplete p durationNs) s = .next (settle s (stepCompleteDo p durationNs r s))) ∧
  (∀ (s : State) (p : Nat) (txBytes : Nat) (rxBytes : Nat) (partnerDown : Bool) (partnerUp : Bool) (headWaitUs : Nat),
    ((Instr.stepWindow p txBytes rxBytes partnerDown partnerUp headWaitUs).wf = true) → (acts s (Instr.stepWindow p txBytes
        rxBytes partnerDown partnerUp headWaitUs) = true) → (¬ (link s p ≠ 2 ∨ rdb s (R.PORT_ETH_STATE p) 19 = false ∨ 3 <
        p)) →
    exec (Instr.stepWindow p txBytes rxBytes partnerDown partnerUp headWaitUs) s = .next (settle s (stepWindowDo p txBytes
        rxBytes partnerDown partnerUp headWaitUs s))) ∧
  (∀ (s : State) (p : Nat) (rx : Option Bool),
    ((Instr.lpiEnter p rx).wf = true) → (acts s (Instr.lpiEnter p rx) = true) →
    exec (Instr.lpiEnter p rx) s = .next (settle s (lpiEnterDo p rx s))) ∧
  (∀ (s : State) (p : Nat),
    ((Instr.plcaBeaconReceived p).wf = true) → (acts s (Instr.plcaBeaconReceived p) = true) → (isSd p && rdb s
        (R.PORT_ETH_CFG p) 9 && linked s p) →
    exec (Instr.plcaBeaconReceived p) s = .next (settle s (setEth p { ethPort s p with beaconNs := s.devNs, plcaBusy := 0 }
        (wrf s (R.PORT_ETH_STATE p) 18 18 1)))) ∧
  (∀ (s : State) (p : Nat),
    ((Instr.plcaBeaconLoss p).wf = true) → (acts s (Instr.plcaBeaconLoss p) = true) →
    exec (Instr.plcaBeaconLoss p) s = .next (settle s (plcaBeaconLossDo p s))) ∧
  (∀ (s : State) (p : Nat) (partner : Option Nat),
    ((Instr.anFail p partner).wf = true) → (acts s (Instr.anFail p partner) = true) → (link s p = 1 ∧ isSd p = false ∧ rdb s
        (R.PORT_ETH_CFG p) 15 = true) →
    exec (Instr.anFail p partner) s = .next (settle s (anFailDo p partner s))) ∧
  (∀ (s : State) (p : Nat),
    ((Instr.linkHoldExpire p).wf = true) → (acts s (Instr.linkHoldExpire p) = true) →
    exec (Instr.linkHoldExpire p) s = .next (settle s (holdExpire p s))) ∧
  (∀ (s : State) (p : Nat),
    ((Instr.linkDown p).wf = true) → (acts s (Instr.linkDown p) = true) → (linked s p) →
    exec (Instr.linkDown p) s = .next (settle s (linkDrop p s))) ∧
  (∀ (s : State) (p : Nat) (rate : Nat) (leader : Bool) (eeeAgreed : Bool) (stepAgreed : Bool) (partner : Nat),
    ((Instr.linkUp p rate leader eeeAgreed stepAgreed partner).wf = true) → (acts s (Instr.linkUp p rate leader eeeAgreed
        stepAgreed partner) = true) → (¬ (link s p ≠ 1 ∨ (portEnabled s p && !segDown s p && upRate s p rate partner) =
        false)) →
    exec (Instr.linkUp p rate leader eeeAgreed stepAgreed partner) s = .next (settle s (linkUpDo p rate leader eeeAgreed
        stepAgreed partner s)))

/-- Network management commands (R332 to R350):
under each command's conditions, exec answers exactly the next state of its effect, settled. -/
def Obligations.NetworkManagementCommandsComplete : Prop :=
  (∀ (s : State) (i : Nat),
    ((Instr.falseWakeJudge i).wf = true) → (acts s (Instr.falseWakeJudge i) = true) →
    exec (Instr.falseWakeJudge i) s = .next (settle s (falseWakeJudgeDo i s))) ∧
  (∀ (s : State) (p : Nat),
    ((Instr.keepaliveRx p).wf = true) → (acts s (Instr.keepaliveRx p) = true) → (segMode s p = 0) →
    exec (Instr.keepaliveRx p) s = .next (settle s (keepaliveIn p s))) ∧
  (∀ (s : State) (p : Nat),
    ((Instr.keepaliveTx p).wf = true) → (acts s (Instr.keepaliveTx p) = true) →
    exec (Instr.keepaliveTx p) s = .next (settle s (keepaliveTxDo p s))) ∧
  (∀ (s : State) (p : Nat),
    ((Instr.coupleHoldExpire p).wf = true) → (acts s (Instr.coupleHoldExpire p) = true) → (¬ (coupled s p)) →
    exec (Instr.coupleHoldExpire p) s = .next (settle s (coupleHoldExpireDo p s))) ∧
  (∀ (s : State) (p : Nat),
    ((Instr.nmStuck p).wf = true) → (acts s (Instr.nmStuck p) = true) → (segCommitted s p ∧ (seg s p).sinceNs + 20000000 ≤
        s.devNs) →
    exec (Instr.nmStuck p) s = .next (settle s (raiseLine 365 61 (segAsleep p (if isEthPort p then linkEnds p s else s))))) ∧
  (∀ (s : State) (p : Nat),
    ((Instr.mediumAsleep p).wf = true) → (acts s (Instr.mediumAsleep p) = true) → (segCommitted s p && portQuiet s p &&
        sleepSent s p) →
    exec (Instr.mediumAsleep p) s = .next (settle s (segAsleep p (if isEthPort p then linkEnds p s else s)))) ∧
  (∀ (s : State) (p : Nat),
    ((Instr.wrapCommit p).wf = true) → (acts s (Instr.wrapCommit p) = true) →
    exec (Instr.wrapCommit p) s = .next (settle s (wrapCommitDo p s))) ∧
  (∀ (s : State) (p : Nat),
    ((Instr.silenceExpire p).wf = true) → (acts s (Instr.silenceExpire p) = true) → (¬ (keepaliveWaits s p)) → (segState s p
        = 3 ∧ (seg s p).silenceNs + rdf s (R.GAF_NM_TIMES_4 p) 31 16 * 1000000 ≤ s.devNs) →
    exec (Instr.silenceExpire p) s = .next (settle s (raise 354 (inc (segEnter p 4 s) (R.GAF_NM_CNT p 2))))) ∧
  (∀ (s : State) (p : Nat),
    ((Instr.nmRequestExpire p).wf = true) → (acts s (Instr.nmRequestExpire p) = true) → (segState s p = 1 ∧ (seg s
        p).sinceNs + rdf s (R.GAF_NM_TIMES p) 31 16 * 1000000 ≤ s.devNs) →
    exec (Instr.nmRequestExpire p) s = .next (settle s (segEnter p (if segNeed s p then 2 else 3) s))) ∧
  (∀ (s : State),
    (acts s Instr.needEvaluate = true) → (¬ (!rdb s R.GAF_NM_STATUS 0 || !startDone s)) →
    exec Instr.needEvaluate s = .next (settle s (needEvaluateDo s)))

/-- Bridging and signal commands (R161 to R187):
under each command's conditions, exec answers exactly the next state of its effect, settled. -/
def Obligations.BridgingCommandsComplete : Prop :=
  (∀ (s : State) (n : Nat) (dest : Nat),
    ((Instr.j1939RequestReceived n dest).wf = true) → (acts s (Instr.j1939RequestReceived n dest) = true) →
    exec (Instr.j1939RequestReceived n dest) s = .next (settle s (j1939RequestReceivedDo n dest s))) ∧
  (∀ (s : State) (n : Nat) (address : Nat) (name : BitVec 64),
    ((Instr.j1939ClaimReceived n address name).wf = true) → (acts s (Instr.j1939ClaimReceived n address name) = true) → (¬
        (!rdb s (R.SGE_J1939 n) 31 ∨ address = 0xFE)) →
    exec (Instr.j1939ClaimReceived n address name) s = .next (settle s (j1939ClaimReceivedDo n address name s))) ∧
  (∀ (s : State) (n : Nat),
    ((Instr.j1939ClaimTimer n).wf = true) → (acts s (Instr.j1939ClaimTimer n) = true) →
    exec (Instr.j1939ClaimTimer n) s = .next (settle s (j1939ClaimTimerDo n s))) ∧
  (∀ (s : State) (sess : Nat) t,
    ((Instr.tpBamPacket sess).wf = true) → (acts s (Instr.tpBamPacket sess) = true) → (s.sge.tp.get? sess = some t) → (t.st
        = 4 ∧ t.da = 255 ∧ recStopped s 5 t.record = false ∧ t.timerNs ≤ s.devNs) →
    exec (Instr.tpBamPacket sess) s = .next (settle s (tpBamPacketDo sess t s))) ∧
  (∀ (s : State) (sess : Nat) t,
    ((Instr.tpTimerExpire sess).wf = true) → (acts s (Instr.tpTimerExpire sess) = true) → (s.sge.tp.get? sess = some t) →
        (tpTimed t && !recStopped s 5 t.record && decide (t.timerNs ≤ s.devNs)) →
    exec (Instr.tpTimerExpire sess) s = .next (settle s (tpAbort sess t (some 3) s))) ∧
  (∀ (s : State) (cells : Ecc) (mem : Ecc),
    ((Instr.transportPacket cells mem).wf = true) → (acts s (Instr.transportPacket cells mem) = true) →
    exec (Instr.transportPacket cells mem) s = .next (settle s (transportPacketDo cells mem s))) ∧
  (∀ (s : State) (l : Nat),
    ((Instr.pduRxTimeout l).wf = true) → (acts s (Instr.pduRxTimeout l) = true) →
    exec (Instr.pduRxTimeout l) s = .next (settle s (pduRxTimeoutDo l s))) ∧
  (∀ (s : State) (t : Nat) (ecc : Ecc),
    ((Instr.signalGroupApply t ecc).wf = true) → (acts s (Instr.signalGroupApply t ecc) = true) → (¬ (s.sge.stopped.testBit
        t)) →
    exec (Instr.signalGroupApply t ecc) s = .next (settle s (signalGroupApplyDo t ecc s))) ∧
  (∀ (s : State) (cells : Ecc) (mem : Ecc),
    ((Instr.signalFrame cells mem).wf = true) → (acts s (Instr.signalFrame cells mem) = true) →
    exec (Instr.signalFrame cells mem) s = .next (settle s (signalFrameDo cells mem s))) ∧
  (∀ (s : State) (l : Nat),
    ((Instr.pduGapEnd l).wf = true) → (acts s (Instr.pduGapEnd l) = true) →
    exec (Instr.pduGapEnd l) s = .next (settle s (pduGapEndDo l s))) ∧
  (∀ (s : State) (l : Nat) due,
    ((Instr.pduPeriodicTx l).wf = true) → (acts s (Instr.pduPeriodicTx l) = true) → (pduDue s l = some due) → (due ≤
        s.devNs) →
    exec (Instr.pduPeriodicTx l) s = .next (settle s (pduPeriodicTxDo l due s))) ∧
  (∀ (s : State) (cells : Ecc) (mem : Ecc),
    ((Instr.unpack1722 cells mem).wf = true) → (acts s (Instr.unpack1722 cells mem) = true) →
    exec (Instr.unpack1722 cells mem) s = .next (settle s (unpack1722Do cells mem s))) ∧
  (∀ (s : State) (e : Nat),
    ((Instr.encapWindowExpire e).wf = true) → (acts s (Instr.encapWindowExpire e) = true) → (!recStopped s 2 e && encDue s e
        && !encWaits s e) →
    exec (Instr.encapWindowExpire e) s = .next (settle s (encClose e 3 s))) ∧
  (∀ (s : State) (cells : Ecc) (mem : Ecc),
    ((Instr.encapMessage cells mem).wf = true) → (acts s (Instr.encapMessage cells mem) = true) →
    exec (Instr.encapMessage cells mem) s = .next (settle s (encapMessageDo cells mem s))) ∧
  (∀ (s : State) (cells : Ecc) (mem : Ecc),
    ((Instr.canConvert cells mem).wf = true) → (acts s (Instr.canConvert cells mem) = true) →
    exec (Instr.canConvert cells mem) s = .next (settle s (canConvertDo cells mem s)))

/-- Host access commands: the PCIe link and the rings, pops, frame windows, event FIFOs, mailbox, injection (R15, R103, R458 to R475):
under each command's conditions, exec answers exactly the next state of its effect, settled. -/
def Obligations.HostAccessCommandsComplete : Prop :=
  (∀ (s : State),
    (acts s Instr.transportRingWaitExpire = true) →
    exec Instr.transportRingWaitExpire s = .next (settle s (transportRingWaitExpireDo s))) ∧
  (∀ (s : State) (k : Nat),
    ((Instr.tsReqTimeout k).wf = true) → (acts s (Instr.tsReqTimeout k) = true) →
    exec (Instr.tsReqTimeout k) s = .next (settle s (tsReqTimeoutDo k s))) ∧
  (∀ (s : State) (k : Nat) u,
    ((Instr.completionCoalesceExpire k).wf = true) → (acts s (Instr.completionCoalesceExpire k) = true) → (s.host.unsig.get?
        k = some u) → (u.2 + rdf s (R.HDMA_RING_CTRL k) 15 0 * 1000 ≤ s.devNs) →
    exec (Instr.completionCoalesceExpire k) s = .next (settle s (ringSignal k s))) ∧
  (∀ (s : State) (k : Nat),
    ((Instr.ringDmaError k).wf = true) → (acts s (Instr.ringDmaError k) = true) → (ringRunning s k) →
    exec (Instr.ringDmaError k) s = .next (settle s (ringError k 500 (inc s (R.HDMA_CNT 0))))) ∧
  (∀ (s : State) (k : Nat) (data : List Byte) (ecc : Ecc),
    ((Instr.hostDescFetch k data ecc).wf = true) → (acts s (Instr.hostDescFetch k data ecc) = true) →
    exec (Instr.hostDescFetch k data ecc) s = .next (settle s (hostDescFetchDo k data ecc s))) ∧
  (∀ (s : State) (gen : Nat) (width : Nat) (bme : Bool),
    ((Instr.pcieLinkUp gen width bme).wf = true) → (acts s (Instr.pcieLinkUp gen width bme) = true) → (¬ (s.gaf.inReset ∨ 2
        < rung s)) →
    exec (Instr.pcieLinkUp gen width bme) s = .next (settle s (pcieLinkUpDo gen width bme s))) ∧
  (∀ (s : State),
    (acts s Instr.pcieReset = true) →
    exec Instr.pcieReset s = .next (settle s (pcieDown s))) ∧
  (∀ (s : State) (req : Requester) (slot : Nat) (val : Word),
    ((Instr.cpInject req slot val).wf = true) → (acts s (Instr.cpInject req slot val) = true) → (unserved req s = false) →
    exec (Instr.cpInject req slot val) s = .next (settle s ((fun s => stageSync (cpTx req slot val.toNat s)) (hostRaise req
        s)))) ∧
  (∀ (s : State),
    (acts s Instr.mbxFirmwareTimeout = true) → (mbxForLyesh s && decide (s.host.mbxSince + 1000000000 ≤ s.devNs)) →
    exec Instr.mbxFirmwareTimeout s = .next (settle s (mbxDone 5 0 s))) ∧
  (∀ (s : State) (req : Requester) (val : Word),
    ((Instr.mbxAnswer req val).wf = true) → (acts s (Instr.mbxAnswer req val) = true) → (unserved req s = false) →
    exec (Instr.mbxAnswer req val) s = .next (settle s ((mbxReply req val.toNat) (hostRaise req s)))) ∧
  (∀ (s : State) (req : Requester) (val : Word),
    ((Instr.mbxOther req val).wf = true) → (acts s (Instr.mbxOther req val) = true) → (unserved req s = false) →
    exec (Instr.mbxOther req val) s = .next (settle s ((mbxStart req (mbxDone 2 0)) (hostRaise req s)))) ∧
  (∀ (s : State) (req : Requester) (val : Word),
    ((Instr.mbxFirmware req val).wf = true) → (acts s (Instr.mbxFirmware req val) = true) → (unserved req s = false) →
    exec (Instr.mbxFirmware req val) s = .next (settle s ((mbxStart req (mbxFirmwareOp (putFld val.toNat 31 24 3)))
        (hostRaise req s)))) ∧
  (∀ (s : State) (req : Requester) (val : Word),
    ((Instr.mbxInvalidate req val).wf = true) → (acts s (Instr.mbxInvalidate req val) = true) → (unserved req s = false) →
    exec (Instr.mbxInvalidate req val) s = .next (settle s ((mbxStart req (mbxInvalidateOp (fld val.toNat 23 0))) (hostRaise
        req s)))) ∧
  (∀ (s : State) (req : Requester) (val : Word),
    ((Instr.mbxScene req val).wf = true) → (acts s (Instr.mbxScene req val) = true) → (unserved req s = false) →
    exec (Instr.mbxScene req val) s = .next (settle s ((mbxStart req (mbxSceneOp req (fld val.toNat 23 0))) (hostRaise req
        s)))) ∧
  (∀ (s : State) (v : Nat) x,
    ((Instr.evtHoldoffExpire v).wf = true) → (acts s (Instr.evtHoldoffExpire v) = true) → (s.router.vecs.get? v = some x) →
        (x.lastNs + rdf s R.EVT_VEC_HOLDOFF 15 0 * 1000 ≤ s.devNs ∧ x.owed = true) →
    exec (Instr.evtHoldoffExpire v) s = .next (settle s (evtHoldoffExpireDo v x s))) ∧
  (∀ (s : State),
    (acts s Instr.evtTickPush = true) →
    exec Instr.evtTickPush s = .next (settle s (tickPush s))) ∧
  (∀ (s : State) (req : Requester) (t : Nat) (dwords : Nat) (be : BitVec 4),
    ((Instr.evtFifoPop req t dwords be).wf = true) → (acts s (Instr.evtFifoPop req t dwords be) = true) → (unserved req s =
        false) →
    exec (Instr.evtFifoPop req t dwords be) s = .next (settle s (evtFifoPopDo req t dwords be (hostRaise req s)))) ∧
  (∀ (s : State) (req : Requester) (w : Nat) (val : Word) (ecc : PoolEcc),
    ((Instr.frameSelect req w val ecc).wf = true) → (acts s (Instr.frameSelect req w val ecc) = true) → (unserved req s =
        false) →
    exec (Instr.frameSelect req w val ecc) s = .next (settle s ((frameSel req w val.toNat ecc) (hostRaise req s)))) ∧
  (∀ (s : State) (req : Requester) (val : Word),
    ((Instr.cplFree req val).wf = true) → (acts s (Instr.cplFree req val) = true) → (unserved req s = false) →
    exec (Instr.cplFree req val) s = .next (settle s ((cplFreeWrite req val.toNat) (hostRaise req s)))) ∧
  (∀ (s : State) (req : Requester) (k : Nat) (dwords : Nat) (be : BitVec 4) (ecc : PoolEcc),
    ((Instr.cplPopRead req k dwords be ecc).wf = true) → (acts s (Instr.cplPopRead req k dwords be ecc) = true) → (unserved
        req s = false) →
    exec (Instr.cplPopRead req k dwords be ecc) s = .next (settle s (cplPopReadDo req k dwords be ecc (hostRaise req s)))) ∧
  (∀ (s : State) (req : Requester) (val : Word),
    ((Instr.stallLimitWrite req val).wf = true) → (acts s (Instr.stallLimitWrite req val) = true) → (unserved req s = false)
        →
    exec (Instr.stallLimitWrite req val) s = .next (settle s ((stallLimit req (fld val.toNat 9 0)) (hostRaise req s)))) ∧
  (∀ (s : State) (req : Requester) x,
    ((Instr.popStallExpire req).wf = true) → (acts s (Instr.popStallExpire req) = true) → (s.router.stalls.find? (fun x =>
        x.req == req) = some x) → (x.sinceNs + stallNs s ≤ s.devNs) →
    exec (Instr.popStallExpire req) s = .next (settle s (popStallExpireDo req x s)))

/-- Register and SPI commands, and writes of command registers (R12, R13, R455 to R459, R476); a write with fewer than four byte enables changes nothing (R12):
under each command's conditions, exec answers exactly the next state of its effect, settled. -/
def Obligations.RegisterAndSpiCommandsComplete : Prop :=
  (∀ (s : State) (k : Nat) (prod : Nat),
    ((Instr.ringDoorbell k prod).wf = true) → (acts s (Instr.ringDoorbell k prod) = true) → (unserved .hostPcie s = false) →
    exec (Instr.ringDoorbell k prod) s = .next (settle s (doorbell k prod (hostRaise .hostPcie s)))) ∧
  (∀ (s : State) (req : Requester) (val : Word),
    ((Instr.gafAlarmWrite req val).wf = true) → (acts s (Instr.gafAlarmWrite req val) = true) → (unserved req s = false) →
    exec (Instr.gafAlarmWrite req val) s = .next (settle s ((alarmSet val.toNat) (hostRaise req s)))) ∧
  (∀ (s : State) (req : Requester) (val : Word),
    ((Instr.hostWakeAck req val).wf = true) → (acts s (Instr.hostWakeAck req val) = true) → (unserved req s = false) →
    exec (Instr.hostWakeAck req val) s = .next (settle s ((hostWakeAckDo val) (hostRaise req s)))) ∧
  (∀ (s : State) (req : Requester) (val : Word),
    ((Instr.gafRungLimitWrite req val).wf = true) → (acts s (Instr.gafRungLimitWrite req val) = true) → (unserved req s =
        false) →
    exec (Instr.gafRungLimitWrite req val) s = .next (settle s ((gafRungLimitDo req val) (hostRaise req s)))) ∧
  (∀ (s : State) (req : Requester) (k : Nat) (val : Word),
    ((Instr.ringDisable req k val).wf = true) → (acts s (Instr.ringDisable req k val) = true) → (unserved req s = false) →
    exec (Instr.ringDisable req k val) s = .next (settle s ((ringDisableDo k val) (hostRaise req s)))) ∧
  (∀ (s : State) (req : Requester) (k : Nat) (val : Word),
    ((Instr.ringEnable req k val).wf = true) → (acts s (Instr.ringEnable req k val) = true) → (unserved req s = false) →
    exec (Instr.ringEnable req k val) s = .next (settle s ((ringEnableDo k val) (hostRaise req s)))) ∧
  (∀ (s : State) (req : Requester),
    ((Instr.updAttest req).wf = true) → (acts s (Instr.updAttest req) = true) → (unserved req s = false) →
    exec (Instr.updAttest req) s = .next (settle s ((updAttestDo req) (hostRaise req s)))) ∧
  (∀ (s : State) (req : Requester),
    ((Instr.updRestart req).wf = true) → (acts s (Instr.updRestart req) = true) → (unserved req s = false) →
    exec (Instr.updRestart req) s = .next (settle s (updRestartDo (hostRaise req s)))) ∧
  (∀ (s : State) (req : Requester),
    ((Instr.updDiscard req).wf = true) → (acts s (Instr.updDiscard req) = true) → (unserved req s = false) →
    exec (Instr.updDiscard req) s = .next (settle s (updDiscardDo (hostRaise req s)))) ∧
  (∀ (s : State) (req : Requester),
    ((Instr.updConfirm req).wf = true) → (acts s (Instr.updConfirm req) = true) → (unserved req s = false) →
    exec (Instr.updConfirm req) s = .next (settle s (updConfirmDo (hostRaise req s)))) ∧
  (∀ (s : State) (req : Requester),
    ((Instr.updActivate req).wf = true) → (acts s (Instr.updActivate req) = true) → (unserved req s = false) →
    exec (Instr.updActivate req) s = .next (settle s (updActivateDo (hostRaise req s)))) ∧
  (∀ (s : State) (req : Requester),
    ((Instr.updVerify req).wf = true) → (acts s (Instr.updVerify req) = true) → (unserved req s = false) →
    exec (Instr.updVerify req) s = .next (settle s (updVerifyDo (hostRaise req s)))) ∧
  (∀ (s : State) (req : Requester),
    ((Instr.updCommit req).wf = true) → (acts s (Instr.updCommit req) = true) → (unserved req s = false) →
    exec (Instr.updCommit req) s = .next (settle s (updCommitDo (hostRaise req s)))) ∧
  (∀ (s : State) (req : Requester),
    ((Instr.updClose req).wf = true) → (acts s (Instr.updClose req) = true) → (unserved req s = false) →
    exec (Instr.updClose req) s = .next (settle s (updCloseDo (hostRaise req s)))) ∧
  (∀ (s : State) (req : Requester),
    ((Instr.updOpen req).wf = true) → (acts s (Instr.updOpen req) = true) → (unserved req s = false) →
    exec (Instr.updOpen req) s = .next (settle s (updOpenDo (hostRaise req s)))) ∧
  (∀ (s : State) (req : Requester),
    ((Instr.latch req).wf = true) → (acts s (Instr.latch req) = true) → (unserved req s = false) →
    exec (Instr.latch req) s = .next (settle s (latchDo (hostRaise req s)))) ∧
  (∀ (s : State) (req : Requester),
    ((Instr.stepToSet req).wf = true) → (acts s (Instr.stepToSet req) = true) → (unserved req s = false) →
    exec (Instr.stepToSet req) s = .next (settle s (stepToSetDo (hostRaise req s)))) ∧
  (∀ (s : State) (req : Requester) (val : Word),
    ((Instr.timGmAdj req val).wf = true) → (acts s (Instr.timGmAdj req val) = true) → (unserved req s = false) →
    exec (Instr.timGmAdj req val) s = .next (settle s ((timGmAdjDo req val) (hostRaise req s)))) ∧
  (∀ (s : State) (req : Requester) (val : Word),
    ((Instr.svyCmdGo req val).wf = true) → (acts s (Instr.svyCmdGo req val) = true) → (unserved req s = false) →
    exec (Instr.svyCmdGo req val) s = .next (settle s ((svyCmdGoDo val) (hostRaise req s)))) ∧
  (∀ (s : State) (req : Requester) (val : Word),
    ((Instr.snapGo req val).wf = true) → (acts s (Instr.snapGo req val) = true) → (unserved req s = false) →
    exec (Instr.snapGo req val) s = .next (settle s ((snapGoDo val) (hostRaise req s)))) ∧
  (∀ (s : State) (req : Requester),
    ((Instr.releaseAuth req).wf = true) → (acts s (Instr.releaseAuth req) = true) → (unserved req s = false) →
    exec (Instr.releaseAuth req) s = .next (settle s ((releaseAuthDo req) (hostRaise req s)))) ∧
  (∀ (s : State) (req : Requester),
    ((Instr.release req).wf = true) → (acts s (Instr.release req) = true) → (unserved req s = false) →
    exec (Instr.release req) s = .next (settle s ((releaseDo req) (hostRaise req s)))) ∧
  (∀ (s : State) (req : Requester) (val : Word),
    ((Instr.rxuFaultnWrite req val).wf = true) → (acts s (Instr.rxuFaultnWrite req val) = true) → (unserved req s = false) →
    exec (Instr.rxuFaultnWrite req val) s = .next (settle s ((rxuFaultnWriteDo req val) (hostRaise req s)))) ∧
  (∀ (s : State) (req : Requester),
    ((Instr.enterSafe req).wf = true) → (acts s (Instr.enterSafe req) = true) → (unserved req s = false) →
    exec (Instr.enterSafe req) s = .next (settle s (enterSafeDo (hostRaise req s)))) ∧
  (∀ (s : State) (req : Requester),
    ((Instr.unfreeze req).wf = true) → (acts s (Instr.unfreeze req) = true) → (unserved req s = false) →
    exec (Instr.unfreeze req) s = .next (settle s (unfreezeDo (hostRaise req s)))) ∧
  (∀ (s : State) (req : Requester),
    ((Instr.trigger req).wf = true) → (acts s (Instr.trigger req) = true) → (unserved req s = false) →
    exec (Instr.trigger req) s = .next (settle s (triggerDo (hostRaise req s)))) ∧
  (∀ (s : State) (req : Requester) (w : Nat),
    ((Instr.wmClrStats req w).wf = true) → (acts s (Instr.wmClrStats req w) = true) → (unserved req s = false) →
    exec (Instr.wmClrStats req w) s = .next (settle s ((wmClrStatsDo w) (hostRaise req s)))) ∧
  (∀ (s : State) (req : Requester) (val : Word),
    ((Instr.clearSuppress req val).wf = true) → (acts s (Instr.clearSuppress req val) = true) → (unserved req s = false) →
    exec (Instr.clearSuppress req val) s = .next (settle s ((clearSuppressDo val) (hostRaise req s)))) ∧
  (∀ (s : State) (req : Requester) (val : Word),
    ((Instr.soClearLatch req val).wf = true) → (acts s (Instr.soClearLatch req val) = true) → (unserved req s = false) →
    exec (Instr.soClearLatch req val) s = .next (settle s ((soClearLatchDo val) (hostRaise req s)))) ∧
  (∀ (s : State) (req : Requester) (val : Word),
    ((Instr.soSet req val).wf = true) → (acts s (Instr.soSet req val) = true) → (unserved req s = false) →
    exec (Instr.soSet req val) s = .next (settle s ((soSetDo req val) (hostRaise req s)))) ∧
  (∀ (s : State) (req : Requester) (p : Nat) (val : Word),
    ((Instr.ethRestart req p val).wf = true) → (acts s (Instr.ethRestart req p val) = true) → (unserved req s = false) →
    exec (Instr.ethRestart req p val) s = .next (settle s ((ethRestartDo p val) (hostRaise req s)))) ∧
  (∀ (s : State) (req : Requester) (n : Nat) (val : Word),
    ((Instr.canRecover req n val).wf = true) → (acts s (Instr.canRecover req n val) = true) → (unserved req s = false) →
    exec (Instr.canRecover req n val) s = .next (settle s ((canRecoverDo n val) (hostRaise req s)))) ∧
  (∀ (s : State) (req : Requester) (addr : Nat) (be : BitVec 4) (dwords : Nat),
    ((Instr.hostReservedRead req addr be dwords).wf = true) → (acts s (Instr.hostReservedRead req addr be dwords) = true) →
        (unserved req s = false) →
    exec (Instr.hostReservedRead req addr be dwords) s = .next (settle s (mapRead req addr dwords be (hostRaise req s)))) ∧
  (∀ (s : State),
    (acts s Instr.spiStatus = true) →
    exec Instr.spiStatus s = .next (settle s (answer [statusByte s] (emit (.miso [BitVec.ofNat 8 (statusByte s)]) s)))) ∧
  (∀ (s : State) (addr : Nat) (count : Nat) (ready : Bool) (wait : Nat),
    ((Instr.spiRead addr count ready wait).wf = true) → (acts s (Instr.spiRead addr count ready wait) = true) → (unserved
        .spi s = false) →
    exec (Instr.spiRead addr count ready wait) s = .next (settle s (spiReadDo addr count ready wait (hostRaise .spi s)))) ∧
  (∀ (s : State) (addr : Nat) (words : List Word) (cutShort : Bool),
    ((Instr.spiWrite addr words cutShort).wf = true) → (acts s (Instr.spiWrite addr words cutShort) = true) → (unserved .spi
        s = false) →
    exec (Instr.spiWrite addr words cutShort) s = .next (settle s (spiWriteDo addr (if cutShort then words.dropLast else
        words) (hostRaise .spi s)))) ∧
  (∀ (s : State) (req : Requester) (addr : Nat) (be : BitVec 4) (val : Word),
    ((Instr.registerWrite req addr be val).wf = true) → (acts s (Instr.registerWrite req addr be val) = true) → be = 15 →
    exec (Instr.registerWrite req addr be val) s = .next (settle s (registerWriteDo req addr be val s))) ∧
  (∀ (s : State) (req : Requester) (a : Nat) (be : BitVec 4) (v : Word),
    (Instr.registerWrite req a be v).wf = true → acts s (Instr.registerWrite req a be v) = true → be ≠ 15 →
    exec (Instr.registerWrite req a be v) s = .next (settle s s))

/-- CAN channel commands (R193 to R218, R279 to R281):
under each command's conditions, exec answers exactly the next state of its effect, settled. -/
def Obligations.CanCommandsComplete : Prop :=
  (∀ (s : State) (n : Nat) (nearPs : Nat) (farPs : Nat) (tdcv : Nat) a,
    ((Instr.canTxSuccess n nearPs farPs tdcv).wf = true) → (acts s (Instr.canTxSuccess n nearPs farPs tdcv) = true) →
        (s.sched.canTx.get? n = some a) → (¬ (!canLive s n || tdcOver s n tdcv a)) →
    exec (Instr.canTxSuccess n nearPs farPs tdcv) s = .next (settle s (canTxSuccessDo n nearPs farPs tdcv a s))) ∧
  (∀ (s : State) (n : Nat) (frame : List Byte) (negative : Bool) (since : Nat) (dataPhase : Bool),
    ((Instr.canFrameReceived n frame negative since dataPhase).wf = true) → (acts s (Instr.canFrameReceived n frame negative
        since dataPhase) = true) →
    exec (Instr.canFrameReceived n frame negative since dataPhase) s = .next (settle s (if dataPhase then canDataPhase n
        frame s else canFrameReceivedDo n frame negative since s))) ∧
  (∀ (s : State) (n : Nat),
    ((Instr.canDriverCooled n).wf = true) →
    exec (Instr.canDriverCooled n) s = .next (settle s (canDriverCooledDo n s))) ∧
  (∀ (s : State) (n : Nat),
    ((Instr.canTrcvFault n).wf = true) → (acts s (Instr.canTrcvFault n) = true) →
    exec (Instr.canTrcvFault n) s = .next (settle s (canTrcvFaultDo n s))) ∧
  (∀ (s : State) (n : Nat),
    ((Instr.canTerminationApply n).wf = true) → (acts s (Instr.canTerminationApply n) = true) → (¬ (!(canChan s
        n).termPending)) →
    exec (Instr.canTerminationApply n) s = .next (settle s (canTerminationApplyDo n s))) ∧
  (∀ (s : State) (n : Nat),
    ((Instr.canIntegrated n).wf = true) → (acts s (Instr.canIntegrated n) = true) →
    exec (Instr.canIntegrated n) s = .next (settle s (canIntegratedDo n s))) ∧
  (∀ (s : State) (n : Nat),
    ((Instr.canProtocolException n).wf = true) → (acts s (Instr.canProtocolException n) = true) →
    exec (Instr.canProtocolException n) s = .next (settle s (canProtocolExceptionDo n s))) ∧
  (∀ (s : State) (n : Nat),
    ((Instr.canDomTimeout n).wf = true) → (acts s (Instr.canDomTimeout n) = true) → (¬ (canSt s n = 0 ∨ canSt s n = 9)) →
    exec (Instr.canDomTimeout n) s = .next (settle s (canDomTimeoutDo n s))) ∧
  (∀ (s : State) (n : Nat),
    ((Instr.canRecoveryComplete n).wf = true) → (acts s (Instr.canRecoveryComplete n) = true) → (¬ (canSt s n ≠ 4)) →
    exec (Instr.canRecoveryComplete n) s = .next (settle s (canRecoveryCompleteDo n s))) ∧
  (∀ (s : State) (n : Nat) (kind : CanErr) (asTx : Bool) (domInPassiveFlag : Bool) (extra8 : Nat) (tdcv : Option Nat) (place
      : CanWhere),
    ((Instr.canErrorDetected n kind asTx domInPassiveFlag extra8 tdcv place).wf = true) → (acts s (Instr.canErrorDetected n
        kind asTx domInPassiveFlag extra8 tdcv place) = true) → (¬ (!canLive s n || (asTx && (s.sched.canTx.get?
        n).isNone))) →
    exec (Instr.canErrorDetected n kind asTx domInPassiveFlag extra8 tdcv place) s = .next (settle s (canErrorDetectedDo n
        kind asTx domInPassiveFlag extra8 tdcv place s))) ∧
  (∀ (s : State) (n : Nat),
    ((Instr.lonelyProbe n).wf = true) → (acts s (Instr.lonelyProbe n) = true) →
    exec (Instr.lonelyProbe n) s = .next (settle s (lonelyProbeDo n s))) ∧
  (∀ (s : State) (n : Nat),
    ((Instr.canArbitrationStart n).wf = true) → (acts s (Instr.canArbitrationStart n) = true) →
    exec (Instr.canArbitrationStart n) s = .next (settle s (canArbitrationStartDo n s))) ∧
  (∀ (s : State) (n : Nat) c,
    ((Instr.followupAbandon n).wf = true) → (acts s (Instr.followupAbandon n) = true) → ((canChan s n).clap = some c) →
        (c.followup = true ∧ s.sched.canTx.get? n ≠ some .followup ∧ c.dueNs + 10000000 ≤ s.devNs) →
    exec (Instr.followupAbandon n) s = .next (settle s (clapNextUp n (fupDrop n s)))) ∧
  (∀ (s : State) (n : Nat) c,
    ((Instr.clapperAbandon n).wf = true) → (acts s (Instr.clapperAbandon n) = true) → ((canChan s n).clap = some c) →
        (c.followup = false ∧ s.sched.canTx.get? n ≠ some .sync ∧ c.dueNs + 10000000 ≤ s.devNs) →
    exec (Instr.clapperAbandon n) s = .next (settle s (clapNextUp n (clapLate n (clapWaitLate n s))))) ∧
  (∀ (s : State) (n : Nat) t,
    ((Instr.clapperSyncDue n).wf = true) → (acts s (Instr.clapperSyncDue n) = true) → (s.tim.clapNext.get? n = some t) → (¬
        (s.globalNs < t ∨ clapOn s n = false)) →
    exec (Instr.clapperSyncDue n) s = .next (settle s (clapperSyncDueDo n t s))) ∧
  (∀ (s : State) (n : Nat) (ecc : PoolEcc),
    ((Instr.canPqMove n ecc).wf = true) → (acts s (Instr.canPqMove n ecc) = true) →
    exec (Instr.canPqMove n ecc) s = .next (settle s (canPqMoveDo n ecc s)))

/-- Call sheet, scene, take, update and attestation commands (R399 to R453):
under each command's conditions, exec answers exactly the next state of its effect, settled. -/
def Obligations.SheetAndUpdateCommandsComplete : Prop :=
  (∀ (s : State),
    (acts s Instr.sceneSwitch = true) → (sceneDue s = true) →
    exec Instr.sceneSwitch s = .next (settle s (sceneSwitchDo s))) ∧
  (∀ (s : State) (req : Requester) (target : Nat),
    ((Instr.sceneRequest req target).wf = true) → (acts s (Instr.sceneRequest req target) = true) →
    exec (Instr.sceneRequest req target) s = .next (settle s (sceneRequestDo req target false s))) ∧
  (∀ (s : State),
    (acts s Instr.sheetLoad = true) → (¬ (sheetLive s || s.gaf.inReset || s.gaf.resuming || loaderOnly s || decide (rung s ≠
        0))) →
    exec Instr.sheetLoad s = .next (settle s (sheetLoad none s))) ∧
  (∀ (s : State),
    (acts s Instr.attestReady = true) → (¬ (!rdb s R.ATT_STATUS 0 || s.gaf.resLow)) →
    exec Instr.attestReady s = .next (settle s (attestReadyDo s))) ∧
  (∀ (s : State),
    (acts s Instr.stohalStatus = true) →
    exec Instr.stohalStatus s = .next (settle s (stohalStatusDo s))) ∧
  (∀ (s : State),
    (acts s Instr.stohalConfirm = true) →
    exec Instr.stohalConfirm s = .next (settle s (stohalConfirmDo s))) ∧
  (∀ (s : State),
    (acts s Instr.stohalActivate = true) →
    exec Instr.stohalActivate s = .next (settle s (stohalActivateDo s))) ∧
  (∀ (s : State),
    (acts s Instr.stohalEnd = true) →
    exec Instr.stohalEnd s = .next (settle s (stohalEndDo s))) ∧
  (∀ (s : State),
    (acts s Instr.stohalCommit = true) →
    exec Instr.stohalCommit s = .next (settle s (stohalCommitDo s))) ∧
  (∀ (s : State) (seq : Nat) (data : List Byte),
    ((Instr.stohalData seq data).wf = true) → (acts s (Instr.stohalData seq data) = true) → (¬ (sessOwner s ≠ 4 ∨
        s.upd.dl.isNone = true)) →
    exec (Instr.stohalData seq data) s = .next (settle s (stohalDataDo seq data s))) ∧
  (∀ (s : State) (offset : Nat),
    ((Instr.stohalOpen offset).wf = true) → (acts s (Instr.stohalOpen offset) = true) →
    exec (Instr.stohalOpen offset) s = .next (settle s (stohalOpenDo offset s))) ∧
  (∀ (s : State) (doip : Bool) (sid : Nat),
    ((Instr.udsUnsupportedService doip sid).wf = true) → (acts s (Instr.udsUnsupportedService doip sid) = true) →
    exec (Instr.udsUnsupportedService doip sid) s = .next (settle s (udsRequest doip sid (fun src s => udsNeg src sid 0x11
        s) s))) ∧
  (∀ (s : State) (doip : Bool),
    ((Instr.udsTransferExit doip).wf = true) → (acts s (Instr.udsTransferExit doip) = true) →
    exec (Instr.udsTransferExit doip) s = .next (settle s (udsTransferExitDo doip s))) ∧
  (∀ (s : State) (doip : Bool) (seq : Nat) (data : List Byte),
    ((Instr.udsTransferData doip seq data).wf = true) → (acts s (Instr.udsTransferData doip seq data) = true) →
    exec (Instr.udsTransferData doip seq data) s = .next (settle s (udsTransferDataDo doip seq data s))) ∧
  (∀ (s : State) (doip : Bool) (fmt : Nat) (alfid : Nat) (address : Nat) (size : Nat),
    ((Instr.udsRequestDownload doip fmt alfid address size).wf = true) → (acts s (Instr.udsRequestDownload doip fmt alfid
        address size) = true) →
    exec (Instr.udsRequestDownload doip fmt alfid address size) s = .next (settle s (udsRequestDownloadDo doip fmt alfid
        address size s))) ∧
  (∀ (s : State) (doip : Bool) (routine : Nat),
    ((Instr.udsRoutineResults doip routine).wf = true) → (acts s (Instr.udsRoutineResults doip routine) = true) →
    exec (Instr.udsRoutineResults doip routine) s = .next (settle s (udsRoutineResultsDo doip routine s))) ∧
  (∀ (s : State) (doip : Bool),
    ((Instr.udsRoutineConfirm doip).wf = true) → (acts s (Instr.udsRoutineConfirm doip) = true) →
    exec (Instr.udsRoutineConfirm doip) s = .next (settle s (udsRequest doip 0x31 (fun src s => udsIn src 0x31 (fun s =>
        routineDone src 0x0212 (confirm s)) s) s))) ∧
  (∀ (s : State) (doip : Bool),
    ((Instr.udsRoutineActivate doip).wf = true) → (acts s (Instr.udsRoutineActivate doip) = true) →
    exec (Instr.udsRoutineActivate doip) s = .next (settle s (udsRequest doip 0x31 (fun src s => udsIn src 0x31 (fun s =>
        routineDone src 0x0211 (activate s)) s) s))) ∧
  (∀ (s : State) (doip : Bool),
    ((Instr.udsRoutineVerify doip).wf = true) → (acts s (Instr.udsRoutineVerify doip) = true) →
    exec (Instr.udsRoutineVerify doip) s = .next (settle s (udsRoutineVerifyDo doip s))) ∧
  (∀ (s : State) (doip : Bool) (did : Nat) (value : Nat),
    ((Instr.udsWriteDid doip did value).wf = true) → (acts s (Instr.udsWriteDid doip did value) = true) →
    exec (Instr.udsWriteDid doip did value) s = .next (settle s (udsWriteDidDo doip did value s))) ∧
  (∀ (s : State) (doip : Bool) (did : Nat),
    ((Instr.udsReadDid doip did).wf = true) → (acts s (Instr.udsReadDid doip did) = true) →
    exec (Instr.udsReadDid doip did) s = .next (settle s (udsReadDidDo doip did s))) ∧
  (∀ (s : State) (doip : Bool) (sub : Nat),
    ((Instr.udsEcuReset doip sub).wf = true) → (acts s (Instr.udsEcuReset doip sub) = true) →
    exec (Instr.udsEcuReset doip sub) s = .next (settle s (udsEcuResetDo doip sub s))) ∧
  (∀ (s : State) (doip : Bool) (sub : Nat),
    ((Instr.udsSessionControl doip sub).wf = true) → (acts s (Instr.udsSessionControl doip sub) = true) →
    exec (Instr.udsSessionControl doip sub) s = .next (settle s (udsSessionControlDo doip sub s))) ∧
  (∀ (s : State) (tester : Nat),
    ((Instr.doipRoutingActivation tester).wf = true) → (acts s (Instr.doipRoutingActivation tester) = true) →
    exec (Instr.doipRoutingActivation tester) s = .next (settle s (doipRoutingActivationDo tester s))) ∧
  (∀ (s : State),
    (acts s Instr.actTimeReached = true) → (¬ (!actChecked s || !tickEdge s || (decide (edgeGlobal s < actTimeNs s) &&
        !s.upd.crossed) || takeCode (takeNo (1 - activeTake s) s) != 3)) →
    exec Instr.actTimeReached s = .next (settle s (actTimeReachedDo s))) ∧
  (∀ (s : State),
    (acts s Instr.actPrepare = true) → (actChecked s && decide (actTimeNs s ≤ s.globalNs + 2000000000)) →
    exec Instr.actPrepare s = .next (settle s (prepare s))) ∧
  (∀ (s : State),
    (acts s Instr.autoConfirm = true) → (inTrial s && !trialOver s && rdf s R.UPD_POLICY 7 0 == 1 && decide (rd s
        R.UPD_AUTO_S ≤ rd s R.UPD_TRIAL) && s.upd.bootGood && !s.upd.trialSafe && !(safeAsserts s && !inSafe s)) →
    exec Instr.autoConfirm s = .next (settle s (confirmTake s))) ∧
  (∀ (s : State),
    (acts s Instr.trialDeadline = true) → (inTrial s && trialOver s) →
    exec Instr.trialDeadline s = .next (settle s (resetDue (revert s)))) ∧
  (∀ (s : State),
    (acts s Instr.trialClockSave = true) → (inTrial s ∧ s.upd.clockSaved + 600 ≤ rd s R.UPD_TRIAL) →
    exec Instr.trialClockSave s = .next (settle s (trialSave s))) ∧
  (∀ (s : State),
    (acts s Instr.bootGood = true) → (startDone s && rdf s R.UPD_SHEET_STATUS 19 18 == 0 && decide (s.devNs ≤ s.survey.t0Ns
        + 60000000000)) →
    exec Instr.bootGood s = .next (settle s (bootGoodDo s))) ∧
  (∀ (s : State),
    (acts s Instr.moduleReset = true) → (s.upd.restart.any (fun t => decide (t ≤ s.devNs)) && !s.gaf.inReset) →
    exec Instr.moduleReset s = .next (settle s (startFrom .moduleReset 2 (rdf s R.GAF_START 6 4) none s))) ∧
  (∀ (s : State),
    (acts s Instr.sessionTimeout = true) →
    exec Instr.sessionTimeout s = .next (settle s (sessionTimeoutDo s))) ∧
  (∀ (s : State) src,
    (acts s Instr.takeVerifyDone = true) → (s.upd.verifying = some src) → (¬ (src = 0 ∧ startDone s = false)) →
    exec Instr.takeVerifyDone s = .next (settle s (takeVerifyDoneDo src s))) ∧
  (∀ (s : State) (programOk : Bool) (lost : Nat),
    ((Instr.chunkCommitted programOk lost).wf = true) → (acts s (Instr.chunkCommitted programOk lost) = true) →
    exec (Instr.chunkCommitted programOk lost) s = .next (settle s (chunkCommittedDo programOk lost s)))

/-- Power ladder and wake commands (R30 to R41, R353 to R369):
under each command's conditions, exec answers exactly the next state of its effect, settled. -/
def Obligations.PowerLadderCommandsComplete : Prop :=
  (∀ (s : State) (mv : Nat),
    ((Instr.lowBattCheck mv).wf = true) → (¬ (s.gaf.inReset || !(rung s == 3 || rung s == 4) || moving s || rdf s R.GAF_BATT
        31 16 == 0 || wakePends s)) →
    exec (Instr.lowBattCheck mv) s = .next (settle s (lowBattCheckDo mv s))) ∧
  (∀ (s : State),
    (¬ (s.gaf.inReset || !s.gaf.alarmNs.any (fun t => decide (t ≤ s.devNs)))) →
    exec Instr.alarmFire s = .next (settle s (alarmFireDo s))) ∧
  (∀ (s : State),
    (acts s Instr.hostWakeTimeout = true) →
    exec Instr.hostWakeTimeout s = .next (settle s (hostWakeEnd s))) ∧
  (∀ (s : State) (low : Bool),
    ((Instr.wakeReqNFall low).wf = true) → (¬ (s.gaf.inReset || !wakeSeen s .wakeReq)) →
    exec (Instr.wakeReqNFall low) s = .next (settle s (wakeReqNFallDo low s))) ∧
  (∀ (s : State) (k : Nat) (mv : Nat),
    ((Instr.swWakePoll k mv).wf = true) → (¬ (s.gaf.inReset || decide (rung s < 3) || !swUsed s k || rdf s (R.GAF_SW_CFG k)
        31 30 == 0)) →
    exec (Instr.swWakePoll k mv) s = .next (settle s (swWakePollDo k mv s))) ∧
  (∀ (s : State) (src : WakeSource),
    ((Instr.wakeDetected src).wf = true) → (¬ (s.gaf.inReset || !wakeSeen s src)) →
    exec (Instr.wakeDetected src) s = .next (settle s (wakeTake src s))) ∧
  (∀ (s : State) (resumeDigestOk : Bool) (kt : List (Nat × Ecc)),
    ((Instr.resumeComplete resumeDigestOk kt).wf = true) → (¬ (!s.gaf.resuming)) →
    exec (Instr.resumeComplete resumeDigestOk kt) s = .next (settle s (resumeCompleteDo resumeDigestOk kt s))) ∧
  (∀ (s : State),
    (acts s Instr.holdExitBeforeSchedule = true) → (dueSoon s) →
    exec Instr.holdExitBeforeSchedule s = .next (settle s (holdExit s))) ∧
  (∀ (s : State),
    (acts s Instr.holdEnter = true) → (¬ (s.gaf.inReset || s.gaf.resuming || moving s || decide (rung s ≠ 0) || decide
        (evaluated s = 0) || !holdReady s)) →
    exec Instr.holdEnter s = .next (settle s (holdEnterDo s))) ∧
  (∀ (s : State) (slow : Bool),
    ((Instr.rungReached slow).wf = true) → (¬ (!moving s)) →
    exec (Instr.rungReached slow) s = .next (settle s (rungReachedDo s))) ∧
  (∀ (s : State),
    (¬ (s.gaf.inReset || s.gaf.resuming || moving s || !dwellDone s || segLeaves s)) →
    exec Instr.dwellExpire s = .next (settle s (moveStart (nextRung s) s))) ∧
  (∀ (s : State) (wakeReqN : Option Bool),
    ((Instr.rungEvaluate wakeReqN).wf = true) → (¬ s.gaf.inReset) →
    exec (Instr.rungEvaluate wakeReqN) s = .next (settle s (rungEvaluateDo wakeReqN s))) ∧
  (∀ (s : State) (unit : Nat) (regulated : Bool) (waited : Bool) (microOk : Bool) (rail : MainRail),
    ((Instr.unitPowerStep unit regulated waited microOk rail).wf = true) → (acts s (Instr.unitPowerStep unit regulated
        waited microOk rail) = true) → (¬ (s.gaf.inReset || rdb s R.GAF_UNITS (16 + unit) || !unitTurn s unit)) →
    exec (Instr.unitPowerStep unit regulated waited microOk rail) s = .next (settle s (unitPowerStepDo unit regulated waited
        microOk rail s))) ∧
  (∀ (s : State) (tstDriven : Bool) (entropyFails : Nat),
    ((Instr.reservoirCharged tstDriven entropyFails).wf = true) → (acts s (Instr.reservoirCharged tstDriven entropyFails) =
        true) → (¬ (s.gaf.inReset || rdb s R.VLT_STATUS 25)) →
    exec (Instr.reservoirCharged tstDriven entropyFails) s = .next (settle s (reservoirChargedDo tstDriven entropyFails s))) ∧
  (∀ (s : State) (regulated : Bool),
    ((Instr.coreRailRetry regulated).wf = true) → (¬ (!s.gaf.inReset || !railHeld s || decide (s.devNs < s.gaf.moveNs +
        1000000000))) →
    exec (Instr.coreRailRetry regulated) s = .next (settle s (coreRailRetryDo regulated s))) ∧
  (∀ (s : State) (mv : Nat) (heldMs : Nat),
    ((Instr.powerRestart mv heldMs).wf = true) → (s.gaf.inReset && !railHeld s && decide (6500 < mv ∧ 10 ≤ heldMs)) →
    exec (Instr.powerRestart mv heldMs) s = .next (settle s (startFrom .powerLoss (if s.gaf.keepLost then 0 else 1) (rdf s
        R.GAF_START 6 4) none s))) ∧
  (∀ (s : State) (mv : Nat) (lowMs : Nat),
    ((Instr.powerFail mv lowMs).wf = true) → (mv < 4500 ∨ (mv < 6000 ∧ 100 < lowMs)) →
    exec (Instr.powerFail mv lowMs) s = .next (settle s (powerFailDo mv lowMs s))) ∧
  (∀ (s : State) (mv : Nat) (tstDriven : Bool) (meshBroken : Bool) (reservoirLow : Bool) (entropyFails : Nat) (kt : List
      (Nat × Ecc)),
    ((Instr.powerOn mv tstDriven meshBroken reservoirLow entropyFails kt).wf = true) → (s.gaf.inReset && !railHeld s &&
        decide (6500 ≤ mv)) →
    exec (Instr.powerOn mv tstDriven meshBroken reservoirLow entropyFails kt) s = .next (settle s (powerOnDo tstDriven
        meshBroken reservoirLow entropyFails kt s)))
end

