-- ==== Sys2Proof/Laws/Bits.lean ====
section
/-! SUPPORT. Bit fields of numbers: a field reads as it was put, a disjoint field is unchanged. -/

namespace Sys2Proof.Machine

theorem fld_lt (n hi lo : Nat) : fld n hi lo < 2 ^ (hi - lo + 1) := Nat.mod_lt _ (Nat.two_pow_pos _)

theorem testBit_fld (n hi lo i : Nat) :
    (fld n hi lo).testBit i = (decide (i < hi - lo + 1) && n.testBit (lo + i)) := by
  simp [fld, Nat.testBit_mod_two_pow, Nat.testBit_shiftRight]

/-- What the replaced field contributes is part of the number. -/
theorem fld_mul_le (n hi lo : Nat) : fld n hi lo * 2 ^ lo ≤ n := by
  have h1 : fld n hi lo ≤ n / 2 ^ lo := by
    simp only [fld, Nat.shiftRight_eq_div_pow]; exact Nat.mod_le _ _
  exact Nat.le_trans (Nat.mul_le_mul_right _ h1) (Nat.div_mul_le_self _ _)

/-- A number is its part above hi, its field, and its part below lo. -/
theorem parts (n hi lo : Nat) :
    n = n / 2 ^ lo / 2 ^ (hi - lo + 1) * 2 ^ (hi - lo + 1) * 2 ^ lo + fld n hi lo * 2 ^ lo + n % 2 ^ lo := by
  have h1 : n = n / 2 ^ lo * 2 ^ lo + n % 2 ^ lo := (Nat.div_add_mod' n (2 ^ lo)).symm
  have h2 : n / 2 ^ lo = n / 2 ^ lo / 2 ^ (hi - lo + 1) * 2 ^ (hi - lo + 1) + fld n hi lo := by
    simp only [fld, Nat.shiftRight_eq_div_pow]; exact (Nat.div_add_mod' _ _).symm
  conv => lhs; rw [h1, h2]
  rw [Nat.add_mul]

/-- `putFld` in the same three parts. -/
theorem putFld_parts (n hi lo v : Nat) :
    putFld n hi lo v =
      n / 2 ^ lo / 2 ^ (hi - lo + 1) * 2 ^ (hi - lo + 1) * 2 ^ lo + v % 2 ^ (hi - lo + 1) * 2 ^ lo + n % 2 ^ lo := by
  have h := parts n hi lo
  unfold putFld
  omega

/-- The same parts, as a number above the field. -/
theorem putFld_eq (n hi lo v : Nat) :
    putFld n hi lo v =
      2 ^ lo * (2 ^ (hi - lo + 1) * (n / 2 ^ lo / 2 ^ (hi - lo + 1)) + v % 2 ^ (hi - lo + 1)) + n % 2 ^ lo := by
  rw [putFld_parts, Nat.mul_add]
  simp [Nat.mul_comm]

/-- Bit i after a field was put. -/
theorem testBit_putFld (n hi lo v i : Nat) :
    (putFld n hi lo v).testBit i =
      if i < lo then n.testBit i else if i < lo + (hi - lo + 1) then v.testBit (i - lo) else n.testBit i := by
  rw [putFld_eq, Nat.testBit_two_pow_mul_add _ (Nat.mod_lt _ (Nat.two_pow_pos _))]
  by_cases h1 : i < lo
  · simp [h1, Nat.testBit_mod_two_pow]
  · rw [if_neg h1, if_neg h1, Nat.testBit_two_pow_mul_add _ (Nat.mod_lt _ (Nat.two_pow_pos _))]
    by_cases h2 : i - lo < hi - lo + 1
    · have h3 : i < lo + (hi - lo + 1) := by omega
      simp [h2, h3, Nat.testBit_mod_two_pow]
    · have h3 : ¬ i < lo + (hi - lo + 1) := by omega
      simp only [if_neg h2, if_neg h3, ← Nat.shiftRight_eq_div_pow, Nat.testBit_shiftRight]
      congr 1; omega

/-- A field reads back as it was put. -/
@[simp] theorem fld_putFld_same (n hi lo v : Nat) : fld (putFld n hi lo v) hi lo = v % 2 ^ (hi - lo + 1) := by
  apply Nat.eq_of_testBit_eq
  intro i
  rw [testBit_fld, testBit_putFld, Nat.testBit_mod_two_pow]
  by_cases h : i < hi - lo + 1
  · have h1 : ¬ lo + i < lo := by omega
    simp [h]
  · simp [h]

/-- A field that does not meet the one put is unchanged. -/
theorem fld_putFld_disjoint (n hi lo v hi' lo' : Nat) (hv : lo ≤ hi) (h : hi' < lo ∨ hi < lo') (hl : lo' ≤ hi') :
    fld (putFld n hi lo v) hi' lo' = fld n hi' lo' := by
  apply Nat.eq_of_testBit_eq
  intro i
  rw [testBit_fld, testBit_fld, testBit_putFld]
  by_cases hi1 : i < hi' - lo' + 1
  · rcases h with h | h
    · have : lo' + i < lo := by omega
      simp [this]
    · have h1 : ¬ lo' + i < lo := by omega
      have h2 : ¬ lo' + i < lo + (hi - lo + 1) := by omega
      simp [h1, h2]
  · simp [hi1]

/-- A bit outside the field put is unchanged. -/
theorem testBit_putFld_outside (n hi lo v i : Nat) (hv : lo ≤ hi) (h : i < lo ∨ hi < i) :
    (putFld n hi lo v).testBit i = n.testBit i := by
  rw [testBit_putFld]
  rcases h with h | h
  · simp [h]
  · have h1 : ¬ i < lo := by omega
    have h2 : ¬ i < lo + (hi - lo + 1) := by omega
    simp [h1, h2]

/-- A field put into a 32-bit word leaves a 32-bit word. -/
theorem putFld_lt (n hi lo v : Nat) (hn : n < 2 ^ 32) (hh : hi < 32) (hl : lo ≤ hi) : putFld n hi lo v < 2 ^ 32 := by
  apply Nat.lt_pow_two_of_testBit
  intro i hi32
  rw [testBit_putFld_outside n hi lo v i hl (Or.inr (by omega))]
  exact Nat.testBit_lt_two_pow (Nat.lt_of_lt_of_le hn (Nat.pow_le_pow_right (by decide) hi32))

end Sys2Proof.Machine
end

