-- ==== Sys2Proof/Laws/Maps.lean ====
section
/-! SUPPORT. Sorted stores: what a read finds after a put, a removal or a set, and that each keeps the keys in order. -/

namespace Sys2Proof.Machine

variable {α : Type}

@[simp] theorem SMap.get?_nil (k : Nat) : SMap.get? ([] : SMap α) k = none := rfl

theorem SMap.get?_cons (k' : Nat) (v : α) (t : SMap α) (k : Nat) :
    SMap.get? ((k', v) :: t) k = if k = k' then some v else SMap.get? t k := rfl

@[simp] theorem SMap.get?_put_same (m : SMap α) (k : Nat) (v : α) : (m.put k v).get? k = some v := by
  induction m with
  | nil => simp [SMap.put, SMap.get?_cons]
  | cons x t ih =>
    obtain ⟨k', v'⟩ := x
    by_cases h1 : k < k'
    · simp [SMap.put, h1, SMap.get?_cons]
    · by_cases h2 : k = k'
      · simp [SMap.put, h2, SMap.get?_cons]
      · simp [SMap.put, h1, h2, SMap.get?_cons, ih]

@[simp] theorem SMap.get?_put_other (m : SMap α) (k : Nat) (v : α) (j : Nat) (h : j ≠ k) :
    (m.put k v).get? j = m.get? j := by
  induction m with
  | nil => simp [SMap.put, SMap.get?_cons, h]
  | cons x t ih =>
    obtain ⟨k', v'⟩ := x
    by_cases h1 : k < k'
    · simp [SMap.put, h1, SMap.get?_cons, h]
    · by_cases h2 : k = k'
      · subst h2; simp [SMap.put, SMap.get?_cons, h]
      · simp [SMap.put, h1, h2, SMap.get?_cons, ih]

@[simp] theorem SMap.get?_del_same (m : SMap α) (k : Nat) : (m.del k).get? k = none := by
  induction m with
  | nil => rfl
  | cons x t ih =>
    obtain ⟨k', v'⟩ := x
    by_cases h : k = k'
    · subst h; simpa [SMap.del] using ih
    · simp [SMap.del, h, SMap.get?_cons, ih]

@[simp] theorem SMap.get?_del_other (m : SMap α) (k j : Nat) (h : j ≠ k) : (m.del k).get? j = m.get? j := by
  induction m with
  | nil => rfl
  | cons x t ih =>
    obtain ⟨k', v'⟩ := x
    by_cases h1 : k = k'
    · subst h1; simp [SMap.del, SMap.get?_cons, h, ih]
    · simp [SMap.del, h1, SMap.get?_cons, ih]

theorem SMap.get?_set_same [DecidableEq α] (m : SMap α) (k : Nat) (v d : α) :
    (m.set k v d).get? k = if v = d then none else some v := by
  by_cases h : v = d <;> simp [SMap.set, h]

theorem SMap.get?_set_other [DecidableEq α] (m : SMap α) (k j : Nat) (v d : α) (h : j ≠ k) :
    (m.set k v d).get? j = m.get? j := by
  by_cases hv : v = d <;> simp [SMap.set, hv, h]

/-- Every key of a store is above `k`. -/
def SMap.above (k : Nat) : SMap α → Bool
  | [] => true
  | x :: t => decide (k < x.1) && SMap.above k t

theorem SMap.sorted_cons (x : Nat × α) (t : SMap α) :
    SMap.sorted (x :: t) = true ↔ SMap.above x.1 t = true ∧ SMap.sorted t = true := by
  induction t generalizing x with
  | nil => simp [SMap.sorted, SMap.above]
  | cons y t ih =>
    have hy := ih y
    constructor
    · intro h
      simp only [SMap.sorted, Bool.and_eq_true, decide_eq_true_eq] at h
      have h2 := hy.mp h.2
      refine ⟨?_, h.2⟩
      simp only [SMap.above, Bool.and_eq_true, decide_eq_true_eq]
      refine ⟨h.1, ?_⟩
      have mono : ∀ (l : SMap α) (a b : Nat), a < b → SMap.above b l = true → SMap.above a l = true := by
        intro l a b hab
        induction l with
        | nil => intro _; rfl
        | cons z l ihl =>
          intro hz
          simp only [SMap.above, Bool.and_eq_true, decide_eq_true_eq] at hz ⊢
          exact ⟨by omega, ihl hz.2⟩
      exact mono t x.1 y.1 h.1 h2.1
    · rintro ⟨h1, h2⟩
      simp only [SMap.above, Bool.and_eq_true, decide_eq_true_eq] at h1
      simp only [SMap.sorted, Bool.and_eq_true, decide_eq_true_eq]
      exact ⟨h1.1, h2⟩

theorem SMap.above_put (m : SMap α) (a k : Nat) (v : α) (h : a < k) (hm : m.above a = true) :
    (m.put k v).above a = true := by
  induction m with
  | nil => simp [SMap.put, SMap.above, h]
  | cons x t ih =>
    obtain ⟨k', v'⟩ := x
    simp only [SMap.above, Bool.and_eq_true, decide_eq_true_eq] at hm
    by_cases h1 : k < k'
    · simp [SMap.put, h1, SMap.above, h, hm.1, hm.2]
    · by_cases h2 : k = k'
      · subst h2; simp [SMap.put, SMap.above, hm.1, hm.2]
      · simp [SMap.put, h1, h2, SMap.above, hm.1, ih hm.2]

theorem SMap.above_del (m : SMap α) (a k : Nat) (hm : m.above a = true) : (m.del k).above a = true := by
  induction m with
  | nil => rfl
  | cons x t ih =>
    obtain ⟨k', v'⟩ := x
    simp only [SMap.above, Bool.and_eq_true, decide_eq_true_eq] at hm
    by_cases h : k = k'
    · simp [SMap.del, h]; exact h ▸ ih hm.2
    · simp [SMap.del, h, SMap.above, hm.1, ih hm.2]

/-- A put keeps the canonical order. -/
theorem SMap.sorted_put (m : SMap α) (k : Nat) (v : α) (h : m.sorted = true) : (m.put k v).sorted = true := by
  induction m with
  | nil => rfl
  | cons x t ih =>
    obtain ⟨k', v'⟩ := x
    have ⟨ha, ht⟩ := (SMap.sorted_cons _ _).mp h
    by_cases h1 : k < k'
    · simp [SMap.put, h1, SMap.sorted]; exact h
    · by_cases h2 : k = k'
      · subst h2
        simp only [SMap.put, Nat.lt_irrefl, if_false, if_true]
        exact (SMap.sorted_cons _ _).mpr ⟨ha, ht⟩
      · simp only [SMap.put, h1, h2, if_false]
        exact (SMap.sorted_cons _ _).mpr ⟨SMap.above_put t k' k v (by omega) ha, ih ht⟩

/-- A removal keeps the canonical order. -/
theorem SMap.sorted_del (m : SMap α) (k : Nat) (h : m.sorted = true) : (m.del k).sorted = true := by
  induction m with
  | nil => rfl
  | cons x t ih =>
    obtain ⟨k', v'⟩ := x
    have ⟨ha, ht⟩ := (SMap.sorted_cons _ _).mp h
    by_cases h1 : k = k'
    · simp [SMap.del, h1]; exact h1 ▸ ih ht
    · simp only [SMap.del, h1, if_false]
      exact (SMap.sorted_cons _ _).mpr ⟨SMap.above_del t k' k ha, ih ht⟩

/-- A set keeps the canonical order. -/
theorem SMap.sorted_set [DecidableEq α] (m : SMap α) (k : Nat) (v d : α) (h : m.sorted = true) :
    (m.set k v d).sorted = true := by
  by_cases hv : v = d <;> simp [SMap.set, hv, SMap.sorted_put, SMap.sorted_del, h]

end Sys2Proof.Machine
end

