-- ==== Sys2Proof/Laws/State.lean ====
section
/-! SUPPORT. What each named update leaves alone: one lemma per field and update. Each holds by unfolding the
update once, on a state taken apart: a rewriting lemma, not a definitional one, so that the kernel never compares register
files to see that another field is unchanged. -/

namespace Sys2Proof.Machine

-- wr
@[simp] theorem wr_pending (s : State) (a v : Nat) : (wr s a v).pending = s.pending := by cases s; rfl
@[simp] theorem wr_devNs (s : State) (a v : Nat) : (wr s a v).devNs = s.devNs := by cases s; rfl
@[simp] theorem wr_globalNs (s : State) (a v : Nat) : (wr s a v).globalNs = s.globalNs := by cases s; rfl
@[simp] theorem wr_drawn (s : State) (a v : Nat) : (wr s a v).drawn = s.drawn := by cases s; rfl
@[simp] theorem wr_readData (s : State) (a v : Nat) : (wr s a v).readData = s.readData := by cases s; rfl
@[simp] theorem wr_out (s : State) (a v : Nat) : (wr s a v).out = s.out := by cases s; rfl
@[simp] theorem wr_router (s : State) (a v : Nat) : (wr s a v).router = s.router := by cases s; rfl
@[simp] theorem wr_host (s : State) (a v : Nat) : (wr s a v).host = s.host := by cases s; rfl
@[simp] theorem wr_lku (s : State) (a v : Nat) : (wr s a v).lku = s.lku := by cases s; rfl
@[simp] theorem wr_ing (s : State) (a v : Nat) : (wr s a v).ing = s.ing := by cases s; rfl
@[simp] theorem wr_pool (s : State) (a v : Nat) : (wr s a v).pool = s.pool := by cases s; rfl
@[simp] theorem wr_sched (s : State) (a v : Nat) : (wr s a v).sched = s.sched := by cases s; rfl
@[simp] theorem wr_col (s : State) (a v : Nat) : (wr s a v).col = s.col := by cases s; rfl
@[simp] theorem wr_sge (s : State) (a v : Nat) : (wr s a v).sge = s.sge := by cases s; rfl
@[simp] theorem wr_tim (s : State) (a v : Nat) : (wr s a v).tim = s.tim := by cases s; rfl
@[simp] theorem wr_vault (s : State) (a v : Nat) : (wr s a v).vault = s.vault := by cases s; rfl
@[simp] theorem wr_cip (s : State) (a v : Nat) : (wr s a v).cip = s.cip := by cases s; rfl
@[simp] theorem wr_recd (s : State) (a v : Nat) : (wr s a v).recd = s.recd := by cases s; rfl
@[simp] theorem wr_rxu (s : State) (a v : Nat) : (wr s a v).rxu = s.rxu := by cases s; rfl
@[simp] theorem wr_ports (s : State) (a v : Nat) : (wr s a v).ports = s.ports := by cases s; rfl
@[simp] theorem wr_survey (s : State) (a v : Nat) : (wr s a v).survey = s.survey := by cases s; rfl
@[simp] theorem wr_nm (s : State) (a v : Nat) : (wr s a v).nm = s.nm := by cases s; rfl
@[simp] theorem wr_gaf (s : State) (a v : Nat) : (wr s a v).gaf = s.gaf := by cases s; rfl
@[simp] theorem wr_upd (s : State) (a v : Nat) : (wr s a v).upd = s.upd := by cases s; rfl

-- wrf
@[simp] theorem wrf_pending (s : State) (a hi lo v : Nat) : (wrf s a hi lo v).pending = s.pending := by cases s; rfl
@[simp] theorem wrf_devNs (s : State) (a hi lo v : Nat) : (wrf s a hi lo v).devNs = s.devNs := by cases s; rfl
@[simp] theorem wrf_globalNs (s : State) (a hi lo v : Nat) : (wrf s a hi lo v).globalNs = s.globalNs := by cases s; rfl
@[simp] theorem wrf_drawn (s : State) (a hi lo v : Nat) : (wrf s a hi lo v).drawn = s.drawn := by cases s; rfl
@[simp] theorem wrf_readData (s : State) (a hi lo v : Nat) : (wrf s a hi lo v).readData = s.readData := by cases s; rfl
@[simp] theorem wrf_out (s : State) (a hi lo v : Nat) : (wrf s a hi lo v).out = s.out := by cases s; rfl
@[simp] theorem wrf_router (s : State) (a hi lo v : Nat) : (wrf s a hi lo v).router = s.router := by cases s; rfl
@[simp] theorem wrf_host (s : State) (a hi lo v : Nat) : (wrf s a hi lo v).host = s.host := by cases s; rfl
@[simp] theorem wrf_lku (s : State) (a hi lo v : Nat) : (wrf s a hi lo v).lku = s.lku := by cases s; rfl
@[simp] theorem wrf_ing (s : State) (a hi lo v : Nat) : (wrf s a hi lo v).ing = s.ing := by cases s; rfl
@[simp] theorem wrf_pool (s : State) (a hi lo v : Nat) : (wrf s a hi lo v).pool = s.pool := by cases s; rfl
@[simp] theorem wrf_sched (s : State) (a hi lo v : Nat) : (wrf s a hi lo v).sched = s.sched := by cases s; rfl
@[simp] theorem wrf_col (s : State) (a hi lo v : Nat) : (wrf s a hi lo v).col = s.col := by cases s; rfl
@[simp] theorem wrf_sge (s : State) (a hi lo v : Nat) : (wrf s a hi lo v).sge = s.sge := by cases s; rfl
@[simp] theorem wrf_tim (s : State) (a hi lo v : Nat) : (wrf s a hi lo v).tim = s.tim := by cases s; rfl
@[simp] theorem wrf_vault (s : State) (a hi lo v : Nat) : (wrf s a hi lo v).vault = s.vault := by cases s; rfl
@[simp] theorem wrf_cip (s : State) (a hi lo v : Nat) : (wrf s a hi lo v).cip = s.cip := by cases s; rfl
@[simp] theorem wrf_recd (s : State) (a hi lo v : Nat) : (wrf s a hi lo v).recd = s.recd := by cases s; rfl
@[simp] theorem wrf_rxu (s : State) (a hi lo v : Nat) : (wrf s a hi lo v).rxu = s.rxu := by cases s; rfl
@[simp] theorem wrf_ports (s : State) (a hi lo v : Nat) : (wrf s a hi lo v).ports = s.ports := by cases s; rfl
@[simp] theorem wrf_survey (s : State) (a hi lo v : Nat) : (wrf s a hi lo v).survey = s.survey := by cases s; rfl
@[simp] theorem wrf_nm (s : State) (a hi lo v : Nat) : (wrf s a hi lo v).nm = s.nm := by cases s; rfl
@[simp] theorem wrf_gaf (s : State) (a hi lo v : Nat) : (wrf s a hi lo v).gaf = s.gaf := by cases s; rfl
@[simp] theorem wrf_upd (s : State) (a hi lo v : Nat) : (wrf s a hi lo v).upd = s.upd := by cases s; rfl

-- wrq
@[simp] theorem wrq_pending (s : State) (a v : Nat) : (wrq s a v).pending = s.pending := by cases s; rfl
@[simp] theorem wrq_devNs (s : State) (a v : Nat) : (wrq s a v).devNs = s.devNs := by cases s; rfl
@[simp] theorem wrq_globalNs (s : State) (a v : Nat) : (wrq s a v).globalNs = s.globalNs := by cases s; rfl
@[simp] theorem wrq_drawn (s : State) (a v : Nat) : (wrq s a v).drawn = s.drawn := by cases s; rfl
@[simp] theorem wrq_readData (s : State) (a v : Nat) : (wrq s a v).readData = s.readData := by cases s; rfl
@[simp] theorem wrq_out (s : State) (a v : Nat) : (wrq s a v).out = s.out := by cases s; rfl
@[simp] theorem wrq_router (s : State) (a v : Nat) : (wrq s a v).router = s.router := by cases s; rfl
@[simp] theorem wrq_host (s : State) (a v : Nat) : (wrq s a v).host = s.host := by cases s; rfl
@[simp] theorem wrq_lku (s : State) (a v : Nat) : (wrq s a v).lku = s.lku := by cases s; rfl
@[simp] theorem wrq_ing (s : State) (a v : Nat) : (wrq s a v).ing = s.ing := by cases s; rfl
@[simp] theorem wrq_pool (s : State) (a v : Nat) : (wrq s a v).pool = s.pool := by cases s; rfl
@[simp] theorem wrq_sched (s : State) (a v : Nat) : (wrq s a v).sched = s.sched := by cases s; rfl
@[simp] theorem wrq_col (s : State) (a v : Nat) : (wrq s a v).col = s.col := by cases s; rfl
@[simp] theorem wrq_sge (s : State) (a v : Nat) : (wrq s a v).sge = s.sge := by cases s; rfl
@[simp] theorem wrq_tim (s : State) (a v : Nat) : (wrq s a v).tim = s.tim := by cases s; rfl
@[simp] theorem wrq_vault (s : State) (a v : Nat) : (wrq s a v).vault = s.vault := by cases s; rfl
@[simp] theorem wrq_cip (s : State) (a v : Nat) : (wrq s a v).cip = s.cip := by cases s; rfl
@[simp] theorem wrq_recd (s : State) (a v : Nat) : (wrq s a v).recd = s.recd := by cases s; rfl
@[simp] theorem wrq_rxu (s : State) (a v : Nat) : (wrq s a v).rxu = s.rxu := by cases s; rfl
@[simp] theorem wrq_ports (s : State) (a v : Nat) : (wrq s a v).ports = s.ports := by cases s; rfl
@[simp] theorem wrq_survey (s : State) (a v : Nat) : (wrq s a v).survey = s.survey := by cases s; rfl
@[simp] theorem wrq_nm (s : State) (a v : Nat) : (wrq s a v).nm = s.nm := by cases s; rfl
@[simp] theorem wrq_gaf (s : State) (a v : Nat) : (wrq s a v).gaf = s.gaf := by cases s; rfl
@[simp] theorem wrq_upd (s : State) (a v : Nat) : (wrq s a v).upd = s.upd := by cases s; rfl

-- addCnt
@[simp] theorem addCnt_pending (s : State) (a n : Nat) : (addCnt s a n).pending = s.pending := by cases s; rfl
@[simp] theorem addCnt_devNs (s : State) (a n : Nat) : (addCnt s a n).devNs = s.devNs := by cases s; rfl
@[simp] theorem addCnt_globalNs (s : State) (a n : Nat) : (addCnt s a n).globalNs = s.globalNs := by cases s; rfl
@[simp] theorem addCnt_drawn (s : State) (a n : Nat) : (addCnt s a n).drawn = s.drawn := by cases s; rfl
@[simp] theorem addCnt_readData (s : State) (a n : Nat) : (addCnt s a n).readData = s.readData := by cases s; rfl
@[simp] theorem addCnt_out (s : State) (a n : Nat) : (addCnt s a n).out = s.out := by cases s; rfl
@[simp] theorem addCnt_router (s : State) (a n : Nat) : (addCnt s a n).router = s.router := by cases s; rfl
@[simp] theorem addCnt_host (s : State) (a n : Nat) : (addCnt s a n).host = s.host := by cases s; rfl
@[simp] theorem addCnt_lku (s : State) (a n : Nat) : (addCnt s a n).lku = s.lku := by cases s; rfl
@[simp] theorem addCnt_ing (s : State) (a n : Nat) : (addCnt s a n).ing = s.ing := by cases s; rfl
@[simp] theorem addCnt_pool (s : State) (a n : Nat) : (addCnt s a n).pool = s.pool := by cases s; rfl
@[simp] theorem addCnt_sched (s : State) (a n : Nat) : (addCnt s a n).sched = s.sched := by cases s; rfl
@[simp] theorem addCnt_col (s : State) (a n : Nat) : (addCnt s a n).col = s.col := by cases s; rfl
@[simp] theorem addCnt_sge (s : State) (a n : Nat) : (addCnt s a n).sge = s.sge := by cases s; rfl
@[simp] theorem addCnt_tim (s : State) (a n : Nat) : (addCnt s a n).tim = s.tim := by cases s; rfl
@[simp] theorem addCnt_vault (s : State) (a n : Nat) : (addCnt s a n).vault = s.vault := by cases s; rfl
@[simp] theorem addCnt_cip (s : State) (a n : Nat) : (addCnt s a n).cip = s.cip := by cases s; rfl
@[simp] theorem addCnt_recd (s : State) (a n : Nat) : (addCnt s a n).recd = s.recd := by cases s; rfl
@[simp] theorem addCnt_rxu (s : State) (a n : Nat) : (addCnt s a n).rxu = s.rxu := by cases s; rfl
@[simp] theorem addCnt_ports (s : State) (a n : Nat) : (addCnt s a n).ports = s.ports := by cases s; rfl
@[simp] theorem addCnt_survey (s : State) (a n : Nat) : (addCnt s a n).survey = s.survey := by cases s; rfl
@[simp] theorem addCnt_nm (s : State) (a n : Nat) : (addCnt s a n).nm = s.nm := by cases s; rfl
@[simp] theorem addCnt_gaf (s : State) (a n : Nat) : (addCnt s a n).gaf = s.gaf := by cases s; rfl
@[simp] theorem addCnt_upd (s : State) (a n : Nat) : (addCnt s a n).upd = s.upd := by cases s; rfl

-- inc
@[simp] theorem inc_pending (s : State) (a : Nat) : (inc s a).pending = s.pending := by cases s; rfl
@[simp] theorem inc_devNs (s : State) (a : Nat) : (inc s a).devNs = s.devNs := by cases s; rfl
@[simp] theorem inc_globalNs (s : State) (a : Nat) : (inc s a).globalNs = s.globalNs := by cases s; rfl
@[simp] theorem inc_drawn (s : State) (a : Nat) : (inc s a).drawn = s.drawn := by cases s; rfl
@[simp] theorem inc_readData (s : State) (a : Nat) : (inc s a).readData = s.readData := by cases s; rfl
@[simp] theorem inc_out (s : State) (a : Nat) : (inc s a).out = s.out := by cases s; rfl
@[simp] theorem inc_router (s : State) (a : Nat) : (inc s a).router = s.router := by cases s; rfl
@[simp] theorem inc_host (s : State) (a : Nat) : (inc s a).host = s.host := by cases s; rfl
@[simp] theorem inc_lku (s : State) (a : Nat) : (inc s a).lku = s.lku := by cases s; rfl
@[simp] theorem inc_ing (s : State) (a : Nat) : (inc s a).ing = s.ing := by cases s; rfl
@[simp] theorem inc_pool (s : State) (a : Nat) : (inc s a).pool = s.pool := by cases s; rfl
@[simp] theorem inc_sched (s : State) (a : Nat) : (inc s a).sched = s.sched := by cases s; rfl
@[simp] theorem inc_col (s : State) (a : Nat) : (inc s a).col = s.col := by cases s; rfl
@[simp] theorem inc_sge (s : State) (a : Nat) : (inc s a).sge = s.sge := by cases s; rfl
@[simp] theorem inc_tim (s : State) (a : Nat) : (inc s a).tim = s.tim := by cases s; rfl
@[simp] theorem inc_vault (s : State) (a : Nat) : (inc s a).vault = s.vault := by cases s; rfl
@[simp] theorem inc_cip (s : State) (a : Nat) : (inc s a).cip = s.cip := by cases s; rfl
@[simp] theorem inc_recd (s : State) (a : Nat) : (inc s a).recd = s.recd := by cases s; rfl
@[simp] theorem inc_rxu (s : State) (a : Nat) : (inc s a).rxu = s.rxu := by cases s; rfl
@[simp] theorem inc_ports (s : State) (a : Nat) : (inc s a).ports = s.ports := by cases s; rfl
@[simp] theorem inc_survey (s : State) (a : Nat) : (inc s a).survey = s.survey := by cases s; rfl
@[simp] theorem inc_nm (s : State) (a : Nat) : (inc s a).nm = s.nm := by cases s; rfl
@[simp] theorem inc_gaf (s : State) (a : Nat) : (inc s a).gaf = s.gaf := by cases s; rfl
@[simp] theorem inc_upd (s : State) (a : Nat) : (inc s a).upd = s.upd := by cases s; rfl

-- emit
@[simp] theorem emit_regs (o : Out) (s : State) : (emit o s).regs = s.regs := by cases s; rfl
@[simp] theorem emit_pending (o : Out) (s : State) : (emit o s).pending = s.pending := by cases s; rfl
@[simp] theorem emit_devNs (o : Out) (s : State) : (emit o s).devNs = s.devNs := by cases s; rfl
@[simp] theorem emit_globalNs (o : Out) (s : State) : (emit o s).globalNs = s.globalNs := by cases s; rfl
@[simp] theorem emit_drawn (o : Out) (s : State) : (emit o s).drawn = s.drawn := by cases s; rfl
@[simp] theorem emit_readData (o : Out) (s : State) : (emit o s).readData = s.readData := by cases s; rfl
@[simp] theorem emit_router (o : Out) (s : State) : (emit o s).router = s.router := by cases s; rfl
@[simp] theorem emit_host (o : Out) (s : State) : (emit o s).host = s.host := by cases s; rfl
@[simp] theorem emit_lku (o : Out) (s : State) : (emit o s).lku = s.lku := by cases s; rfl
@[simp] theorem emit_ing (o : Out) (s : State) : (emit o s).ing = s.ing := by cases s; rfl
@[simp] theorem emit_pool (o : Out) (s : State) : (emit o s).pool = s.pool := by cases s; rfl
@[simp] theorem emit_sched (o : Out) (s : State) : (emit o s).sched = s.sched := by cases s; rfl
@[simp] theorem emit_col (o : Out) (s : State) : (emit o s).col = s.col := by cases s; rfl
@[simp] theorem emit_sge (o : Out) (s : State) : (emit o s).sge = s.sge := by cases s; rfl
@[simp] theorem emit_tim (o : Out) (s : State) : (emit o s).tim = s.tim := by cases s; rfl
@[simp] theorem emit_vault (o : Out) (s : State) : (emit o s).vault = s.vault := by cases s; rfl
@[simp] theorem emit_cip (o : Out) (s : State) : (emit o s).cip = s.cip := by cases s; rfl
@[simp] theorem emit_recd (o : Out) (s : State) : (emit o s).recd = s.recd := by cases s; rfl
@[simp] theorem emit_rxu (o : Out) (s : State) : (emit o s).rxu = s.rxu := by cases s; rfl
@[simp] theorem emit_ports (o : Out) (s : State) : (emit o s).ports = s.ports := by cases s; rfl
@[simp] theorem emit_survey (o : Out) (s : State) : (emit o s).survey = s.survey := by cases s; rfl
@[simp] theorem emit_nm (o : Out) (s : State) : (emit o s).nm = s.nm := by cases s; rfl
@[simp] theorem emit_gaf (o : Out) (s : State) : (emit o s).gaf = s.gaf := by cases s; rfl
@[simp] theorem emit_upd (o : Out) (s : State) : (emit o s).upd = s.upd := by cases s; rfl

-- answer
@[simp] theorem answer_regs (v : List Nat) (s : State) : (answer v s).regs = s.regs := by cases s; rfl
@[simp] theorem answer_pending (v : List Nat) (s : State) : (answer v s).pending = s.pending := by cases s; rfl
@[simp] theorem answer_devNs (v : List Nat) (s : State) : (answer v s).devNs = s.devNs := by cases s; rfl
@[simp] theorem answer_globalNs (v : List Nat) (s : State) : (answer v s).globalNs = s.globalNs := by cases s; rfl
@[simp] theorem answer_drawn (v : List Nat) (s : State) : (answer v s).drawn = s.drawn := by cases s; rfl
@[simp] theorem answer_out (v : List Nat) (s : State) : (answer v s).out = s.out := by cases s; rfl
@[simp] theorem answer_router (v : List Nat) (s : State) : (answer v s).router = s.router := by cases s; rfl
@[simp] theorem answer_host (v : List Nat) (s : State) : (answer v s).host = s.host := by cases s; rfl
@[simp] theorem answer_lku (v : List Nat) (s : State) : (answer v s).lku = s.lku := by cases s; rfl
@[simp] theorem answer_ing (v : List Nat) (s : State) : (answer v s).ing = s.ing := by cases s; rfl
@[simp] theorem answer_pool (v : List Nat) (s : State) : (answer v s).pool = s.pool := by cases s; rfl
@[simp] theorem answer_sched (v : List Nat) (s : State) : (answer v s).sched = s.sched := by cases s; rfl
@[simp] theorem answer_col (v : List Nat) (s : State) : (answer v s).col = s.col := by cases s; rfl
@[simp] theorem answer_sge (v : List Nat) (s : State) : (answer v s).sge = s.sge := by cases s; rfl
@[simp] theorem answer_tim (v : List Nat) (s : State) : (answer v s).tim = s.tim := by cases s; rfl
@[simp] theorem answer_vault (v : List Nat) (s : State) : (answer v s).vault = s.vault := by cases s; rfl
@[simp] theorem answer_cip (v : List Nat) (s : State) : (answer v s).cip = s.cip := by cases s; rfl
@[simp] theorem answer_recd (v : List Nat) (s : State) : (answer v s).recd = s.recd := by cases s; rfl
@[simp] theorem answer_rxu (v : List Nat) (s : State) : (answer v s).rxu = s.rxu := by cases s; rfl
@[simp] theorem answer_ports (v : List Nat) (s : State) : (answer v s).ports = s.ports := by cases s; rfl
@[simp] theorem answer_survey (v : List Nat) (s : State) : (answer v s).survey = s.survey := by cases s; rfl
@[simp] theorem answer_nm (v : List Nat) (s : State) : (answer v s).nm = s.nm := by cases s; rfl
@[simp] theorem answer_gaf (v : List Nat) (s : State) : (answer v s).gaf = s.gaf := by cases s; rfl
@[simp] theorem answer_upd (v : List Nat) (s : State) : (answer v s).upd = s.upd := by cases s; rfl

-- free
@[simp] theorem free_regs (s : State) : ((free s).2).regs = s.regs := by cases s; rfl
@[simp] theorem free_pending (s : State) : ((free s).2).pending = s.pending := by cases s; rfl
@[simp] theorem free_devNs (s : State) : ((free s).2).devNs = s.devNs := by cases s; rfl
@[simp] theorem free_globalNs (s : State) : ((free s).2).globalNs = s.globalNs := by cases s; rfl
@[simp] theorem free_readData (s : State) : ((free s).2).readData = s.readData := by cases s; rfl
@[simp] theorem free_out (s : State) : ((free s).2).out = s.out := by cases s; rfl
@[simp] theorem free_router (s : State) : ((free s).2).router = s.router := by cases s; rfl
@[simp] theorem free_host (s : State) : ((free s).2).host = s.host := by cases s; rfl
@[simp] theorem free_lku (s : State) : ((free s).2).lku = s.lku := by cases s; rfl
@[simp] theorem free_ing (s : State) : ((free s).2).ing = s.ing := by cases s; rfl
@[simp] theorem free_pool (s : State) : ((free s).2).pool = s.pool := by cases s; rfl
@[simp] theorem free_sched (s : State) : ((free s).2).sched = s.sched := by cases s; rfl
@[simp] theorem free_col (s : State) : ((free s).2).col = s.col := by cases s; rfl
@[simp] theorem free_sge (s : State) : ((free s).2).sge = s.sge := by cases s; rfl
@[simp] theorem free_tim (s : State) : ((free s).2).tim = s.tim := by cases s; rfl
@[simp] theorem free_vault (s : State) : ((free s).2).vault = s.vault := by cases s; rfl
@[simp] theorem free_cip (s : State) : ((free s).2).cip = s.cip := by cases s; rfl
@[simp] theorem free_recd (s : State) : ((free s).2).recd = s.recd := by cases s; rfl
@[simp] theorem free_rxu (s : State) : ((free s).2).rxu = s.rxu := by cases s; rfl
@[simp] theorem free_ports (s : State) : ((free s).2).ports = s.ports := by cases s; rfl
@[simp] theorem free_survey (s : State) : ((free s).2).survey = s.survey := by cases s; rfl
@[simp] theorem free_nm (s : State) : ((free s).2).nm = s.nm := by cases s; rfl
@[simp] theorem free_gaf (s : State) : ((free s).2).gaf = s.gaf := by cases s; rfl
@[simp] theorem free_upd (s : State) : ((free s).2).upd = s.upd := by cases s; rfl

-- hpShow
@[simp] theorem hpShow_pending (s : State) : (hpShow s).pending = s.pending := by simp [hpShow]
@[simp] theorem hpShow_devNs (s : State) : (hpShow s).devNs = s.devNs := by simp [hpShow]
@[simp] theorem hpShow_globalNs (s : State) : (hpShow s).globalNs = s.globalNs := by simp [hpShow]
@[simp] theorem hpShow_drawn (s : State) : (hpShow s).drawn = s.drawn := by simp [hpShow]
@[simp] theorem hpShow_readData (s : State) : (hpShow s).readData = s.readData := by simp [hpShow]
@[simp] theorem hpShow_out (s : State) : (hpShow s).out = s.out := by simp [hpShow]
@[simp] theorem hpShow_router (s : State) : (hpShow s).router = s.router := by simp [hpShow]
@[simp] theorem hpShow_host (s : State) : (hpShow s).host = s.host := by simp [hpShow]
@[simp] theorem hpShow_lku (s : State) : (hpShow s).lku = s.lku := by simp [hpShow]
@[simp] theorem hpShow_ing (s : State) : (hpShow s).ing = s.ing := by simp [hpShow]
@[simp] theorem hpShow_pool (s : State) : (hpShow s).pool = s.pool := by simp [hpShow]
@[simp] theorem hpShow_sched (s : State) : (hpShow s).sched = s.sched := by simp [hpShow]
@[simp] theorem hpShow_col (s : State) : (hpShow s).col = s.col := by simp [hpShow]
@[simp] theorem hpShow_sge (s : State) : (hpShow s).sge = s.sge := by simp [hpShow]
@[simp] theorem hpShow_tim (s : State) : (hpShow s).tim = s.tim := by simp [hpShow]
@[simp] theorem hpShow_vault (s : State) : (hpShow s).vault = s.vault := by simp [hpShow]
@[simp] theorem hpShow_cip (s : State) : (hpShow s).cip = s.cip := by simp [hpShow]
@[simp] theorem hpShow_recd (s : State) : (hpShow s).recd = s.recd := by simp [hpShow]
@[simp] theorem hpShow_rxu (s : State) : (hpShow s).rxu = s.rxu := by simp [hpShow]
@[simp] theorem hpShow_ports (s : State) : (hpShow s).ports = s.ports := by simp [hpShow]
@[simp] theorem hpShow_survey (s : State) : (hpShow s).survey = s.survey := by simp [hpShow]
@[simp] theorem hpShow_nm (s : State) : (hpShow s).nm = s.nm := by simp [hpShow]
@[simp] theorem hpShow_gaf (s : State) : (hpShow s).gaf = s.gaf := by simp [hpShow]
@[simp] theorem hpShow_upd (s : State) : (hpShow s).upd = s.upd := by simp [hpShow]

-- settle
@[simp] theorem settle_pending (s t : State) : (settle s t).pending = s.pending := by simp [settle]
@[simp] theorem settle_devNs (s t : State) : (settle s t).devNs = t.devNs := by simp [settle]
@[simp] theorem settle_globalNs (s t : State) : (settle s t).globalNs = t.globalNs := by simp [settle]
@[simp] theorem settle_drawn (s t : State) : (settle s t).drawn = t.drawn := by simp [settle]
@[simp] theorem settle_readData (s t : State) : (settle s t).readData = t.readData := by simp [settle]
@[simp] theorem settle_out (s t : State) : (settle s t).out = t.out := by simp [settle]
@[simp] theorem settle_router (s t : State) : (settle s t).router = t.router := by simp [settle]
@[simp] theorem settle_host (s t : State) : (settle s t).host = t.host := by simp [settle]
@[simp] theorem settle_lku (s t : State) : (settle s t).lku = t.lku := by simp [settle]
@[simp] theorem settle_ing (s t : State) : (settle s t).ing = t.ing := by simp [settle]
@[simp] theorem settle_pool (s t : State) : (settle s t).pool = t.pool := by simp [settle]
@[simp] theorem settle_sched (s t : State) : (settle s t).sched = t.sched := by simp [settle]
@[simp] theorem settle_col (s t : State) : (settle s t).col = t.col := by simp [settle]
@[simp] theorem settle_sge (s t : State) : (settle s t).sge = t.sge := by simp [settle]
@[simp] theorem settle_tim (s t : State) : (settle s t).tim = t.tim := by simp [settle]
@[simp] theorem settle_vault (s t : State) : (settle s t).vault = t.vault := by simp [settle]
@[simp] theorem settle_cip (s t : State) : (settle s t).cip = t.cip := by simp [settle]
@[simp] theorem settle_recd (s t : State) : (settle s t).recd = t.recd := by simp [settle]
@[simp] theorem settle_rxu (s t : State) : (settle s t).rxu = t.rxu := by simp [settle]
@[simp] theorem settle_ports (s t : State) : (settle s t).ports = t.ports := by simp [settle]
@[simp] theorem settle_survey (s t : State) : (settle s t).survey = t.survey := by simp [settle]
@[simp] theorem settle_nm (s t : State) : (settle s t).nm = t.nm := by simp [settle]
@[simp] theorem settle_gaf (s t : State) : (settle s t).gaf = t.gaf := by simp [settle]
@[simp] theorem settle_upd (s t : State) : (settle s t).upd = t.upd := by simp [settle]

@[simp] theorem emit_out (o : Out) (s : State) : (emit o s).out = o :: s.out := rfl
@[simp] theorem answer_readData (v : List Nat) (s : State) : (answer v s).readData = v := rfl
@[simp] theorem free_drawn (s : State) : (free s).2.drawn = s.drawn + 1 := rfl
@[simp] theorem free_fst (s : State) : (free s).1 = Config.freeNat s.drawn := rfl

/-- A record update of anything but the registers leaves every register alone. -/
theorem rd_of_regs_eq (s t : State) (a : Nat) (h : t.regs = s.regs) : rd t a = rd s a := by simp [rd, rdw, h]

@[simp] theorem rd_emit (o : Out) (s : State) (a : Nat) : rd (emit o s) a = rd s a := rfl
@[simp] theorem rd_answer (v : List Nat) (s : State) (a : Nat) : rd (answer v s) a = rd s a := rfl
@[simp] theorem rd_free (s : State) (a : Nat) : rd (free s).2 a = rd s a := rfl

-- setBits
@[simp] theorem setBits_pending (a m : Nat) (s : State) : (setBits a m s).pending = s.pending := by cases s; rfl
@[simp] theorem setBits_devNs (a m : Nat) (s : State) : (setBits a m s).devNs = s.devNs := by cases s; rfl
@[simp] theorem setBits_globalNs (a m : Nat) (s : State) : (setBits a m s).globalNs = s.globalNs := by cases s; rfl
@[simp] theorem setBits_drawn (a m : Nat) (s : State) : (setBits a m s).drawn = s.drawn := by cases s; rfl
@[simp] theorem setBits_readData (a m : Nat) (s : State) : (setBits a m s).readData = s.readData := by cases s; rfl
@[simp] theorem setBits_out (a m : Nat) (s : State) : (setBits a m s).out = s.out := by cases s; rfl
@[simp] theorem setBits_host (a m : Nat) (s : State) : (setBits a m s).host = s.host := by cases s; rfl
@[simp] theorem setBits_lku (a m : Nat) (s : State) : (setBits a m s).lku = s.lku := by cases s; rfl
@[simp] theorem setBits_ing (a m : Nat) (s : State) : (setBits a m s).ing = s.ing := by cases s; rfl
@[simp] theorem setBits_pool (a m : Nat) (s : State) : (setBits a m s).pool = s.pool := by cases s; rfl
@[simp] theorem setBits_sched (a m : Nat) (s : State) : (setBits a m s).sched = s.sched := by cases s; rfl
@[simp] theorem setBits_col (a m : Nat) (s : State) : (setBits a m s).col = s.col := by cases s; rfl
@[simp] theorem setBits_sge (a m : Nat) (s : State) : (setBits a m s).sge = s.sge := by cases s; rfl
@[simp] theorem setBits_tim (a m : Nat) (s : State) : (setBits a m s).tim = s.tim := by cases s; rfl
@[simp] theorem setBits_vault (a m : Nat) (s : State) : (setBits a m s).vault = s.vault := by cases s; rfl
@[simp] theorem setBits_cip (a m : Nat) (s : State) : (setBits a m s).cip = s.cip := by cases s; rfl
@[simp] theorem setBits_recd (a m : Nat) (s : State) : (setBits a m s).recd = s.recd := by cases s; rfl
@[simp] theorem setBits_rxu (a m : Nat) (s : State) : (setBits a m s).rxu = s.rxu := by cases s; rfl
@[simp] theorem setBits_ports (a m : Nat) (s : State) : (setBits a m s).ports = s.ports := by cases s; rfl
@[simp] theorem setBits_survey (a m : Nat) (s : State) : (setBits a m s).survey = s.survey := by cases s; rfl
@[simp] theorem setBits_nm (a m : Nat) (s : State) : (setBits a m s).nm = s.nm := by cases s; rfl
@[simp] theorem setBits_gaf (a m : Nat) (s : State) : (setBits a m s).gaf = s.gaf := by cases s; rfl
@[simp] theorem setBits_upd (a m : Nat) (s : State) : (setBits a m s).upd = s.upd := by cases s; rfl

end Sys2Proof.Machine
end

