-- ==== Sys2Proof/Laws/Raise.lean ====
section
/-! SUPPORT. What raising an event source can touch: registers, outputs, the router, host rings, the recorder and the gaffer;
every other part of the state is as before. -/

namespace Sys2Proof.Machine

/-- `t` agrees with `s` but for registers, outputs, router, host rings, recorder and gaffer. -/
def Kept (s t : State) : Prop :=
  t = { t with
    pending := s.pending, devNs := s.devNs, globalNs := s.globalNs, drawn := s.drawn, readData := s.readData, lku := s.lku
    ing := s.ing, pool := s.pool, sched := s.sched, col := s.col, sge := s.sge, tim := s.tim, vault := s.vault, cip := s.cip
    rxu := s.rxu, ports := s.ports, survey := s.survey, nm := s.nm, upd := s.upd }

/-- Taking a `Kept` apart: the five parts that may differ are named. -/
theorem Kept.iff (s t : State) : Kept s t ↔ ∃ regs out router host recd gaf,
    t = { s with regs := regs, out := out, router := router, host := host, recd := recd, gaf := gaf } := by
  constructor
  · intro h
    exact ⟨t.regs, t.out, t.router, t.host, t.recd, t.gaf, h.trans (by cases s; cases t; rfl)⟩
  · rintro ⟨_, _, _, _, _, _, rfl⟩
    rfl

theorem Kept.refl (s : State) : Kept s s := rfl

theorem Kept.trans {s t u : State} (h : Kept s t) (k : Kept t u) : Kept s u := by
  obtain ⟨_, _, _, _, _, _, rfl⟩ := (Kept.iff _ _).mp h
  obtain ⟨_, _, _, _, _, _, rfl⟩ := (Kept.iff _ _).mp k
  exact (Kept.iff _ _).mpr ⟨_, _, _, _, _, _, rfl⟩

theorem Kept.regs (s : State) (m : SMap Word) : Kept s { s with regs := m } := rfl
theorem Kept.out (s : State) (l : List Out) : Kept s { s with out := l } := rfl
theorem Kept.router (s : State) (x : Router) : Kept s { s with router := x } := rfl
theorem Kept.host (s : State) (x : HostIf) : Kept s { s with host := x } := rfl
theorem Kept.recd (s : State) (x : Recorder) : Kept s { s with recd := x } := rfl
theorem Kept.gaf (s : State) (x : Gaffer) : Kept s { s with gaf := x } := rfl

theorem Kept.wr (s : State) (a v : Nat) : Kept s (wr s a v) := rfl
theorem Kept.wrf (s : State) (a hi lo v : Nat) : Kept s (wrf s a hi lo v) := rfl
theorem Kept.wrq (s : State) (a v : Nat) : Kept s (wrq s a v) := (Kept.wr _ _ _).trans (Kept.wr _ _ _)
theorem Kept.addCnt (s : State) (a n : Nat) : Kept s (addCnt s a n) := Kept.wrq _ _ _
theorem Kept.inc (s : State) (a : Nat) : Kept s (inc s a) := Kept.wrq _ _ _
theorem Kept.emit (o : Out) (s : State) : Kept s (emit o s) := rfl

theorem Kept.forEach {α : Type} (l : List α) (f : α → State → State) (hf : ∀ x s, Kept s (f x s)) (s : State) :
    Kept s (forEach l f s) := by
  induction l generalizing s with
  | nil => exact Kept.refl s
  | cons x t ih => exact (hf x s).trans (ih (f x s))

theorem Kept.ite {s t u : State} {p : Prop} [Decidable p] (h : Kept s t) (k : Kept s u) : Kept s (if p then t else u) := by
  split <;> assumption

theorem Kept.msix (v : Nat) (s : State) : Kept s (msix v s) := by
  unfold Machine.msix
  exact .ite (.router s _) ((Kept.inc s _).trans (.emit _ _))

theorem Kept.eventSignal (v : Nat) (s : State) : Kept s (eventSignal v s) := by
  unfold Machine.eventSignal
  split
  · exact .ite (.router s _) ((Kept.router s _).trans (.msix v _))
  · exact (Kept.router s _).trans (.msix v _)

theorem Kept.ringSignal (k : Nat) (s : State) : Kept s (ringSignal k s) := by
  unfold Machine.ringSignal
  exact (Kept.host s _).trans (.msix _ _)

theorem Kept.complete (k status kind tc src len timeNs : Nat) (coarse : Bool) (s : State) :
    Kept s (complete k status kind tc src len timeNs coarse s) := by
  unfold Machine.complete
  refine Kept.trans (t := _) ?_ (.ite (.ringSignal k _) (.refl _))
  refine Kept.trans ?_ (.host _ _)
  exact .ite ((((Kept.emit _ s).trans (.inc _ _)).trans (.wrf _ _ _ _ _)).trans (.wrf _ _ _ _ _))
    (((Kept.emit _ s).trans (.inc _ _)).trans (.wrf _ _ _ _ _))

theorem Kept.noteLoss (r reason bytes : Nat) (s : State) : Kept s (noteLoss r reason bytes s) := .recd s _

theorem Kept.recDrain (s : State) : Kept s (recDrain s) := .recd s _

theorem Kept.recBuffer (c n : Nat) (s : State) : Kept s (recBuffer c n s).2 := by
  unfold Machine.recBuffer
  extract_lets s1 w
  have h1 : Kept s s1 := .recDrain s
  clear_value s1
  split
  · exact h1
  · split
    · exact h1
    · exact h1.trans (.recd _ _)

theorem Kept.recAppend (r : Nat) (x : Rec) (kept : List Rec) (s : State) : Kept s (recAppend r x kept s) := by
  unfold Machine.recAppend
  exact ((Kept.recd s _).trans (.wrf _ _ _ _ _)).trans (.wr _ _ _)

theorem Kept.recKeep (r : Nat) (kept : List Rec) (s : State) : Kept s (recKeep r kept s) := by
  unfold Machine.recKeep
  exact (Kept.recd s _).trans (.wr _ _ _)

theorem Kept.recPush (r : Nat) (x : Rec) (s : State) : Kept s (recPush r x s).2 := by
  unfold Machine.recPush
  extract_lets gap q s1 old room keep kept s2
  have h1 : Kept s s1 := Kept.recBuffer _ _ s
  clear_value s1
  have h2 : Kept s s2 := h1.trans (.recKeep _ _ _)
  clear_value s2
  split
  · split
    · exact h1.trans (.recAppend _ _ _ _)
    · exact h1
  · split
    · exact h1.trans (.noteLoss _ _ _ _)
    · split
      · exact h2.trans (.noteLoss _ _ _ _)
      · exact h2.trans (.recAppend _ _ _ _)

theorem Kept.recStore (r : Nat) (x : Rec) (s : State) : Kept s (recStore r x s).2 := .recPush r _ s

theorem Kept.logStore (x : Rec) (s : State) : Kept s (logStore x s) := (Kept.recStore 1 x s).trans (.inc _ _)

theorem Kept.triggerStore (kind src : Nat) (s : State) : Kept s (triggerStore kind src s) := by
  unfold Machine.triggerStore
  extract_lets r
  have h : Kept s r.2 := .recPush 1 _ s
  clear_value r
  exact .ite h (h.trans (.inc _ _))

theorem Kept.openWindow (kind src : Nat) (s : State) : Kept s (openWindow kind src s) := by
  unfold Machine.openWindow
  split
  · extract_lets pre post c s1 s2 s3 s4
    have h1 : Kept s s1 := .recd s _
    clear_value s1
    have h2 : Kept s s2 := h1.trans (.wrq _ _ _)
    clear_value s2
    have h3 : Kept s s3 := h2.trans (.wr _ _ _)
    clear_value s3
    have h4 : Kept s s4 := h3.trans (.forEach _ _ (fun _ _ => .wrf _ _ _ _ _) _)
    clear_value s4
    exact (h4.trans (.wrf _ _ _ _ _)).trans (.inc _ _)
  · exact (Kept.recd s _).trans (.inc _ _)

theorem Kept.leaveHold (s : State) : Kept s (leaveHold s) := by
  unfold Machine.leaveHold
  extract_lets s1 s2
  have h1 : Kept s s1 := (Kept.wrf s _ _ _ _).trans (.wrf _ _ _ _ _)
  clear_value s1
  have h2 : Kept s s2 := .ite (h1.trans (.wrf _ _ _ _ _)) h1
  clear_value s2
  exact h2.trans (.gaf _ _)

theorem Kept.setBits (a m : Nat) (s : State) : Kept s (setBits a m s) := by
  unfold Machine.setBits
  exact (Kept.wr s _ _).trans (.router _ _)

theorem Kept.route (src : Nat) (s : State) : Kept s (route src s) := by
  unfold Machine.route
  extract_lets hr fw host mask s1 s2 s3
  have h1 : Kept s s1 := .ite ((Kept.setBits _ _ s).trans (.eventSignal _ _)) (.refl s)
  clear_value s1
  have h2 : Kept s s2 := h1.trans (.forEach _ _ (fun _ _ => .emit _ _) _)
  clear_value s2
  have h3 : Kept s s3 := .ite (h2.trans (.emit _ _)) h2
  clear_value s3
  exact .ite h3 (h3.trans (.router _ _))

theorem Kept.raiseN (n src : Nat) (s : State) : Kept s (raiseN n src s) := by
  induction n generalizing src s with
  | zero => exact .refl s
  | succ n ih =>
    unfold Machine.raiseN
    extract_lets was s1 s2 t s3 w s4
    have h1 : Kept s s1 := by
      show Kept s (match evtReg src with
        | some (a, b) => Machine.setBits a (2 ^ b) s
        | none => s)
      split
      · exact .setBits _ _ _
      · exact .refl s
    clear_value s1 was
    have h2 : Kept s s2 := h1.trans (.route src s1)
    clear_value s2
    have ht : Kept s t := h2.trans ((Kept.leaveHold s2).trans (ih 384 _))
    clear_value t
    have h3 : Kept s s3 := .ite (.ite (ht.trans (ih 501 _)) ht) h2
    clear_value s3
    have h4 : Kept s s4 := .ite (h3.trans (.logStore _ _)) h3
    clear_value s4
    exact .ite h1 (.ite h3 (.ite (h4.trans (((Kept.triggerStore _ _ _).trans (.openWindow _ _ _)).trans (ih _ _))) h4))

/-- Raising a source touches registers, outputs, router, host rings, recorder and gaffer alone. -/
theorem Kept.raise (src : Nat) (s : State) : Kept s (raise src s) := .raiseN 6 src s

theorem Kept.portCause (p b : Nat) (err : Bool) (s : State) : Kept s (portCause p b err s) := by
  unfold Machine.portCause
  exact .ite (.setBits _ _ _) ((Kept.setBits _ _ _).trans (.raise _ _))

@[simp] theorem raise_pending (src : Nat) (s : State) : (raise src s).pending = s.pending := by
  rw [Kept.raise src s]
@[simp] theorem raise_devNs (src : Nat) (s : State) : (raise src s).devNs = s.devNs := by rw [Kept.raise src s]
@[simp] theorem raise_globalNs (src : Nat) (s : State) : (raise src s).globalNs = s.globalNs := by rw [Kept.raise src s]
@[simp] theorem raise_lku (src : Nat) (s : State) : (raise src s).lku = s.lku := by rw [Kept.raise src s]
@[simp] theorem raise_pool (src : Nat) (s : State) : (raise src s).pool = s.pool := by rw [Kept.raise src s]
@[simp] theorem raise_sched (src : Nat) (s : State) : (raise src s).sched = s.sched := by rw [Kept.raise src s]
@[simp] theorem raise_vault (src : Nat) (s : State) : (raise src s).vault = s.vault := by rw [Kept.raise src s]
@[simp] theorem raise_ports (src : Nat) (s : State) : (raise src s).ports = s.ports := by rw [Kept.raise src s]

/-- A denied write touches no more than its reports do. -/
theorem Kept.denied (req : Requester) (a : Nat) (read : Bool) (s : State) : Kept s (denied req a read s) := by
  unfold Machine.denied
  exact (((Kept.wr s _ _).trans (.wr _ _ _)).trans (.inc _ _)).trans (.raise _ _)

end Sys2Proof.Machine
end

