-- ==== Sys2Proof/Laws/Regs.lean ====
section
/-! SUPPORT. Registers: a read after a write finds the value written, every other register is unchanged, and the register
file keeps its canonical form. -/

namespace Sys2Proof.Machine

/-- The register file after a write, read anywhere. -/
theorem rdw_wr (s : State) (a v b : Nat) : rdw (wr s a v) b = if b = a then BitVec.ofNat 32 v else rdw s b := by
  by_cases h : b = a
  · subst h
    simp only [rdw, wr, SMap.get?_set_same, if_true]
    by_cases hv : BitVec.ofNat 32 v = resetWord b
    · simp [hv]
    · simp [hv]
  · simp [rdw, wr, SMap.get?_set_other _ _ _ _ _ h, h]

theorem rd_wr (s : State) (a v b : Nat) : rd (wr s a v) b = if b = a then v % 2 ^ 32 else rd s b := by
  unfold rd; rw [rdw_wr]; split <;> simp [BitVec.toNat_ofNat]

@[simp] theorem rd_wr_same (s : State) (a v : Nat) : rd (wr s a v) a = v % 2 ^ 32 := by simp [rd_wr]

@[simp] theorem rd_wr_other (s : State) (a v b : Nat) (h : b ≠ a) : rd (wr s a v) b = rd s b := by simp [rd_wr, h]

theorem rd_lt (s : State) (a : Nat) : rd s a < 2 ^ 32 := (rdw s a).isLt

/-- Writing the value a register holds changes no register. -/
theorem rd_wr_self (s : State) (a b : Nat) : rd (wr s a (rd s a)) b = rd s b := by
  rw [rd_wr]; split
  · next h => subst h; exact Nat.mod_eq_of_lt (rd_lt s b)
  · rfl

@[simp] theorem rd_wrf_other (s : State) (a hi lo v b : Nat) (h : b ≠ a) : rd (wrf s a hi lo v) b = rd s b := by
  simp [wrf, rd_wr_other _ _ _ _ h]

theorem rd_wrf_same (s : State) (a hi lo v : Nat) (hh : hi < 32) (hl : lo ≤ hi) :
    rd (wrf s a hi lo v) a = putFld (rd s a) hi lo v := by
  rw [wrf, rd_wr_same, Nat.mod_eq_of_lt (putFld_lt _ _ _ _ (rd_lt s a) hh hl)]

/-- A field reads back as it was written. -/
theorem rdf_wrf_same (s : State) (a hi lo v : Nat) (hh : hi < 32) (hl : lo ≤ hi) :
    rdf (wrf s a hi lo v) a hi lo = v % 2 ^ (hi - lo + 1) := by
  rw [rdf, rd_wrf_same _ _ _ _ _ hh hl, fld_putFld_same]

/-- A field that does not meet the one written is unchanged. -/
theorem rdf_wrf_disjoint (s : State) (a hi lo v hi' lo' : Nat) (hh : hi < 32) (hl : lo ≤ hi) (hl' : lo' ≤ hi')
    (h : hi' < lo ∨ hi < lo') : rdf (wrf s a hi lo v) a hi' lo' = rdf s a hi' lo' := by
  rw [rdf, rd_wrf_same _ _ _ _ _ hh hl, fld_putFld_disjoint _ _ _ _ _ _ hl h hl', rdf]

@[simp] theorem rdf_wrf_other (s : State) (a hi lo v b hi' lo' : Nat) (h : b ≠ a) :
    rdf (wrf s a hi lo v) b hi' lo' = rdf s b hi' lo' := by
  simp [rdf, rd_wrf_other _ _ _ _ _ _ h]

@[simp] theorem rdf_wr_other (s : State) (a v b hi lo : Nat) (h : b ≠ a) : rdf (wr s a v) b hi lo = rdf s b hi lo := by
  simp [rdf, rd_wr_other _ _ _ _ h]

@[simp] theorem rdb_wr_other (s : State) (a v b i : Nat) (h : b ≠ a) : rdb (wr s a v) b i = rdb s b i := by
  simp [rdb, rd_wr_other _ _ _ _ h]

@[simp] theorem rdb_wrf_other (s : State) (a hi lo v b i : Nat) (h : b ≠ a) : rdb (wrf s a hi lo v) b i = rdb s b i := by
  simp [rdb, rd_wrf_other _ _ _ _ _ _ h]

/-- A bit outside the field written is unchanged. -/
theorem rdb_wrf_outside (s : State) (a hi lo v i : Nat) (hh : hi < 32) (hl : lo ≤ hi) (h : i < lo ∨ hi < i) :
    rdb (wrf s a hi lo v) a i = rdb s a i := by
  rw [rdb, rd_wrf_same _ _ _ _ _ hh hl, testBit_putFld_outside _ _ _ _ _ hl h, rdb]

/-- A single bit reads back as it was written. -/
theorem rdb_wrf_bit (s : State) (a i v : Nat) (hi : i < 32) : rdb (wrf s a i i v) a i = v.testBit 0 := by
  rw [rdb, rd_wrf_same _ _ _ _ _ hi (Nat.le_refl i), testBit_putFld]
  simp

/-- A write keeps the register file in its canonical form: keys strictly rising. -/
theorem wr_sorted (s : State) (a v : Nat) (h : s.regs.sorted = true) : (wr s a v).regs.sorted = true :=
  SMap.sorted_set _ _ _ _ h

theorem wrf_sorted (s : State) (a hi lo v : Nat) (h : s.regs.sorted = true) : (wrf s a hi lo v).regs.sorted = true :=
  wr_sorted _ _ _ h

/-- The pair of registers of a 64-bit counter after it was set. -/
theorem cnt_wrq (s : State) (a v : Nat) : cnt (wrq s a v) a = v % 2 ^ 64 := by
  have h : a ≠ a + 4 := by omega
  unfold cnt wrq
  rw [rd_wr_other _ _ _ _ h, rd_wr_same, rd_wr_same]
  omega

/-- A counter advances by n, modulo 2^64. -/
theorem cnt_addCnt (s : State) (a n : Nat) : cnt (addCnt s a n) a = (cnt s a + n) % 2 ^ 64 := cnt_wrq _ _ _

theorem cnt_inc (s : State) (a : Nat) : cnt (inc s a) a = (cnt s a + 1) % 2 ^ 64 := cnt_addCnt _ _ _

@[simp] theorem rd_wrq_other (s : State) (a v b : Nat) (h : b ≠ a) (h4 : b ≠ a + 4) : rd (wrq s a v) b = rd s b := by
  unfold wrq; rw [rd_wr_other _ _ _ _ h4, rd_wr_other _ _ _ _ h]

@[simp] theorem rd_inc_other (s : State) (a b : Nat) (h : b ≠ a) (h4 : b ≠ a + 4) : rd (inc s a) b = rd s b :=
  rd_wrq_other _ _ _ _ h h4

end Sys2Proof.Machine
end

