-- ==== Sys2Proof/Laws/Step.lean ====
section
/-! SUPPORT. What `run` answers, that a tick is settled, and that showing port 18's state keeps its conditions. -/

namespace Sys2Proof.Machine

/-- Everything `run` can answer: the command's effect, nothing where its unit has no power, or a refusal. -/
theorem run_cases (s : State) (i : Instr) (t : State) :
    (i.wf = true ∧ acts s i = true ∧ run s i t = .next (settle s t)) ∨
    (i.wf = true ∧ acts s i = false ∧ run s i t = .next (settle s s)) ∨
    (i.wf = false ∧ run s i t = .refused .noSuchUnit) := by
  by_cases h : i.wf = true
  · by_cases k : acts s i = true
    · exact .inl ⟨h, k, by simp [run, h, k]⟩
    · exact .inr (.inl ⟨h, by simpa using k, by simp [run, h, k]⟩)
  · exact .inr (.inr ⟨by simpa using h, by simp [run, h]⟩)

theorem run_wf (s : State) (i : Instr) (t : State) (h : i.wf = true) (k : acts s i = true) : run s i t = .next (settle s t) := by
  simp [run, h, k]

theorem run_idle (s : State) (i : Instr) (t : State) (h : i.wf = true) (k : acts s i = false) : run s i t = .next (settle s s) := by
  simp [run, h, k]

theorem run_next (s : State) (i : Instr) (t u : State) (h : run s i t = .next u) :
    u = settle s t ∨ acts s i = false ∧ u = settle s s := by
  rcases run_cases s i t with ⟨_, _, e⟩ | ⟨_, k, e⟩ | ⟨_, e⟩ <;> rw [e] at h
  · injection h with h; exact .inl h.symm
  · injection h with h; exact .inr ⟨k, h.symm⟩
  · cases h

/-- A command of the always-on domain or the line die acts at every rung. -/
theorem acts_of_alwaysOn (s : State) (i : Instr) (h : alwaysOnCmd i = true) : acts s i = true := by simp [acts, h]

/-- In Run and Hold every unit has power. -/
theorem acts_of_run (s : State) (i : Instr) (h : rung s ≤ 1) : acts s i = true := by
  have h' : rung s ≤ 2 := Nat.le_succ_of_le h
  simp only [acts, h, h', decide_true, ite_self, Bool.or_true]

/-- Showing port 18's state writes registers alone. -/
theorem hpShow_regs (s : State) : ∃ m, hpShow s = { s with regs := m } := by
  unfold hpShow
  extract_lets u
  clear_value u
  obtain ⟨m, e⟩ : ∃ m, wrf s R.HDMA_STATUS 1 1 u = { s with regs := m } := ⟨_, rfl⟩
  rw [e]; clear e
  obtain ⟨n, e⟩ : ∃ n, wrf { s with regs := m } R.PORT18_HP_STATE 31 28 (2 * u) = { s with regs := n } := ⟨_, rfl⟩
  rw [e]; clear e
  exact ⟨_, rfl⟩

/-- What a command leaves beside its effect: the queue as it was, and registers. -/
theorem settle_regs (s t : State) : ∃ m, settle s t = { t with pending := s.pending, regs := m } := by
  obtain ⟨m, h⟩ := hpShow_regs { t with pending := s.pending }
  exact ⟨m, h⟩

/-- A tick is settled. -/
theorem idleTick_settled (s : State) : ∃ t, idleTick s = settle s t := ⟨_, rfl⟩

/-- Port 18's conditions are the same after its registers were brought up to date: they do not read what is written. -/
theorem hpWant_hpShow (s : State) : hpWant (hpShow s) = hpWant s := by
  have e : ∀ b, b ≠ R.HDMA_STATUS → b ≠ R.PORT18_HP_STATE → b ≠ R.SCH_PORT_STATE 18 → rd (hpShow s) b = rd s b := by
    intro b h1 h2 h3
    unfold hpShow
    rw [rd_wrf_other _ _ _ _ _ _ h3, rd_wrf_other _ _ _ _ _ _ h2, rd_wrf_other _ _ _ _ _ _ h1]
  have hd : ∀ hi lo, lo ≤ hi → 1 < lo → rdf (hpShow s) R.HDMA_STATUS hi lo = rdf s R.HDMA_STATUS hi lo := by
    intro hi lo h1 h2
    unfold hpShow
    rw [rdf_wrf_other _ _ _ _ _ _ _ _ (by decide), rdf_wrf_other _ _ _ _ _ _ _ _ (by decide), rdf_wrf_disjoint _ _ _ _ _ _ _ (by decide) (by decide) h1 (Or.inr h2)]
  have hb : rdb (hpShow s) R.HDMA_STATUS 2 = rdb s R.HDMA_STATUS 2 := by
    unfold hpShow
    rw [rdb_wrf_other _ _ _ _ _ _ _ (by decide), rdb_wrf_other _ _ _ _ _ _ _ (by decide), rdb_wrf_outside _ _ _ _ _ _ (by decide) (by decide) (by decide)]
  have hr : anyToHost (hpShow s) = anyToHost s := by
    have hk : ∀ k, (rdf (hpShow s) (R.HDMA_RING_CFG k) 31 28 == 8 && rdb (hpShow s) (R.HDMA_RING_CTRL k) 31) =
        (rdf s (R.HDMA_RING_CFG k) 31 28 == 8 && rdb s (R.HDMA_RING_CTRL k) 31) := by
      intro k
      unfold rdf rdb
      rw [e _ (by simp only [R.HDMA_RING_CFG, R.HDMA_STATUS]; omega) (by simp only [R.HDMA_RING_CFG, R.PORT18_HP_STATE]; omega) (by simp only [R.HDMA_RING_CFG, R.SCH_PORT_STATE]; omega),
        e _ (by simp only [R.HDMA_RING_CTRL, R.HDMA_STATUS]; omega) (by simp only [R.HDMA_RING_CTRL, R.PORT18_HP_STATE]; omega) (by simp only [R.HDMA_RING_CTRL, R.SCH_PORT_STATE]; omega)]
    unfold anyToHost
    simp only [hk]
  unfold hpWant dmaUp pcieUp
  rw [hd 31 28 (by decide) (by decide), hb, hr]
  congr 2
  unfold rdb
  rw [e _ (by decide) (by decide) (by decide)]

end Sys2Proof.Machine
end

