-- ==== Sys2Proof/Laws/Units.lean ====
section
/-! SUPPORT. The updates of one unit's run (a channel, a port, a segment, a layout, a context): what a read of the same or
another unit finds after one, and one lemma per field that it leaves alone. -/

namespace Sys2Proof.Machine

-- setCan: CAN channels
@[simp] theorem setCan_canChan_same (n : Nat) (c : CanChan) (s : State) : canChan (setCan n c s) n = c := by
  simp [canChan, setCan, SMap.getD]
@[simp] theorem setCan_canChan_other (n m : Nat) (c : CanChan) (s : State) (h : m ≠ n) : canChan (setCan n c s) m = canChan s m := by
  simp [canChan, setCan, SMap.getD, h]
@[simp] theorem rd_setCan (n : Nat) (c : CanChan) (s : State) (a : Nat) : rd (setCan n c s) a = rd s a := rfl
@[simp] theorem setCan_regs (n : Nat) (c : CanChan) (s : State) : (setCan n c s).regs = s.regs := rfl
@[simp] theorem setCan_pending (n : Nat) (c : CanChan) (s : State) : (setCan n c s).pending = s.pending := rfl
@[simp] theorem setCan_devNs (n : Nat) (c : CanChan) (s : State) : (setCan n c s).devNs = s.devNs := rfl
@[simp] theorem setCan_globalNs (n : Nat) (c : CanChan) (s : State) : (setCan n c s).globalNs = s.globalNs := rfl
@[simp] theorem setCan_drawn (n : Nat) (c : CanChan) (s : State) : (setCan n c s).drawn = s.drawn := rfl
@[simp] theorem setCan_readData (n : Nat) (c : CanChan) (s : State) : (setCan n c s).readData = s.readData := rfl
@[simp] theorem setCan_out (n : Nat) (c : CanChan) (s : State) : (setCan n c s).out = s.out := rfl
@[simp] theorem setCan_router (n : Nat) (c : CanChan) (s : State) : (setCan n c s).router = s.router := rfl
@[simp] theorem setCan_host (n : Nat) (c : CanChan) (s : State) : (setCan n c s).host = s.host := rfl
@[simp] theorem setCan_lku (n : Nat) (c : CanChan) (s : State) : (setCan n c s).lku = s.lku := rfl
@[simp] theorem setCan_ing (n : Nat) (c : CanChan) (s : State) : (setCan n c s).ing = s.ing := rfl
@[simp] theorem setCan_pool (n : Nat) (c : CanChan) (s : State) : (setCan n c s).pool = s.pool := rfl
@[simp] theorem setCan_sched (n : Nat) (c : CanChan) (s : State) : (setCan n c s).sched = s.sched := rfl
@[simp] theorem setCan_col (n : Nat) (c : CanChan) (s : State) : (setCan n c s).col = s.col := rfl
@[simp] theorem setCan_sge (n : Nat) (c : CanChan) (s : State) : (setCan n c s).sge = s.sge := rfl
@[simp] theorem setCan_tim (n : Nat) (c : CanChan) (s : State) : (setCan n c s).tim = s.tim := rfl
@[simp] theorem setCan_vault (n : Nat) (c : CanChan) (s : State) : (setCan n c s).vault = s.vault := rfl
@[simp] theorem setCan_cip (n : Nat) (c : CanChan) (s : State) : (setCan n c s).cip = s.cip := rfl
@[simp] theorem setCan_recd (n : Nat) (c : CanChan) (s : State) : (setCan n c s).recd = s.recd := rfl
@[simp] theorem setCan_rxu (n : Nat) (c : CanChan) (s : State) : (setCan n c s).rxu = s.rxu := rfl
@[simp] theorem setCan_survey (n : Nat) (c : CanChan) (s : State) : (setCan n c s).survey = s.survey := rfl
@[simp] theorem setCan_nm (n : Nat) (c : CanChan) (s : State) : (setCan n c s).nm = s.nm := rfl
@[simp] theorem setCan_gaf (n : Nat) (c : CanChan) (s : State) : (setCan n c s).gaf = s.gaf := rfl
@[simp] theorem setCan_upd (n : Nat) (c : CanChan) (s : State) : (setCan n c s).upd = s.upd := rfl

-- setLin: LIN channels
@[simp] theorem setLin_linChan_same (n : Nat) (c : LinChan) (s : State) : linChan (setLin n c s) n = c := by
  simp [linChan, setLin, SMap.getD]
@[simp] theorem setLin_linChan_other (n m : Nat) (c : LinChan) (s : State) (h : m ≠ n) : linChan (setLin n c s) m = linChan s m := by
  simp [linChan, setLin, SMap.getD, h]
@[simp] theorem rd_setLin (n : Nat) (c : LinChan) (s : State) (a : Nat) : rd (setLin n c s) a = rd s a := rfl
@[simp] theorem setLin_regs (n : Nat) (c : LinChan) (s : State) : (setLin n c s).regs = s.regs := rfl
@[simp] theorem setLin_pending (n : Nat) (c : LinChan) (s : State) : (setLin n c s).pending = s.pending := rfl
@[simp] theorem setLin_devNs (n : Nat) (c : LinChan) (s : State) : (setLin n c s).devNs = s.devNs := rfl
@[simp] theorem setLin_globalNs (n : Nat) (c : LinChan) (s : State) : (setLin n c s).globalNs = s.globalNs := rfl
@[simp] theorem setLin_drawn (n : Nat) (c : LinChan) (s : State) : (setLin n c s).drawn = s.drawn := rfl
@[simp] theorem setLin_readData (n : Nat) (c : LinChan) (s : State) : (setLin n c s).readData = s.readData := rfl
@[simp] theorem setLin_out (n : Nat) (c : LinChan) (s : State) : (setLin n c s).out = s.out := rfl
@[simp] theorem setLin_router (n : Nat) (c : LinChan) (s : State) : (setLin n c s).router = s.router := rfl
@[simp] theorem setLin_host (n : Nat) (c : LinChan) (s : State) : (setLin n c s).host = s.host := rfl
@[simp] theorem setLin_lku (n : Nat) (c : LinChan) (s : State) : (setLin n c s).lku = s.lku := rfl
@[simp] theorem setLin_ing (n : Nat) (c : LinChan) (s : State) : (setLin n c s).ing = s.ing := rfl
@[simp] theorem setLin_pool (n : Nat) (c : LinChan) (s : State) : (setLin n c s).pool = s.pool := rfl
@[simp] theorem setLin_sched (n : Nat) (c : LinChan) (s : State) : (setLin n c s).sched = s.sched := rfl
@[simp] theorem setLin_col (n : Nat) (c : LinChan) (s : State) : (setLin n c s).col = s.col := rfl
@[simp] theorem setLin_sge (n : Nat) (c : LinChan) (s : State) : (setLin n c s).sge = s.sge := rfl
@[simp] theorem setLin_tim (n : Nat) (c : LinChan) (s : State) : (setLin n c s).tim = s.tim := rfl
@[simp] theorem setLin_vault (n : Nat) (c : LinChan) (s : State) : (setLin n c s).vault = s.vault := rfl
@[simp] theorem setLin_cip (n : Nat) (c : LinChan) (s : State) : (setLin n c s).cip = s.cip := rfl
@[simp] theorem setLin_recd (n : Nat) (c : LinChan) (s : State) : (setLin n c s).recd = s.recd := rfl
@[simp] theorem setLin_rxu (n : Nat) (c : LinChan) (s : State) : (setLin n c s).rxu = s.rxu := rfl
@[simp] theorem setLin_survey (n : Nat) (c : LinChan) (s : State) : (setLin n c s).survey = s.survey := rfl
@[simp] theorem setLin_nm (n : Nat) (c : LinChan) (s : State) : (setLin n c s).nm = s.nm := rfl
@[simp] theorem setLin_gaf (n : Nat) (c : LinChan) (s : State) : (setLin n c s).gaf = s.gaf := rfl
@[simp] theorem setLin_upd (n : Nat) (c : LinChan) (s : State) : (setLin n c s).upd = s.upd := rfl

-- setEth: Ethernet ports
@[simp] theorem setEth_ethPort_same (n : Nat) (c : EthPort) (s : State) : ethPort (setEth n c s) n = c := by
  simp [ethPort, setEth, SMap.getD]
@[simp] theorem setEth_ethPort_other (n m : Nat) (c : EthPort) (s : State) (h : m ≠ n) : ethPort (setEth n c s) m = ethPort s m := by
  simp [ethPort, setEth, SMap.getD, h]
@[simp] theorem rd_setEth (n : Nat) (c : EthPort) (s : State) (a : Nat) : rd (setEth n c s) a = rd s a := rfl
@[simp] theorem setEth_regs (n : Nat) (c : EthPort) (s : State) : (setEth n c s).regs = s.regs := rfl
@[simp] theorem setEth_pending (n : Nat) (c : EthPort) (s : State) : (setEth n c s).pending = s.pending := rfl
@[simp] theorem setEth_devNs (n : Nat) (c : EthPort) (s : State) : (setEth n c s).devNs = s.devNs := rfl
@[simp] theorem setEth_globalNs (n : Nat) (c : EthPort) (s : State) : (setEth n c s).globalNs = s.globalNs := rfl
@[simp] theorem setEth_drawn (n : Nat) (c : EthPort) (s : State) : (setEth n c s).drawn = s.drawn := rfl
@[simp] theorem setEth_readData (n : Nat) (c : EthPort) (s : State) : (setEth n c s).readData = s.readData := rfl
@[simp] theorem setEth_out (n : Nat) (c : EthPort) (s : State) : (setEth n c s).out = s.out := rfl
@[simp] theorem setEth_router (n : Nat) (c : EthPort) (s : State) : (setEth n c s).router = s.router := rfl
@[simp] theorem setEth_host (n : Nat) (c : EthPort) (s : State) : (setEth n c s).host = s.host := rfl
@[simp] theorem setEth_lku (n : Nat) (c : EthPort) (s : State) : (setEth n c s).lku = s.lku := rfl
@[simp] theorem setEth_ing (n : Nat) (c : EthPort) (s : State) : (setEth n c s).ing = s.ing := rfl
@[simp] theorem setEth_pool (n : Nat) (c : EthPort) (s : State) : (setEth n c s).pool = s.pool := rfl
@[simp] theorem setEth_sched (n : Nat) (c : EthPort) (s : State) : (setEth n c s).sched = s.sched := rfl
@[simp] theorem setEth_col (n : Nat) (c : EthPort) (s : State) : (setEth n c s).col = s.col := rfl
@[simp] theorem setEth_sge (n : Nat) (c : EthPort) (s : State) : (setEth n c s).sge = s.sge := rfl
@[simp] theorem setEth_tim (n : Nat) (c : EthPort) (s : State) : (setEth n c s).tim = s.tim := rfl
@[simp] theorem setEth_vault (n : Nat) (c : EthPort) (s : State) : (setEth n c s).vault = s.vault := rfl
@[simp] theorem setEth_cip (n : Nat) (c : EthPort) (s : State) : (setEth n c s).cip = s.cip := rfl
@[simp] theorem setEth_recd (n : Nat) (c : EthPort) (s : State) : (setEth n c s).recd = s.recd := rfl
@[simp] theorem setEth_rxu (n : Nat) (c : EthPort) (s : State) : (setEth n c s).rxu = s.rxu := rfl
@[simp] theorem setEth_survey (n : Nat) (c : EthPort) (s : State) : (setEth n c s).survey = s.survey := rfl
@[simp] theorem setEth_nm (n : Nat) (c : EthPort) (s : State) : (setEth n c s).nm = s.nm := rfl
@[simp] theorem setEth_gaf (n : Nat) (c : EthPort) (s : State) : (setEth n c s).gaf = s.gaf := rfl
@[simp] theorem setEth_upd (n : Nat) (c : EthPort) (s : State) : (setEth n c s).upd = s.upd := rfl

-- setSeg: segments
@[simp] theorem setSeg_seg_same (n : Nat) (c : Seg) (s : State) : seg (setSeg n c s) n = c := by
  simp [seg, setSeg, SMap.getD]
@[simp] theorem setSeg_seg_other (n m : Nat) (c : Seg) (s : State) (h : m ≠ n) : seg (setSeg n c s) m = seg s m := by
  simp [seg, setSeg, SMap.getD, h]
@[simp] theorem rd_setSeg (n : Nat) (c : Seg) (s : State) (a : Nat) : rd (setSeg n c s) a = rd s a := rfl
@[simp] theorem setSeg_regs (n : Nat) (c : Seg) (s : State) : (setSeg n c s).regs = s.regs := rfl
@[simp] theorem setSeg_pending (n : Nat) (c : Seg) (s : State) : (setSeg n c s).pending = s.pending := rfl
@[simp] theorem setSeg_devNs (n : Nat) (c : Seg) (s : State) : (setSeg n c s).devNs = s.devNs := rfl
@[simp] theorem setSeg_globalNs (n : Nat) (c : Seg) (s : State) : (setSeg n c s).globalNs = s.globalNs := rfl
@[simp] theorem setSeg_drawn (n : Nat) (c : Seg) (s : State) : (setSeg n c s).drawn = s.drawn := rfl
@[simp] theorem setSeg_readData (n : Nat) (c : Seg) (s : State) : (setSeg n c s).readData = s.readData := rfl
@[simp] theorem setSeg_out (n : Nat) (c : Seg) (s : State) : (setSeg n c s).out = s.out := rfl
@[simp] theorem setSeg_router (n : Nat) (c : Seg) (s : State) : (setSeg n c s).router = s.router := rfl
@[simp] theorem setSeg_host (n : Nat) (c : Seg) (s : State) : (setSeg n c s).host = s.host := rfl
@[simp] theorem setSeg_lku (n : Nat) (c : Seg) (s : State) : (setSeg n c s).lku = s.lku := rfl
@[simp] theorem setSeg_ing (n : Nat) (c : Seg) (s : State) : (setSeg n c s).ing = s.ing := rfl
@[simp] theorem setSeg_pool (n : Nat) (c : Seg) (s : State) : (setSeg n c s).pool = s.pool := rfl
@[simp] theorem setSeg_sched (n : Nat) (c : Seg) (s : State) : (setSeg n c s).sched = s.sched := rfl
@[simp] theorem setSeg_col (n : Nat) (c : Seg) (s : State) : (setSeg n c s).col = s.col := rfl
@[simp] theorem setSeg_sge (n : Nat) (c : Seg) (s : State) : (setSeg n c s).sge = s.sge := rfl
@[simp] theorem setSeg_tim (n : Nat) (c : Seg) (s : State) : (setSeg n c s).tim = s.tim := rfl
@[simp] theorem setSeg_vault (n : Nat) (c : Seg) (s : State) : (setSeg n c s).vault = s.vault := rfl
@[simp] theorem setSeg_cip (n : Nat) (c : Seg) (s : State) : (setSeg n c s).cip = s.cip := rfl
@[simp] theorem setSeg_recd (n : Nat) (c : Seg) (s : State) : (setSeg n c s).recd = s.recd := rfl
@[simp] theorem setSeg_rxu (n : Nat) (c : Seg) (s : State) : (setSeg n c s).rxu = s.rxu := rfl
@[simp] theorem setSeg_ports (n : Nat) (c : Seg) (s : State) : (setSeg n c s).ports = s.ports := rfl
@[simp] theorem setSeg_survey (n : Nat) (c : Seg) (s : State) : (setSeg n c s).survey = s.survey := rfl
@[simp] theorem setSeg_gaf (n : Nat) (c : Seg) (s : State) : (setSeg n c s).gaf = s.gaf := rfl
@[simp] theorem setSeg_upd (n : Nat) (c : Seg) (s : State) : (setSeg n c s).upd = s.upd := rfl

-- setPdu: PDU layouts
@[simp] theorem setPdu_pduRun_same (n : Nat) (c : PduRun) (s : State) : pduRun (setPdu n c s) n = c := by
  simp [pduRun, setPdu, SMap.getD]
@[simp] theorem setPdu_pduRun_other (n m : Nat) (c : PduRun) (s : State) (h : m ≠ n) : pduRun (setPdu n c s) m = pduRun s m := by
  simp [pduRun, setPdu, SMap.getD, h]
@[simp] theorem rd_setPdu (n : Nat) (c : PduRun) (s : State) (a : Nat) : rd (setPdu n c s) a = rd s a := rfl
@[simp] theorem setPdu_regs (n : Nat) (c : PduRun) (s : State) : (setPdu n c s).regs = s.regs := rfl
@[simp] theorem setPdu_pending (n : Nat) (c : PduRun) (s : State) : (setPdu n c s).pending = s.pending := rfl
@[simp] theorem setPdu_devNs (n : Nat) (c : PduRun) (s : State) : (setPdu n c s).devNs = s.devNs := rfl
@[simp] theorem setPdu_globalNs (n : Nat) (c : PduRun) (s : State) : (setPdu n c s).globalNs = s.globalNs := rfl
@[simp] theorem setPdu_drawn (n : Nat) (c : PduRun) (s : State) : (setPdu n c s).drawn = s.drawn := rfl
@[simp] theorem setPdu_readData (n : Nat) (c : PduRun) (s : State) : (setPdu n c s).readData = s.readData := rfl
@[simp] theorem setPdu_out (n : Nat) (c : PduRun) (s : State) : (setPdu n c s).out = s.out := rfl
@[simp] theorem setPdu_router (n : Nat) (c : PduRun) (s : State) : (setPdu n c s).router = s.router := rfl
@[simp] theorem setPdu_host (n : Nat) (c : PduRun) (s : State) : (setPdu n c s).host = s.host := rfl
@[simp] theorem setPdu_lku (n : Nat) (c : PduRun) (s : State) : (setPdu n c s).lku = s.lku := rfl
@[simp] theorem setPdu_ing (n : Nat) (c : PduRun) (s : State) : (setPdu n c s).ing = s.ing := rfl
@[simp] theorem setPdu_pool (n : Nat) (c : PduRun) (s : State) : (setPdu n c s).pool = s.pool := rfl
@[simp] theorem setPdu_sched (n : Nat) (c : PduRun) (s : State) : (setPdu n c s).sched = s.sched := rfl
@[simp] theorem setPdu_col (n : Nat) (c : PduRun) (s : State) : (setPdu n c s).col = s.col := rfl
@[simp] theorem setPdu_tim (n : Nat) (c : PduRun) (s : State) : (setPdu n c s).tim = s.tim := rfl
@[simp] theorem setPdu_vault (n : Nat) (c : PduRun) (s : State) : (setPdu n c s).vault = s.vault := rfl
@[simp] theorem setPdu_cip (n : Nat) (c : PduRun) (s : State) : (setPdu n c s).cip = s.cip := rfl
@[simp] theorem setPdu_recd (n : Nat) (c : PduRun) (s : State) : (setPdu n c s).recd = s.recd := rfl
@[simp] theorem setPdu_rxu (n : Nat) (c : PduRun) (s : State) : (setPdu n c s).rxu = s.rxu := rfl
@[simp] theorem setPdu_ports (n : Nat) (c : PduRun) (s : State) : (setPdu n c s).ports = s.ports := rfl
@[simp] theorem setPdu_survey (n : Nat) (c : PduRun) (s : State) : (setPdu n c s).survey = s.survey := rfl
@[simp] theorem setPdu_nm (n : Nat) (c : PduRun) (s : State) : (setPdu n c s).nm = s.nm := rfl
@[simp] theorem setPdu_gaf (n : Nat) (c : PduRun) (s : State) : (setPdu n c s).gaf = s.gaf := rfl
@[simp] theorem setPdu_upd (n : Nat) (c : PduRun) (s : State) : (setPdu n c s).upd = s.upd := rfl

-- setCtx: collator contexts
@[simp] theorem setCtx_ctx_same (n : Nat) (c : Ctx) (s : State) : ctx (setCtx n c s) n = c := by
  simp [ctx, setCtx, SMap.getD]
@[simp] theorem setCtx_ctx_other (n m : Nat) (c : Ctx) (s : State) (h : m ≠ n) : ctx (setCtx n c s) m = ctx s m := by
  simp [ctx, setCtx, SMap.getD, h]
@[simp] theorem rd_setCtx (n : Nat) (c : Ctx) (s : State) (a : Nat) : rd (setCtx n c s) a = rd s a := rfl
@[simp] theorem setCtx_regs (n : Nat) (c : Ctx) (s : State) : (setCtx n c s).regs = s.regs := rfl
@[simp] theorem setCtx_pending (n : Nat) (c : Ctx) (s : State) : (setCtx n c s).pending = s.pending := rfl
@[simp] theorem setCtx_devNs (n : Nat) (c : Ctx) (s : State) : (setCtx n c s).devNs = s.devNs := rfl
@[simp] theorem setCtx_globalNs (n : Nat) (c : Ctx) (s : State) : (setCtx n c s).globalNs = s.globalNs := rfl
@[simp] theorem setCtx_drawn (n : Nat) (c : Ctx) (s : State) : (setCtx n c s).drawn = s.drawn := rfl
@[simp] theorem setCtx_readData (n : Nat) (c : Ctx) (s : State) : (setCtx n c s).readData = s.readData := rfl
@[simp] theorem setCtx_out (n : Nat) (c : Ctx) (s : State) : (setCtx n c s).out = s.out := rfl
@[simp] theorem setCtx_router (n : Nat) (c : Ctx) (s : State) : (setCtx n c s).router = s.router := rfl
@[simp] theorem setCtx_host (n : Nat) (c : Ctx) (s : State) : (setCtx n c s).host = s.host := rfl
@[simp] theorem setCtx_lku (n : Nat) (c : Ctx) (s : State) : (setCtx n c s).lku = s.lku := rfl
@[simp] theorem setCtx_ing (n : Nat) (c : Ctx) (s : State) : (setCtx n c s).ing = s.ing := rfl
@[simp] theorem setCtx_pool (n : Nat) (c : Ctx) (s : State) : (setCtx n c s).pool = s.pool := rfl
@[simp] theorem setCtx_sched (n : Nat) (c : Ctx) (s : State) : (setCtx n c s).sched = s.sched := rfl
@[simp] theorem setCtx_sge (n : Nat) (c : Ctx) (s : State) : (setCtx n c s).sge = s.sge := rfl
@[simp] theorem setCtx_tim (n : Nat) (c : Ctx) (s : State) : (setCtx n c s).tim = s.tim := rfl
@[simp] theorem setCtx_vault (n : Nat) (c : Ctx) (s : State) : (setCtx n c s).vault = s.vault := rfl
@[simp] theorem setCtx_cip (n : Nat) (c : Ctx) (s : State) : (setCtx n c s).cip = s.cip := rfl
@[simp] theorem setCtx_recd (n : Nat) (c : Ctx) (s : State) : (setCtx n c s).recd = s.recd := rfl
@[simp] theorem setCtx_rxu (n : Nat) (c : Ctx) (s : State) : (setCtx n c s).rxu = s.rxu := rfl
@[simp] theorem setCtx_ports (n : Nat) (c : Ctx) (s : State) : (setCtx n c s).ports = s.ports := rfl
@[simp] theorem setCtx_survey (n : Nat) (c : Ctx) (s : State) : (setCtx n c s).survey = s.survey := rfl
@[simp] theorem setCtx_nm (n : Nat) (c : Ctx) (s : State) : (setCtx n c s).nm = s.nm := rfl
@[simp] theorem setCtx_gaf (n : Nat) (c : Ctx) (s : State) : (setCtx n c s).gaf = s.gaf := rfl
@[simp] theorem setCtx_upd (n : Nat) (c : Ctx) (s : State) : (setCtx n c s).upd = s.upd := rfl

end Sys2Proof.Machine
end

