-- ==== Sys2Proof/Tests/Slice0.lean ====
section
/-! SUPPORT. Small tests from the spec's worked examples and encodings, a refused term for each operand check, and for each
statement with hypotheses a witness that meets them. -/

namespace Sys2Proof.Tests
open Sys2Proof Sys2Proof.Machine

/-- Reset with the rails up and these registers written. -/
def regState (l : List (Nat × Nat)) : State :=
  forEach l (fun x s => wr s x.1 x.2) { State.reset with gaf := { State.reset.gaf with inReset := false } }

def frameOf : PFrame := ⟨false, List.replicate 64 0, 5, 0, false, true, false, 1, 1, 0, false, 0⟩

def copyOf : Copy := ⟨0, 0, 0, .shared, 1, 0, 0, 0, none, none, false, false, false, false, none, false, false, 0⟩

def jobOf : Job :=
  ⟨false, List.replicate 12 0 ++ [0x22, 0xF0, 0x82] ++ List.replicate 49 0, 0, { dest := 0 }, 0, 0, false, [], false, none⟩

/-- Scene t is defined and allowed, out of limp. -/
def sceneOpen (s : State) (t : Nat) : Bool :=
  !limp s && (rdf s R.UPD_SCENE 31 16).testBit t && rdb s (R.UPD_SCENE_ALLOWED (scene s)) t

/-- The state that a step answers, the state before where it answers none. -/
def after (s : State) (c : Instr) : State :=
  match step { s with pending := [c] } with
  | .next t => t
  | _ => s

-- Values of the spec's worked examples ---------------------------------------------------------------------------

/-- Chapter 0's worked example: channel C5 is port 25; its class 3 is Q203; its block starts at 0x0119_0000. -/
theorem test_queue_and_port_block :
    qOf (20 + 5) 3 = 203 ∧ qOf 44 0 = 352 ∧ R.PORT_CAN_STATE 25 / 0x10000 = 0x0119 ∧
    (R.PORT_CAN_STATE 25 % 0x10000 < 0x10000) := by decide

/-- Chapter 12's worked example: F1 to F4 of the wheel controller. -/
theorem test_freshness_example :
    fvCand 0x1234FE 8 0xFF = 0x1234FF ∧ fvCand 0x1234FF 8 0 = 0x123500 ∧ fvCand 0x1234FF 8 1 = 0x123501 ∧
    fvCand 0x123501 8 0xFF = 0x1235FF ∧ fvCand 0x123501 8 1 = 0x123601 ∧ fvCand 0x123A00 8 1 = 0x123A01 ∧
    R.CIP_FV 37 = 0x08020258 := by decide

/-- The check value of IEEE 802.3's CRC over the nine digits. -/
theorem test_crc32_check : crc32 ("123456789".toList.map (fun c => BitVec.ofNat 8 c.toNat)) = 0xCBF43926 := by decide +kernel

/-- Chapter 3's worked example: the partitions as the gateway holds them at t1; port 9 is in HOLD. -/
def crowded : State := regState [
  (R.CPL_PART_SIZE 4, 83728), (R.CPL_PART_USE 4, 69995), (R.CPL_SHARED_T1, 70000), (R.CPL_SHARED_T2, 50000),
  (R.CPL_PORT_CFG 0, 2000), (R.CPL_PORT_GUAR 0, 2000), (R.CPL_Q_CFG 3, 0x3FFFF),
  (R.CPL_PORT_CFG 16, 1000), (R.CPL_PORT_GUAR 16, 500), (R.CPL_PORT_STATE 0, 0), (R.CPL_PORT_STATE 6, 0),
  (R.CPL_PORT_STATE 9, 0x100), (R.CPL_PORT_STATE 16, 0)]

/-- Frame A (yellow, 8 cells): LINK_DOWN at port 9, REFUSE_DP at port 0, GUARANTEED at port 16. Frame B (green, 12 cells):
SHARED; and green, A would have been charged to SHARED too. -/
theorem test_crowded_millisecond :
    cellsOf 1000 = 8 ∧ cellsOf 1500 = 12 ∧
    (admitDecide crowded 9 3 6 1 8 75).toOption = none ∧ (admitDecide crowded 0 3 6 1 8 3).toOption = none ∧
    (admitDecide crowded 16 3 6 1 8 131).toOption = some .guaranteed ∧
    (admitDecide crowded 0 3 6 0 12 3).toOption = some .shared ∧ (admitDecide crowded 0 3 6 0 8 3).toOption = some .shared := by
  decide

/-- Chapter 3's example: CPL_WM_NOTICE[5] lies at 0x0300_6050, and 0xC000_0000 clears both sticky bits. -/
theorem test_notice_cleared :
    R.CPL_WM_NOTICE 5 = 0x03006050 ∧
    rdf (after (regState [(R.CPL_WM_NOTICE 5, 0xC0000002)]) (.registerWrite .safetyPair 0x03006050 15 0xC0000000))
      (R.CPL_WM_NOTICE 5) 31 30 = 0 := by decide

/-- Chapter 10's worked example: the sync 0x2E of channel C6. -/
theorem test_clapper_sync_bytes :
    busData (clapFrame 6 0xC1 0x2E 0 915204300 (regState [(R.TIM_STATUS, 0x40), (R.TIM_CLAP_CFG 6, 0x80000700),
      (R.TIM_CLAP_ID 6, 0x0F0)])).1 = [0xC1, 0x2E, 0x40, 0x07, 0x36, 0x8C, 0xE8, 0xCC] := by decide

/-- The follow-up of the same example: FLAGS 0x41 and 146,000 ns. -/
theorem test_clapper_followup_bytes :
    busData (clapFrame 6 0xC2 0x2E 1 146000 (regState [(R.TIM_STATUS, 0x40), (R.TIM_CLAP_CFG 6, 0x80000700),
      (R.TIM_CLAP_ID 6, 0x0F0)])).1 = [0xC2, 0x2E, 0x41, 0x07, 0x00, 0x02, 0x3A, 0x50] := by decide

/-- R18: a call-sheet register refuses a write, and the register block's fault counts it. -/
theorem test_loaded_register_denied :
    rd (after (regState []) (.registerWrite .safetyPair (R.GAF_NM_TIMES_8 0) 15 7)) (R.GAF_NM_TIMES_8 0) = 1500 := by decide

/-- R12: a byte write changes nothing. -/
theorem test_byte_write_ignored :
    rd (after (regState []) (.registerWrite .safetyPair (R.EVT_HOST_ROUTE 0) 1 7)) (R.EVT_HOST_ROUTE 0) = 0 := by decide

-- Operand checks: a refused term for each ------------------------------------------------------------------------

theorem test_ill_formedLanes :
    (Instr.cplPopRead .spi 64 0 0 .ok).wf = false ∧
    (Instr.canTermMeasureDone 16 none 0 0 0 0).wf = false ∧
    (Instr.canTermMeasureDone 0 none 0 0 0 16).wf = false ∧
    (Instr.canTermNoIdle 16).wf = false ∧
    (Instr.reflectometryDone 4 []).wf = false ∧
    (Instr.reflectometryDone 0 [(16, 0, 0)]).wf = false ∧
    (Instr.reflectometryDone 0 [(0, 16, 0)]).wf = false ∧
    (Instr.canRoleSwap 16).wf = false ∧
    (Instr.unitPowerStep 0 true true true).wf = false ∧
    (Instr.unitPowerStep 12 true true true).wf = false ∧
    (Instr.frameReceive 18 [] true).wf = false ∧
    (Instr.frameLookup 44 .ok .ok 0).wf = false ∧
    (Instr.frameLookup 0 .ok .ok 1024).wf = false ∧
    (Instr.frameTail 18 true false).wf = false ∧
    (Instr.wmClrStats .spi 64).wf = false ∧
    (Instr.spillCopy 64 .ok).wf = false ∧
    (Instr.refillCopy 64 false).wf = false := by decide

theorem test_ill_formedEgress :
    (Instr.egressSelect 20 .ok).wf = false ∧
    (Instr.egressSelect 45 .ok).wf = false ∧
    (Instr.frameTxStart 43 none).wf = false ∧
    (Instr.frameTxComplete 45 true).wf = false ∧
    (Instr.gateEntryChange 18 .ok).wf = false ∧
    (Instr.gateEntryChange 36 .ok).wf = false ∧
    (Instr.canPqMove 16 .ok).wf = false ∧
    (Instr.canArbitrationStart 16).wf = false ∧
    (Instr.pauseReceived 18 0 [] 0 true).wf = false ∧
    (Instr.pauseExpire 18 0).wf = false ∧
    (Instr.pauseExpire 0 8).wf = false ∧
    (Instr.pauseRepeat 18 0).wf = false ∧
    (Instr.pauseRepeat 0 8).wf = false ∧
    (Instr.lpiEnter 18 none).wf = false := by decide

theorem test_ill_formedEthernet :
    (Instr.linkUp 18 1 true true true 0).wf = false ∧
    (Instr.linkUp 0 0 true true true 0).wf = false ∧
    (Instr.linkUp 0 8 true true true 0).wf = false ∧
    (Instr.linkDown 18).wf = false ∧
    (Instr.linkHoldExpire 44).wf = false ∧
    (Instr.anFail 18 none).wf = false ∧
    (Instr.ethRestart .spi 18 0).wf = false ∧
    (Instr.plcaBeaconLoss 18).wf = false ∧
    (Instr.plcaBeaconReceived 18).wf = false ∧
    (Instr.stepWindow 18 0 0 false false 0).wf = false ∧
    (Instr.stepComplete 18 0).wf = false ∧
    (Instr.stepFail 18).wf = false ∧
    (Instr.tc10SleepRequestRx 12).wf = false ∧
    (Instr.tc10HandshakeDone 12).wf = false ∧
    (Instr.sqiUpdate 18 0).wf = false ∧
    (Instr.sqiUpdate 0 8).wf = false ∧
    (Instr.phyFault 18).wf = false := by decide

theorem test_ill_formedCollator :
    (Instr.holeTimeout 1024).wf = false ∧
    (Instr.recoveryReset 1024).wf = false ∧
    (Instr.latentTest 1024).wf = false ∧
    (Instr.latentReset 1024).wf = false ∧
    (Instr.encapWindowExpire 256).wf = false ∧
    (Instr.signalGroupApply 16 .ok).wf = false ∧
    (Instr.pduPeriodicTx 2048).wf = false ∧
    (Instr.pduGapEnd 2048).wf = false ∧
    (Instr.pduRxTimeout 2048).wf = false ∧
    (Instr.tpTimerExpire 68).wf = false ∧
    (Instr.tpBamPacket 68).wf = false ∧
    (Instr.j1939ClaimTimer 16).wf = false ∧
    (Instr.j1939ClaimReceived 16 0 0).wf = false ∧
    (Instr.j1939ClaimReceived 0 256 0).wf = false ∧
    (Instr.j1939RequestReceived 16 0).wf = false ∧
    (Instr.j1939RequestReceived 0 256).wf = false := by decide

theorem test_ill_formedCan :
    (Instr.canIntegrated 16).wf = false ∧
    (Instr.canFrameReceived 16 [] false 0 false).wf = false ∧
    (Instr.canTxSuccess 16 0 0 0).wf = false ∧
    (Instr.canErrorDetected 16 .bit false false 0 none .elsewhere).wf = false ∧
    (Instr.canRecoveryComplete 16).wf = false ∧
    (Instr.canRecover .spi 16 0).wf = false ∧
    (Instr.canDomTimeout 16).wf = false ∧
    (Instr.canProtocolException 16).wf = false ∧
    (Instr.lonelyProbe 16).wf = false ∧
    (Instr.canTerminationApply 16).wf = false ∧
    (Instr.canTrcvFault 16).wf = false ∧
    (Instr.clapperSyncDue 16).wf = false ∧
    (Instr.clapperAbandon 16).wf = false ∧
    (Instr.followupAbandon 16).wf = false ∧
    (Instr.canDriverCooled 16).wf = false := by decide

theorem test_ill_formedLinAndPins :
    (Instr.linSlotStart 8 true).wf = false ∧
    (Instr.linResponseReceived 8 0 [] 0 false true).wf = false ∧
    (Instr.linResponseReceived 0 64 [] 0 false true).wf = false ∧
    (Instr.linNoResponse 8).wf = false ∧
    (Instr.linHeaderReceived 8 0 0 0 0 true).wf = false ∧
    (Instr.linHeaderReceived 0 64 0 0 0 true).wf = false ∧
    (Instr.linBusStuck 8).wf = false ∧
    (Instr.linGoToSleepRx 8).wf = false ∧
    (Instr.linInactivity 8).wf = false ∧
    (Instr.swSample []).wf = false ∧
    (Instr.swWakePoll 8 0).wf = false ∧
    (Instr.soDiag 4 0 0 0 0 false false).wf = false ∧
    (Instr.soCooled 4).wf = false ∧
    (Instr.syncReceived 2 0 0 0 0 false).wf = false ∧
    (Instr.syncReceived 0 18 0 0 0 false).wf = false ∧
    (Instr.syncTimeout 2).wf = false ∧
    (Instr.pdelayExchange 18 none 0).wf = false := by decide

theorem test_ill_formedVaultAndSeals :
    (Instr.vaultDerive .spi 2048).wf = false ∧
    (Instr.vaultGenerate .spi 2048).wf = false ∧
    (Instr.vaultInvalidate .spi 2048).wf = false ∧
    (Instr.vaultDelete .spi 2048).wf = false ∧
    (Instr.cipherJobComplete 8 true .ok .ok .ok).wf = false ∧
    (Instr.macsecSaInstall 18 0 0 0 0 true true 0 0 0).wf = false ∧
    (Instr.macsecSaInstall 0 5 0 0 0 true true 0 0 0).wf = false ∧
    (Instr.macsecSaInstall 0 0 2 0 0 true true 0 0 0).wf = false ∧
    (Instr.macsecSaInstall 0 0 0 4 0 true true 0 0 0).wf = false ∧
    (Instr.macsecSaInstall 0 0 0 0 2048 true true 0 0 0).wf = false ∧
    (Instr.resyncAnnounceTx 256 0).wf = false ∧
    (Instr.resyncAnnounceTx 0 4096).wf = false ∧
    (Instr.resyncRequestRx 16 []).wf = false ∧
    (Instr.resyncAnnounceRx 16 []).wf = false ∧
    (Instr.resyncPartTimeout 16 0).wf = false ∧
    (Instr.resyncPartTimeout 0 256).wf = false := by decide

theorem test_ill_formedManagement :
    (Instr.nmRequestExpire 16).wf = false ∧
    (Instr.silenceExpire 19).wf = false ∧
    (Instr.wrapCommit 44).wf = false ∧
    (Instr.mediumAsleep 16).wf = false ∧
    (Instr.keepaliveTx 16).wf = false ∧
    (Instr.keepaliveRx 17).wf = false ∧
    (Instr.coupleHoldExpire 18).wf = false ∧
    (Instr.falseWakeJudge 36).wf = false ∧
    (Instr.nmStuck 16).wf = false ∧
    (Instr.faultLineAssert 128).wf = false ∧
    (Instr.resetUnitDone 128).wf = false ∧
    (Instr.reactionEscalate 128).wf = false ∧
    (Instr.shadowSettleEnd 128).wf = false ∧
    (Instr.lineTest 128 true).wf = false ∧
    (Instr.faultLineDeassert 128).wf = false ∧
    (Instr.safeFrameDue 32).wf = false ∧
    (Instr.safeFrameLate 32).wf = false ∧
    (Instr.gapRecord 0).wf = false ∧
    (Instr.gapRecord 4).wf = false ∧
    (Instr.sceneRequest .spi 16).wf = false := by decide

theorem test_ill_formedHost :
    (Instr.ringDoorbell 64 0).wf = false ∧
    (Instr.hostDescFetch 64 [] .ok).wf = false ∧
    (Instr.ringEnable .spi 64 0).wf = false ∧
    (Instr.ringDisable .spi 64 0).wf = false ∧
    (Instr.ringDmaError 64).wf = false ∧
    (Instr.completionCoalesceExpire 64).wf = false ∧
    (Instr.tsReqTimeout 68).wf = false ∧
    (Instr.cpInject .spi 4 0).wf = false ∧
    (Instr.frameSelect .spi 16 0 .ok).wf = false ∧
    (Instr.evtFifoPop .spi 6 0 0).wf = false ∧
    (Instr.evtHoldoffExpire 64).wf = false ∧
    (Instr.pcieLinkUp 0 1 true).wf = false ∧
    (Instr.pcieLinkUp 5 1 true).wf = false ∧
    (Instr.pcieLinkUp 1 3 true).wf = false := by decide

theorem test_ill_formedWakeAndSurvey :
    (Instr.wakeDetected (.canWup 16)).wf = false ∧
    (Instr.wakeDetected (.canWuf 16 [])).wf = false ∧
    (Instr.wakeDetected (.tc10 12)).wf = false ∧
    (Instr.wakeDetected (.lin 8 200)).wf = false ∧
    (Instr.wakeDetected (.switch 8)).wf = false ∧
    (Instr.surveyComplete [.vbat 2 0]).wf = false ∧
    (Instr.surveyComplete [.vbat 0 0x10000]).wf = false ∧
    (Instr.surveyComplete [.rail 8 0]).wf = false ∧
    (Instr.surveyComplete [.rail 0 0x10000]).wf = false ∧
    (Instr.surveyComplete [.temp 4 0]).wf = false ∧
    (Instr.surveyComplete [.temp 0 4001]).wf = false ∧
    (Instr.surveyComplete [.temp 0 (-2001)]).wf = false ∧
    (Instr.surveyComplete [.canNoIdle 16]).wf = false ∧
    (Instr.surveyComplete [.sw 8 0]).wf = false := by decide

-- Witnesses of the families of commands --------------------------------------------------------------------------

theorem witness_CollatorCommandsComplete :
    (∃ (s : State) (c : Nat), ((Instr.latentReset c).wf = true) ∧ (acts s (Instr.latentReset c) = true) ∧
        (latentResetDue s c = true)) ∧
    (∃ (s : State) (c : Nat), ((Instr.latentTest c).wf = true) ∧ (acts s (Instr.latentTest c) = true)) ∧
    (∃ (s : State) (c : Nat), ((Instr.recoveryReset c).wf = true) ∧ (acts s (Instr.recoveryReset c) = true)) ∧
    (∃ (s : State) (c : Nat), ((Instr.holeTimeout c).wf = true) ∧ (acts s (Instr.holeTimeout c) = true)) :=
  ⟨⟨regState [(R.GAF_RUNG, 0), (R.COL_CTX_CFG 0, 2 ^ 31), (R.COL_CTX_LATENT 0, 2 ^ 31)], 0, by decide⟩,
   ⟨regState [(R.GAF_RUNG, 0)], 0, by decide⟩,
   ⟨regState [(R.GAF_RUNG, 0)], 0, by decide⟩,
   ⟨regState [(R.GAF_RUNG, 0)], 0, by decide⟩⟩

theorem witness_CipherCommandsComplete :
    (∃ (s : State) (n : Nat) (d : Nat) (x : _), ((Instr.resyncPartTimeout n d).wf = true) ∧ (acts s
        (Instr.resyncPartTimeout n d) = true) ∧ (s.cip.parts.get? (256 * n + d) = some x) ∧ (x.sinceNs + 100000000 ≤
        s.devNs)) ∧
    (∃ (s : State) (n : Nat) (frame : List Byte) (d : _), ((Instr.resyncAnnounceRx n frame).wf = true) ∧ (acts s
        (Instr.resyncAnnounceRx n frame) = true) ∧ (resyncDom s n frame = some d) ∧ (¬ (byteAt (busData frame) 0 =
        0xF4))) ∧
    (∃ (s : State) (n : Nat) (frame : List Byte) (d : _), ((Instr.resyncRequestRx n frame).wf = true) ∧ (acts s
        (Instr.resyncRequestRx n frame) = true) ∧ (resyncDom s n frame = some d)) ∧
    (∃ (s : State) (d : Nat) (slot : Nat), ((Instr.resyncAnnounceTx d slot).wf = true) ∧ (acts s
        (Instr.resyncAnnounceTx d slot) = true)) ∧
    (∃ (s : State) (p : Nat) (sc : Nat) (slot : Nat) (an : Nat) (key : Nat) (inUse : Bool) (current : Bool) (sci :
        BitVec 64) (ssci : BitVec 32) (salt : BitVec 96), ((Instr.macsecSaInstall p sc slot an key inUse current sci
        ssci salt).wf = true) ∧ (acts s (Instr.macsecSaInstall p sc slot an key inUse current sci ssci salt) = true) ∧
        (¬ (rdb s (R.CIP_SECY_CFG p) 26))) ∧
    (∃ (s : State) (lane : Nat) (coresAgree : Bool) (ecc : Ecc) (slot : Ecc) (onward : Ecc) (j : _),
        ((Instr.cipherJobComplete lane coresAgree ecc slot onward).wf = true) ∧ (acts s (Instr.cipherJobComplete lane
        coresAgree ecc slot onward) = true) ∧ ((laneJobs s lane).head? = some j)) ∧
    (∃ (s : State) (inverseOk : Bool) (ecc : Ecc), ((Instr.cipherJobPlace inverseOk ecc).wf = true) ∧ (acts s
        (Instr.cipherJobPlace inverseOk ecc) = true)) :=
  ⟨⟨{ regState [(R.GAF_RUNG, 0)] with devNs := 100000000, cip := { State.reset.cip with parts := [(0, ⟨[], 1, 0⟩)] } },
       0, 0, ⟨[], 1, 0⟩, by decide⟩,
   ⟨regState [(R.GAF_RUNG, 0), (R.CIP_DOM_CFG 0, 3 * 2 ^ 30), (R.CIP_DOM_CHAN 0, 1), (R.CIP_DOM_RESYNC 0, 5)], 0,
       busFrame 0 5 false false false false 0 0 0 0 [0xF5], 0, by decide⟩,
   ⟨regState [(R.GAF_RUNG, 0), (R.CIP_DOM_CFG 0, 3 * 2 ^ 30), (R.CIP_DOM_CHAN 0, 1), (R.CIP_DOM_RESYNC 0, 5)], 0,
       busFrame 0 5 false false false false 0 0 0 0 [0xF4], 0, by decide⟩,
   ⟨regState [(R.GAF_RUNG, 0)], 0, 0, by decide⟩,
   ⟨regState [(R.GAF_RUNG, 0)], 0, 0, 0, 0, 0, false, false, 0, 0, 0, by decide⟩,
   ⟨{ regState [(R.GAF_RUNG, 0)] with cip := { State.reset.cip with jobs := [⟨3, 20, none, none, none, none, 0, 0xFFF, 0, false, 0, 0, 0, some 0, none, [], 0, 0, false⟩] } }, 0, false, .ok, .ok, .ok, ⟨3, 20, none, none, none, none, 0, 0xFFF, 0, false, 0, 0, 0, some 0, none, [], 0, 0, false⟩, by decide⟩,
   ⟨regState [(R.GAF_RUNG, 0)], false, .ok, by decide⟩⟩

theorem witness_VaultCommandsComplete :
    (∃ (others : List TamperSource) (value : Nat) (tap : TapInstr), ((Instr.openRequest others value tap).wf = true)) ∧
    (∃ (sources : List TamperSource), ((Instr.tamperDetected sources).wf = true)) ∧
    (∃ (s : State) (req : Requester), ((Instr.rotateKem req).wf = true) ∧ (acts s (Instr.rotateKem req) = true)) ∧
    (∃ (s : State) (req : Requester) (blob : List Byte) (ecc : Ecc), ((Instr.vaultImport req blob ecc).wf = true) ∧
        (acts s (Instr.vaultImport req blob ecc) = true)) ∧
    (∃ (s : State) (req : Requester) (i : Nat) (ecc : Ecc), ((Instr.vaultDelete req i ecc).wf = true) ∧ (acts s
        (Instr.vaultDelete req i ecc) = true)) ∧
    (∃ (s : State) (req : Requester) (i : Nat) (ecc : Ecc), ((Instr.vaultInvalidate req i ecc).wf = true) ∧ (acts s
        (Instr.vaultInvalidate req i ecc) = true)) ∧
    (∃ (s : State) (req : Requester) (i : Nat) (ecc : Ecc), ((Instr.vaultGenerate req i ecc).wf = true) ∧ (acts s
        (Instr.vaultGenerate req i ecc) = true)) ∧
    (∃ (s : State) (req : Requester) (i : Nat) (ecc : Ecc), ((Instr.vaultDerive req i ecc).wf = true) ∧ (acts s
        (Instr.vaultDerive req i ecc) = true)) :=
  ⟨⟨[], 0, .openRequest, by decide⟩,
   ⟨[], by decide⟩,
   ⟨regState [(R.GAF_RUNG, 0)], .safetyPair, by decide⟩,
   ⟨regState [(R.GAF_RUNG, 0)], .safetyPair, [], .ok, by decide⟩,
   ⟨regState [(R.GAF_RUNG, 0)], .safetyPair, 0, .ok, by decide⟩,
   ⟨regState [(R.GAF_RUNG, 0)], .safetyPair, 0, .ok, by decide⟩,
   ⟨regState [(R.GAF_RUNG, 0)], .safetyPair, 0, .ok, by decide⟩,
   ⟨regState [(R.GAF_RUNG, 0)], .safetyPair, 0, .ok, by decide⟩⟩

theorem witness_IngressCommandsComplete :
    (∃ (s : State) (p : Nat) (fcsOk : Bool) (symbolErr : Bool), ((Instr.frameTail p fcsOk symbolErr).wf = true) ∧ (acts
        s (Instr.frameTail p fcsOk symbolErr) = true)) ∧
    (∃ (s : State) (p : Nat) (lku : Ecc) (col : Ecc) (colAt : Nat) (pool : PoolEcc) (x : _), ((Instr.frameLookup p lku
        col colAt pool).wf = true) ∧ (acts s (Instr.frameLookup p lku col colAt pool) = true) ∧ (ingNext s p = some x)) ∧
    (∃ (s : State) (p : Nat) (data : List Byte) (room : Bool), ((Instr.frameReceive p data room).wf = true) ∧ (acts s
        (Instr.frameReceive p data room) = true)) :=
  ⟨⟨regState [(R.GAF_RUNG, 0)], 0, false, false, by decide⟩,
   ⟨{ regState [(R.GAF_RUNG, 0)] with ing := [⟨0, false, List.replicate 64 0, 0, 0, .good, none, none, false, false, none⟩] }, 0, .ok, .ok, 0, .ok, ⟨0, false, List.replicate 64 0, 0, 0, .good, none, none, false, false, none⟩, by decide⟩,
   ⟨regState [(R.GAF_RUNG, 0)], 0, [], false, by decide⟩⟩

theorem witness_EgressCommandsComplete :
    (∃ (s : State) (p : Nat) (ecc : Ecc) (g : _), ((Instr.gateEntryChange p ecc).wf = true) ∧ (acts s
        (Instr.gateEntryChange p ecc) = true) ∧ (s.sched.gates.get? p = some g)) ∧
    (∃ (s : State) (d : Nat) (dramError : Bool), ((Instr.refillCopy d dramError).wf = true) ∧ (acts s (Instr.refillCopy
        d dramError) = true)) ∧
    (∃ (s : State) (d : Nat) (ecc : PoolEcc) (k : _) (c : _) (f : _), ((Instr.spillCopy d ecc).wf = true) ∧ (acts s
        (Instr.spillCopy d ecc) = true) ∧ ((s.pool.deepTail.getD d []).head? = some k) ∧ (s.pool.copies.get? k = some
        c) ∧ (s.pool.frames.get? c.frame = some f) ∧ (¬ (!f.tailWritten || s.pool.frozen.contains c.q))) ∧
    (∃ (s : State) (p : Nat) (c : Nat) (t : _), ((Instr.pauseRepeat p c).wf = true) ∧ (acts s (Instr.pauseRepeat p c) =
        true) ∧ (s.sched.xoffRepeat.get? (8 * p + c) = some t) ∧ (t ≤ s.devNs ∧ rdb s (R.CPL_PORT_STATE p) c = true)) ∧
    (∃ (s : State) (p : Nat) (c : Nat) (x : _), ((Instr.pauseExpire p c).wf = true) ∧ (acts s (Instr.pauseExpire p c) =
        true) ∧ (s.sched.pausedUntil.get? (8 * p + c) = some x) ∧ (x.1 ≤ s.devNs)) ∧
    (∃ (s : State) (p : Nat) (opcode : Nat) (quanta : List Nat) (enable : Nat) (fcsOk : Bool), ((Instr.pauseReceived p
        opcode quanta enable fcsOk).wf = true) ∧ (acts s (Instr.pauseReceived p opcode quanta enable fcsOk) = true)) ∧
    (∃ (s : State) (p : Nat) (fcsStoredOk : Bool) (x : _) (y : _) (f : _), ((Instr.frameTxComplete p fcsStoredOk).wf =
        true) ∧ (acts s (Instr.frameTxComplete p fcsStoredOk) = true) ∧ (s.sched.service.get? p = some x) ∧ (¬
        (!x.started)) ∧ (s.pool.copies.get? x.desc = some y) ∧ (s.pool.frames.get? y.frame = some f) ∧ (f.tailWritten)) ∧
    (∃ (s : State) (p : Nat) (collision : Option Bool) (x : _) (y : _) (f : _), ((Instr.frameTxStart p collision).wf =
        true) ∧ (acts s (Instr.frameTxStart p collision) = true) ∧ (s.sched.service.get? p = some x) ∧ (¬ (x.started))
        ∧ (s.pool.copies.get? x.desc = some y) ∧ (s.pool.frames.get? y.frame = some f)) ∧
    (∃ (s : State) (p : Nat) (ecc : PoolEcc) (sched : Bool), ((Instr.egressSelect p ecc sched).wf = true) ∧ (acts s
        (Instr.egressSelect p ecc sched) = true) ∧ (¬ (!maySelect s p)) ∧ (¬ (p ≤ 17 ∧ rdf s (R.PORT_ETH_STATE p) 31 28
        ≠ 2))) :=
  ⟨⟨{ regState [(R.GAF_RUNG, 0)] with sched := { State.reset.sched with gates := [(0, ⟨some 0, 0, 0, 0, none, none, false⟩)] } }, 0, .ok, ⟨some 0, 0, 0, 0, none, none, false⟩, by decide⟩,
   ⟨regState [(R.GAF_RUNG, 0)], 0, false, by decide⟩,
   ⟨{ regState [(R.GAF_RUNG, 0)] with pool := { State.reset.pool with frames := [(0, ⟨false, List.replicate 64 0, 5, 0, false, true, false, 1, 1, 0, false, 0⟩)], copies := [(0, ⟨0, 0, 0, .shared, 1, 0, 0, 0, none, none, false, false, false, false, none, false, false, 0⟩)], deepTail := [(0, [0])] } }, 0, .ok, 0, ⟨0, 0, 0, .shared, 1, 0, 0, 0, none, none, false, false, false, false, none, false, false, 0⟩, ⟨false, List.replicate 64 0, 5, 0, false, true, false, 1, 1, 0, false, 0⟩, by decide⟩,
   ⟨{ regState [(R.GAF_RUNG, 0), (R.CPL_PORT_STATE 0, 1)] with sched := { State.reset.sched with xoffRepeat := [(0, 0)] } }, 0, 0, 0, by decide⟩,
   ⟨{ regState [(R.GAF_RUNG, 0)] with sched := { State.reset.sched with pausedUntil := [(0, (0, 0))] } }, 0, 0, (0, 0),
       by decide⟩,
   ⟨regState [(R.GAF_RUNG, 0)], 0, 0, [], 0, false, by decide⟩,
   ⟨{ regState [(R.GAF_RUNG, 0)] with pool := { State.reset.pool with frames := [(0, ⟨false, List.replicate 64 0, 5, 0, false, true, false, 1, 1, 0, false, 0⟩)], copies := [(0, ⟨0, 0, 0, .shared, 1, 0, 0, 0, none, none, false, false, false, false, none, false, false, 0⟩)] }, sched := { State.reset.sched with service := [(0, ⟨0, true, 0, 84, 0, none, false, false⟩)] } }, 0, false, ⟨0, true, 0, 84, 0, none, false, false⟩, ⟨0, 0, 0, .shared, 1, 0, 0, 0, none, none, false, false, false, false, none, false, false, 0⟩, ⟨false, List.replicate 64 0, 5, 0, false, true, false, 1, 1, 0, false, 0⟩, by decide⟩,
   ⟨{ regState [(R.GAF_RUNG, 0)] with pool := { State.reset.pool with frames := [(0, ⟨false, List.replicate 64 0, 5, 0, false, true, false, 1, 1, 0, false, 0⟩)], copies := [(0, ⟨0, 0, 0, .shared, 1, 0, 0, 0, none, none, false, false, false, false, none, false, false, 0⟩)] }, sched := { State.reset.sched with service := [(0, ⟨0, false, 0, 84, 0, none, false, false⟩)] } }, 0, none, ⟨0, false, 0, 84, 0, none, false, false⟩, ⟨0, 0, 0, .shared, 1, 0, 0, 0, none, none, false, false, false, false, none, false, false, 0⟩, ⟨false, List.replicate 64 0, 5, 0, false, true, false, 1, 1, 0, false, 0⟩, by decide⟩,
   ⟨regState [(R.GAF_RUNG, 0)], 19, .ok, false, by decide⟩⟩

theorem witness_TimeBaseCommandsComplete :
    (∃ (s : State) (ppm : Int), ((Instr.clockCheck ppm).wf = true) ∧ (acts s (Instr.clockCheck ppm) = true) ∧ (¬
        (ppm.natAbs ≤ 1000))) ∧
    (∃ (s : State), (acts s Instr.ppsLandFault = true) ∧ (ppsRole s)) ∧
    (∃ (s : State), (acts s Instr.ppsPulse = true) ∧ (ppsDue s = true)) ∧
    (∃ (s : State), (acts s Instr.holdoverExpire = true) ∧ (domState s (clkDom s) = 2 ∧ s.tim.holdNs + rdf s
        R.TIM_LIMITS 16 0 * 1000000000 ≤ s.devNs)) ∧
    (∃ (s : State) (d : Nat), ((Instr.syncTimeout d).wf = true) ∧ (acts s (Instr.syncTimeout d) = true)) ∧
    (∃ (s : State) (d : Nat) (p : Nat) (offsetNs : Int) (originNs : Nat) (corrNs : Nat) (twoStep : Bool),
        ((Instr.syncReceived d p offsetNs originNs corrNs twoStep).wf = true) ∧ (acts s (Instr.syncReceived d p
        offsetNs originNs corrNs twoStep) = true) ∧ (¬ (!isPtpPort p || !domActive s d || ptpRole s d p == 0))) ∧
    (∃ (s : State), (acts s Instr.timeStep = true)) ∧
    (∃ (s : State) (p : Nat) (delayNs : Option Nat) (nrrPpb : Int), ((Instr.pdelayExchange p delayNs nrrPpb).wf = true)
        ∧ (acts s (Instr.pdelayExchange p delayNs nrrPpb) = true) ∧ (¬ (!isPtpPort p))) ∧
    (∃ (s : State) (x : _), (acts s Instr.snapComplete = true) ∧ (s.tim.snap = some x) ∧ (x.taken = true)) ∧
    (∃ (s : State), (acts s Instr.snapSchedule = true) ∧ (¬ (!snapDue s))) :=
  ⟨⟨regState [(R.GAF_RUNG, 0)], 2000, by decide⟩,
   ⟨regState [(R.GAF_RUNG, 0), (R.SVY_SW 7, 2 ^ 30)], by decide⟩,
   ⟨regState [(R.GAF_RUNG, 0), (R.SVY_SW 7, 2 ^ 30), (R.TIM_PPS_CFG, 3 * 2 ^ 30)], by decide⟩,
   ⟨{ regState [(R.GAF_RUNG, 0), (R.TIM_DOM_STATE 0, 2 * 2 ^ 30)] with devNs := 10 ^ 18 }, by decide⟩,
   ⟨regState [(R.GAF_RUNG, 0)], 0, by decide⟩,
   ⟨regState [(R.GAF_RUNG, 0), (R.TIM_DOM_CFG 0, 2 ^ 31), (R.TIM_PORT_CFG 0, 2 ^ 28)], 0, 0, 0, 0, 0, false, by decide⟩,
   ⟨regState [(R.GAF_RUNG, 0)], by decide⟩,
   ⟨regState [(R.GAF_RUNG, 0)], 0, none, 0, by decide⟩,
   ⟨{ regState [(R.GAF_RUNG, 0)] with tim := { State.reset.tim with snap := some ⟨true, 0, false, 0, 0, 0⟩ } }, ⟨true,
       0, false, 0, 0, 0⟩, by decide⟩,
   ⟨{ regState [(R.GAF_RUNG, 0), (R.SNAP_SCHED_CFG, 2 ^ 31)] with tim := { State.reset.tim with snapNext := some 0 } },
       by decide⟩⟩

theorem witness_EthernetCommandsComplete :
    (∃ (s : State) (p : Nat), ((Instr.phyFault p).wf = true) ∧ (acts s (Instr.phyFault p) = true)) ∧
    (∃ (s : State) (p : Nat) (sqi : Nat), ((Instr.sqiUpdate p sqi).wf = true) ∧ (acts s (Instr.sqiUpdate p sqi) = true)
        ∧ (¬ (11 < p ∨ linked s p = false))) ∧
    (∃ (s : State) (p : Nat), ((Instr.tc10HandshakeDone p).wf = true) ∧ (acts s (Instr.tc10HandshakeDone p) = true) ∧
        (tc10On s p && segCommitted s p && portQuiet s p)) ∧
    (∃ (s : State) (p : Nat), ((Instr.tc10SleepRequestRx p).wf = true) ∧ (acts s (Instr.tc10SleepRequestRx p) = true) ∧
        (¬ (!tc10On s p))) ∧
    (∃ (s : State) (p : Nat), ((Instr.stepFail p).wf = true) ∧ (acts s (Instr.stepFail p) = true) ∧ (link s p = 3)) ∧
    (∃ (s : State) (p : Nat) (durationNs : Nat) (r : _), ((Instr.stepComplete p durationNs).wf = true) ∧ (acts s
        (Instr.stepComplete p durationNs) = true) ∧ ((ethPort s p).stepTo = some r) ∧ (¬ (link s p ≠ 3))) ∧
    (∃ (s : State) (p : Nat) (txBytes : Nat) (rxBytes : Nat) (partnerDown : Bool) (partnerUp : Bool) (headWaitUs :
        Nat), ((Instr.stepWindow p txBytes rxBytes partnerDown partnerUp headWaitUs).wf = true) ∧ (acts s
        (Instr.stepWindow p txBytes rxBytes partnerDown partnerUp headWaitUs) = true) ∧ (¬ (link s p ≠ 2 ∨ rdb s
        (R.PORT_ETH_STATE p) 19 = false ∨ 3 < p))) ∧
    (∃ (s : State) (p : Nat) (rx : Option Bool), ((Instr.lpiEnter p rx).wf = true) ∧ (acts s (Instr.lpiEnter p rx) =
        true)) ∧
    (∃ (s : State) (p : Nat), ((Instr.plcaBeaconReceived p).wf = true) ∧ (acts s (Instr.plcaBeaconReceived p) = true) ∧
        (isSd p && rdb s (R.PORT_ETH_CFG p) 9 && linked s p)) ∧
    (∃ (s : State) (p : Nat), ((Instr.plcaBeaconLoss p).wf = true) ∧ (acts s (Instr.plcaBeaconLoss p) = true)) ∧
    (∃ (s : State) (p : Nat) (partner : Option Nat), ((Instr.anFail p partner).wf = true) ∧ (acts s (Instr.anFail p
        partner) = true) ∧ (link s p = 1 ∧ isSd p = false ∧ rdb s (R.PORT_ETH_CFG p) 15 = true)) ∧
    (∃ (s : State) (p : Nat), ((Instr.linkHoldExpire p).wf = true) ∧ (acts s (Instr.linkHoldExpire p) = true)) ∧
    (∃ (s : State) (p : Nat), ((Instr.linkDown p).wf = true) ∧ (acts s (Instr.linkDown p) = true) ∧ (linked s p)) ∧
    (∃ (s : State) (p : Nat) (rate : Nat) (leader : Bool) (eeeAgreed : Bool) (stepAgreed : Bool) (partner : Nat),
        ((Instr.linkUp p rate leader eeeAgreed stepAgreed partner).wf = true) ∧ (acts s (Instr.linkUp p rate leader
        eeeAgreed stepAgreed partner) = true) ∧ (¬ (link s p ≠ 1 ∨ (portEnabled s p && !segDown s p && upRate s p rate
        partner) = false))) :=
  ⟨⟨regState [(R.GAF_RUNG, 0)], 0, by decide⟩,
   ⟨regState [(R.GAF_RUNG, 0), (R.PORT_ETH_STATE 0, 2 * 2 ^ 28)], 0, 0, by decide⟩,
   ⟨regState [(R.GAF_RUNG, 0), (R.PORT_ETH_CFG 0, 2 ^ 10), (R.GAF_NM_SEG_STATE 0, 2 ^ 27)], 0, by decide⟩,
   ⟨regState [(R.GAF_RUNG, 0), (R.PORT_ETH_CFG 0, 2 ^ 10)], 0, by decide⟩,
   ⟨regState [(R.GAF_RUNG, 0), (R.PORT_ETH_STATE 0, 3 * 2 ^ 28)], 0, by decide⟩,
   ⟨{ regState [(R.GAF_RUNG, 0), (R.PORT_ETH_STATE 0, 3 * 2 ^ 28)] with ports := { State.reset.ports with eth := [(0, { ethPort State.reset 0 with stepTo := some 3 })] } }, 0, 0, 3, by decide⟩,
   ⟨regState [(R.GAF_RUNG, 0), (R.PORT_ETH_STATE 0, 2 * 2 ^ 28 + 2 ^ 19)], 0, 0, 0, false, false, 0, by decide⟩,
   ⟨regState [(R.GAF_RUNG, 0)], 0, none, by decide⟩,
   ⟨regState [(R.GAF_RUNG, 0), (R.PORT_ETH_CFG 12, 2 ^ 9), (R.PORT_ETH_STATE 12, 2 * 2 ^ 28)], 12, by decide⟩,
   ⟨regState [(R.GAF_RUNG, 0)], 0, by decide⟩,
   ⟨regState [(R.GAF_RUNG, 0), (R.PORT_ETH_CFG 0, 2 ^ 15), (R.PORT_ETH_STATE 0, 2 ^ 28)], 0, none, by decide⟩,
   ⟨regState [(R.GAF_RUNG, 0)], 0, by decide⟩,
   ⟨regState [(R.GAF_RUNG, 0), (R.PORT_ETH_STATE 0, 2 * 2 ^ 28)], 0, by decide⟩,
   ⟨regState [(R.GAF_RUNG, 0), (R.PORT_ETH_STATE 0, 2 ^ 28), (R.PORT_ETH_CFG 0, 0xFFFF0003), (R.SVY_STATUS, 2),
       (R.UPD_SHEET_STATUS, 0), (R.GAF_NM_SEG_STATE 0, 2 * 2 ^ 28)], 0, 3, false, false, false, 0, by decide⟩⟩

theorem witness_NetworkManagementCommandsComplete :
    (∃ (s : State) (i : Nat), ((Instr.falseWakeJudge i).wf = true) ∧ (acts s (Instr.falseWakeJudge i) = true)) ∧
    (∃ (s : State) (p : Nat), ((Instr.keepaliveRx p).wf = true) ∧ (acts s (Instr.keepaliveRx p) = true) ∧ (segMode s p
        = 0)) ∧
    (∃ (s : State) (p : Nat), ((Instr.keepaliveTx p).wf = true) ∧ (acts s (Instr.keepaliveTx p) = true)) ∧
    (∃ (s : State) (p : Nat), ((Instr.coupleHoldExpire p).wf = true) ∧ (acts s (Instr.coupleHoldExpire p) = true) ∧ (¬
        (coupled s p))) ∧
    (∃ (s : State) (p : Nat), ((Instr.nmStuck p).wf = true) ∧ (acts s (Instr.nmStuck p) = true) ∧ (segCommitted s p ∧
        (seg s p).sinceNs + 20000000 ≤ s.devNs)) ∧
    (∃ (s : State) (p : Nat), ((Instr.mediumAsleep p).wf = true) ∧ (acts s (Instr.mediumAsleep p) = true) ∧
        (segCommitted s p && portQuiet s p && sleepSent s p)) ∧
    (∃ (s : State) (p : Nat), ((Instr.wrapCommit p).wf = true) ∧ (acts s (Instr.wrapCommit p) = true)) ∧
    (∃ (s : State) (p : Nat), ((Instr.silenceExpire p).wf = true) ∧ (acts s (Instr.silenceExpire p) = true) ∧ (¬
        (keepaliveWaits s p)) ∧ (segState s p = 3 ∧ (seg s p).silenceNs + rdf s (R.GAF_NM_TIMES_4 p) 31 16 * 1000000 ≤
        s.devNs)) ∧
    (∃ (s : State) (p : Nat), ((Instr.nmRequestExpire p).wf = true) ∧ (acts s (Instr.nmRequestExpire p) = true) ∧
        (segState s p = 1 ∧ (seg s p).sinceNs + rdf s (R.GAF_NM_TIMES p) 31 16 * 1000000 ≤ s.devNs)) ∧
    (∃ (s : State), (acts s Instr.needEvaluate = true) ∧ (¬ (!rdb s R.GAF_NM_STATUS 0 || !startDone s))) :=
  ⟨⟨regState [(R.GAF_RUNG, 0)], 0, by decide⟩,
   ⟨regState [(R.GAF_RUNG, 0), (R.GAF_NM_SEG_CFG 0, 0)], 0, by decide⟩,
   ⟨regState [(R.GAF_RUNG, 0)], 0, by decide⟩,
   ⟨regState [(R.GAF_RUNG, 0)], 0, by decide⟩,
   ⟨{ regState [(R.GAF_RUNG, 0), (R.GAF_NM_SEG_STATE 0, 2 ^ 27)] with devNs := 20000000000 }, 0, by decide⟩,
   ⟨regState [(R.GAF_RUNG, 0), (R.GAF_NM_SEG_STATE 0, 2 ^ 27)], 0, by decide⟩,
   ⟨regState [(R.GAF_RUNG, 0)], 0, by decide⟩,
   ⟨{ regState [(R.GAF_RUNG, 0), (R.GAF_NM_SEG_STATE 0, 3 * 2 ^ 28)] with devNs := 10 ^ 12 }, 0, by decide⟩,
   ⟨{ regState [(R.GAF_RUNG, 0), (R.GAF_NM_SEG_STATE 0, 2 ^ 28)] with devNs := 10 ^ 12 }, 0, by decide⟩,
   ⟨regState [(R.GAF_RUNG, 0), (R.GAF_NM_STATUS, 1), (R.SVY_STATUS, 2)], by decide⟩⟩

theorem witness_LandAndPinCommandsComplete :
    (∃ (s : State) (k : Nat), ((Instr.soCooled k).wf = true) ∧ (acts s (Instr.soCooled k) = true) ∧ (¬ (rdf s
        (R.RXU_SO_STATE k) 31 28 ≠ 4))) ∧
    (∃ (s : State) (k : Nat) (ma : Nat) (mv : Nat) (testMv : Nat) (tempC : Int) (atLimit1ms : Bool) (mismatch1ms :
        Bool), ((Instr.soDiag k ma mv testMv tempC atLimit1ms mismatch1ms).wf = true) ∧ (acts s (Instr.soDiag k ma mv
        testMv tempC atLimit1ms mismatch1ms) = true)) ∧
    (∃ (s : State) (mv : List Nat), ((Instr.swSample mv).wf = true) ∧ (acts s (Instr.swSample mv) = true) ∧ (rung s ≤
        2)) ∧
    (∃ (s : State) (m : Nat), ((Instr.linInactivity m).wf = true) ∧ (acts s (Instr.linInactivity m) = true) ∧ (¬
        (linCommander s (36 + m) || !linRuns s (36 + m) || decide (s.devNs < (linChan s m).activeNs + 4000000000)))) ∧
    (∃ (s : State) (m : Nat), ((Instr.linGoToSleepRx m).wf = true) ∧ (acts s (Instr.linGoToSleepRx m) = true) ∧ (¬
        (linCommander s (36 + m) || !linRuns s (36 + m)))) ∧
    (∃ (s : State) (m : Nat), ((Instr.linBusStuck m).wf = true) ∧ (acts s (Instr.linBusStuck m) = true) ∧ (linRuns s
        (36 + m))) ∧
    (∃ (s : State) (m : Nat) (ident : Nat) (baud : Nat) (breakBits : Nat) (since : Nat) (readbackOk : Bool),
        ((Instr.linHeaderReceived m ident baud breakBits since readbackOk).wf = true) ∧ (acts s
        (Instr.linHeaderReceived m ident baud breakBits since readbackOk) = true)) ∧
    (∃ (s : State) (m : Nat), ((Instr.linNoResponse m).wf = true) ∧ (acts s (Instr.linNoResponse m) = true)) ∧
    (∃ (s : State) (m : Nat) (ident : Nat) (data : List Byte) (checksum : Byte) (framingErr : Bool) (room : Bool),
        ((Instr.linResponseReceived m ident data checksum framingErr room).wf = true) ∧ (acts s
        (Instr.linResponseReceived m ident data checksum framingErr room) = true)) ∧
    (∃ (s : State) (m : Nat) (readbackOk : Bool), ((Instr.linSlotStart m readbackOk).wf = true) ∧ (acts s
        (Instr.linSlotStart m readbackOk) = true)) ∧
    (∃ (s : State) (items : List SurveyItem), ((Instr.surveyComplete items).wf = true) ∧ (acts s (Instr.surveyComplete
        items) = true)) ∧
    (∃ (s : State), (acts s Instr.startConditionsEvaluate = true) ∧ (¬ (startDone s || !tsReached s))) ∧
    (∃ (s : State) (n : Nat), ((Instr.canRoleSwap n).wf = true) ∧ (acts s (Instr.canRoleSwap n) = true) ∧ ((canChan s
        n).swapPending && (s.sched.canTx.get? n).isNone)) ∧
    (∃ (s : State), (acts s Instr.polarityWindowEnd = true) ∧ (windowOver s)) ∧
    (∃ (s : State) (g : Nat) (results : List (Nat × Nat × Nat)), ((Instr.reflectometryDone g results).wf = true) ∧
        (acts s (Instr.reflectometryDone g results) = true)) ∧
    (∃ (s : State) (n : Nat), ((Instr.canTermNoIdle n).wf = true) ∧ (acts s (Instr.canTermNoIdle n) = true)) ∧
    (∃ (s : State) (n : Nat) (ohmX10 : Option Nat) (recH : Int) (recL : Int) (domDiff : Int) (st : Nat),
        ((Instr.canTermMeasureDone n ohmX10 recH recL domDiff st).wf = true) ∧ (acts s (Instr.canTermMeasureDone n
        ohmX10 recH recL domDiff st) = true)) ∧
    (∃ (s : State) (mainDie : Int) (phyDie : Int) (lineDie : Int) (lid : Int), ((Instr.tempMeasure mainDie phyDie
        lineDie lid).wf = true) ∧ (acts s (Instr.tempMeasure mainDie phyDie lineDie lid) = true)) ∧
    (∃ (s : State) (mv : Nat), ((Instr.supplyRange mv).wf = true) ∧ (acts s (Instr.supplyRange mv) = true) ∧ ((4500 ≤
        mv ∧ mv < 6000) ∨ (36000 < mv ∧ mv ≤ 58000))) ∧
    (∃ (s : State) (mvA : Int) (mvB : Int), ((Instr.feedLost mvA mvB).wf = true) ∧ (acts s (Instr.feedLost mvA mvB) =
        true) ∧ ((mvA < 5000 ∧ 6000 ≤ mvB) ∨ (mvB < 5000 ∧ 6000 ≤ mvA))) :=
  ⟨⟨regState [(R.GAF_RUNG, 0), (R.RXU_SO_STATE 0, 4 * 2 ^ 28)], 0, by decide⟩,
   ⟨regState [(R.GAF_RUNG, 0)], 0, 0, 0, 0, 0, false, false, by decide⟩,
   ⟨regState [(R.GAF_RUNG, 0)], List.replicate 8 0, by decide⟩,
   ⟨{ regState [(R.GAF_RUNG, 0), (R.PORT_LIN_STATE 36, 2 ^ 28), (R.PORT_LIN_CFG 36, 0)] with devNs := 4000000000 }, 0,
       by decide⟩,
   ⟨regState [(R.GAF_RUNG, 0), (R.PORT_LIN_STATE 36, 2 ^ 28), (R.PORT_LIN_CFG 36, 0)], 0, by decide⟩,
   ⟨regState [(R.GAF_RUNG, 0), (R.PORT_LIN_STATE 36, 2 ^ 28)], 0, by decide⟩,
   ⟨regState [(R.GAF_RUNG, 0)], 0, 0, 0, 0, 0, false, by decide⟩,
   ⟨regState [(R.GAF_RUNG, 0)], 0, by decide⟩,
   ⟨regState [(R.GAF_RUNG, 0)], 0, 0, [], 0, false, false, by decide⟩,
   ⟨regState [(R.GAF_RUNG, 0)], 0, false, by decide⟩,
   ⟨regState [(R.GAF_RUNG, 0)], [], by decide⟩,
   ⟨{ regState [(R.GAF_RUNG, 0), (R.UPD_SHEET_STATUS, 0), (R.GAF_UNITS, 0xFFF)] with devNs := 10 ^ 9, survey := { State.reset.survey with canEnded := 0xFFFF } }, by decide⟩,
   ⟨{ regState [(R.GAF_RUNG, 0)] with ports := { State.reset.ports with can := [(0, { canChan State.reset 0 with swapPending := true })] } }, 0, by decide⟩,
   ⟨{ regState [(R.GAF_RUNG, 0), (R.UPD_SHEET_STATUS, 0)] with devNs := 10 ^ 9 }, by decide⟩,
   ⟨regState [(R.GAF_RUNG, 0)], 0, [], by decide⟩,
   ⟨regState [(R.GAF_RUNG, 0)], 0, by decide⟩,
   ⟨regState [(R.GAF_RUNG, 0)], 0, none, 0, 0, 0, 0, by decide⟩,
   ⟨regState [(R.GAF_RUNG, 0)], 0, 0, 0, 0, by decide⟩,
   ⟨regState [(R.GAF_RUNG, 0)], 5000, by decide⟩,
   ⟨regState [(R.GAF_RUNG, 0)], 0, 12000, by decide⟩⟩

theorem witness_BridgingCommandsComplete :
    (∃ (s : State) (n : Nat) (dest : Nat), ((Instr.j1939RequestReceived n dest).wf = true) ∧ (acts s
        (Instr.j1939RequestReceived n dest) = true)) ∧
    (∃ (s : State) (n : Nat) (address : Nat) (name : BitVec 64), ((Instr.j1939ClaimReceived n address name).wf = true)
        ∧ (acts s (Instr.j1939ClaimReceived n address name) = true) ∧ (¬ (!rdb s (R.SGE_J1939 n) 31 ∨ address = 0xFE))) ∧
    (∃ (s : State) (n : Nat), ((Instr.j1939ClaimTimer n).wf = true) ∧ (acts s (Instr.j1939ClaimTimer n) = true)) ∧
    (∃ (s : State) (sess : Nat) (t : _), ((Instr.tpBamPacket sess).wf = true) ∧ (acts s (Instr.tpBamPacket sess) =
        true) ∧ (s.sge.tp.get? sess = some t) ∧ (t.st = 4 ∧ t.da = 255 ∧ recStopped s 5 t.record = false ∧ t.timerNs ≤
        s.devNs)) ∧
    (∃ (s : State) (sess : Nat) (t : _), ((Instr.tpTimerExpire sess).wf = true) ∧ (acts s (Instr.tpTimerExpire sess) =
        true) ∧ (s.sge.tp.get? sess = some t) ∧ (tpTimed t && !recStopped s 5 t.record && decide (t.timerNs ≤ s.devNs))) ∧
    (∃ (s : State) (cells : Ecc) (mem : Ecc), ((Instr.transportPacket cells mem).wf = true) ∧ (acts s
        (Instr.transportPacket cells mem) = true)) ∧
    (∃ (s : State) (l : Nat), ((Instr.pduRxTimeout l).wf = true) ∧ (acts s (Instr.pduRxTimeout l) = true)) ∧
    (∃ (s : State) (t : Nat) (ecc : Ecc), ((Instr.signalGroupApply t ecc).wf = true) ∧ (acts s (Instr.signalGroupApply
        t ecc) = true) ∧ (¬ (s.sge.stopped.testBit t))) ∧
    (∃ (s : State) (cells : Ecc) (mem : Ecc), ((Instr.signalFrame cells mem).wf = true) ∧ (acts s (Instr.signalFrame
        cells mem) = true)) ∧
    (∃ (s : State) (l : Nat), ((Instr.pduGapEnd l).wf = true) ∧ (acts s (Instr.pduGapEnd l) = true)) ∧
    (∃ (s : State) (l : Nat) (due : _), ((Instr.pduPeriodicTx l).wf = true) ∧ (acts s (Instr.pduPeriodicTx l) = true) ∧
        (pduDue s l = some due) ∧ (due ≤ s.devNs)) ∧
    (∃ (s : State) (cells : Ecc) (mem : Ecc), ((Instr.unpack1722 cells mem).wf = true) ∧ (acts s (Instr.unpack1722
        cells mem) = true)) ∧
    (∃ (s : State) (e : Nat), ((Instr.encapWindowExpire e).wf = true) ∧ (acts s (Instr.encapWindowExpire e) = true) ∧
        (!recStopped s 2 e && encDue s e && !encWaits s e)) ∧
    (∃ (s : State) (cells : Ecc) (mem : Ecc), ((Instr.encapMessage cells mem).wf = true) ∧ (acts s (Instr.encapMessage
        cells mem) = true)) ∧
    (∃ (s : State) (cells : Ecc) (mem : Ecc), ((Instr.canConvert cells mem).wf = true) ∧ (acts s (Instr.canConvert
        cells mem) = true)) :=
  ⟨⟨regState [(R.GAF_RUNG, 0)], 0, 0, by decide⟩,
   ⟨regState [(R.GAF_RUNG, 0), (R.SGE_J1939 0, 2 ^ 31)], 0, 0, 0, by decide⟩,
   ⟨regState [(R.GAF_RUNG, 0)], 0, by decide⟩,
   ⟨{ regState [(R.GAF_RUNG, 0)] with sge := { State.reset.sge with tp := [(0, ⟨0, 20, 0, 255, 0, 0, false, false, 4, 9, [], 1, 0, 0, 0, 0, 0, 0, 0, 0⟩)] } }, 0, ⟨0, 20, 0, 255, 0, 0, false, false, 4, 9, [], 1, 0, 0, 0, 0, 0, 0, 0, 0⟩, by decide⟩,
   ⟨{ regState [(R.GAF_RUNG, 0)] with sge := { State.reset.sge with tp := [(0, ⟨0, 20, 0, 1, 0, 0, false, false, 2, 9, [], 1, 0, 0, 0, 0, 0, 0, 0, 0⟩)] } }, 0, ⟨0, 20, 0, 1, 0, 0, false, false, 2, 9, [], 1, 0, 0, 0, 0, 0, 0, 0, 0⟩, by decide⟩,
   ⟨regState [(R.GAF_RUNG, 0)], .ok, .ok, by decide⟩,
   ⟨regState [(R.GAF_RUNG, 0)], 0, by decide⟩,
   ⟨regState [(R.GAF_RUNG, 0)], 0, .ok, by decide⟩,
   ⟨regState [(R.GAF_RUNG, 0)], .ok, .ok, by decide⟩,
   ⟨regState [(R.GAF_RUNG, 0)], 0, by decide⟩,
   ⟨regState [(R.GAF_RUNG, 0), (R.SGE_PDU_CFG 0, 0xE03F0000)], 0, 0, by decide⟩,
   ⟨regState [(R.GAF_RUNG, 0)], .ok, .ok, by decide⟩,
   ⟨{ regState [(R.GAF_RUNG, 0)] with devNs := 10 ^ 9, sge := { State.reset.sge with encOpen := [(0, ⟨[], 0, 0, 0, 0, 0⟩)] } }, 0, by decide⟩,
   ⟨regState [(R.GAF_RUNG, 0)], .ok, .ok, by decide⟩,
   ⟨regState [(R.GAF_RUNG, 0)], .ok, .ok, by decide⟩⟩

theorem witness_CanCommandsComplete :
    (∃ (s : State) (n : Nat) (nearPs : Nat) (farPs : Nat) (tdcv : Nat) (a : _), ((Instr.canTxSuccess n nearPs farPs
        tdcv).wf = true) ∧ (acts s (Instr.canTxSuccess n nearPs farPs tdcv) = true) ∧ (s.sched.canTx.get? n = some a) ∧
        (¬ (!canLive s n || tdcOver s n tdcv a))) ∧
    (∃ (s : State) (n : Nat) (frame : List Byte) (negative : Bool) (since : Nat) (dataPhase : Bool),
        ((Instr.canFrameReceived n frame negative since dataPhase).wf = true) ∧ (acts s (Instr.canFrameReceived n frame
        negative since dataPhase) = true)) ∧
    (∃ (n : Nat), ((Instr.canDriverCooled n).wf = true)) ∧
    (∃ (s : State) (n : Nat), ((Instr.canTrcvFault n).wf = true) ∧ (acts s (Instr.canTrcvFault n) = true)) ∧
    (∃ (s : State) (n : Nat), ((Instr.canTerminationApply n).wf = true) ∧ (acts s (Instr.canTerminationApply n) = true)
        ∧ (¬ (!(canChan s n).termPending))) ∧
    (∃ (s : State) (n : Nat), ((Instr.canIntegrated n).wf = true) ∧ (acts s (Instr.canIntegrated n) = true)) ∧
    (∃ (s : State) (n : Nat), ((Instr.canProtocolException n).wf = true) ∧ (acts s (Instr.canProtocolException n) =
        true)) ∧
    (∃ (s : State) (n : Nat), ((Instr.canDomTimeout n).wf = true) ∧ (acts s (Instr.canDomTimeout n) = true) ∧ (¬ (canSt
        s n = 0 ∨ canSt s n = 9))) ∧
    (∃ (s : State) (n : Nat), ((Instr.canRecoveryComplete n).wf = true) ∧ (acts s (Instr.canRecoveryComplete n) = true)
        ∧ (¬ (canSt s n ≠ 4))) ∧
    (∃ (s : State) (n : Nat) (kind : CanErr) (asTx : Bool) (domInPassiveFlag : Bool) (extra8 : Nat) (tdcv : Option Nat)
        (place : CanWhere), ((Instr.canErrorDetected n kind asTx domInPassiveFlag extra8 tdcv place).wf = true) ∧ (acts
        s (Instr.canErrorDetected n kind asTx domInPassiveFlag extra8 tdcv place) = true) ∧ (¬ (!canLive s n || (asTx
        && (s.sched.canTx.get? n).isNone)))) ∧
    (∃ (s : State) (n : Nat), ((Instr.lonelyProbe n).wf = true) ∧ (acts s (Instr.lonelyProbe n) = true)) ∧
    (∃ (s : State) (n : Nat), ((Instr.canArbitrationStart n).wf = true) ∧ (acts s (Instr.canArbitrationStart n) = true)) ∧
    (∃ (s : State) (n : Nat) (c : _), ((Instr.followupAbandon n).wf = true) ∧ (acts s (Instr.followupAbandon n) = true)
        ∧ ((canChan s n).clap = some c) ∧ (c.followup = true ∧ s.sched.canTx.get? n ≠ some .followup ∧ c.dueNs +
        10000000 ≤ s.devNs)) ∧
    (∃ (s : State) (n : Nat) (c : _), ((Instr.clapperAbandon n).wf = true) ∧ (acts s (Instr.clapperAbandon n) = true) ∧
        ((canChan s n).clap = some c) ∧ (c.followup = false ∧ s.sched.canTx.get? n ≠ some .sync ∧ c.dueNs + 10000000 ≤
        s.devNs)) ∧
    (∃ (s : State) (n : Nat) (t : _), ((Instr.clapperSyncDue n).wf = true) ∧ (acts s (Instr.clapperSyncDue n) = true) ∧
        (s.tim.clapNext.get? n = some t) ∧ (¬ (s.globalNs < t ∨ clapOn s n = false))) ∧
    (∃ (s : State) (n : Nat) (ecc : PoolEcc), ((Instr.canPqMove n ecc).wf = true) ∧ (acts s (Instr.canPqMove n ecc) =
        true)) :=
  ⟨⟨{ regState [(R.GAF_RUNG, 0), (R.PORT_CAN_STATE 20, 2 * 2 ^ 28)] with sched := { State.reset.sched with canTx := [(0, .copy ⟨0, 0, 0⟩)] } }, 0, 0, 0, 0, .copy ⟨0, 0, 0⟩, by decide⟩,
   ⟨regState [(R.GAF_RUNG, 0)], 0, [], false, 0, false, by decide⟩,
   ⟨0, by decide⟩,
   ⟨regState [(R.GAF_RUNG, 0)], 0, by decide⟩,
   ⟨{ regState [(R.GAF_RUNG, 0)] with ports := { State.reset.ports with can := [(0, { canChan State.reset 0 with termPending := true })] } }, 0, by decide⟩,
   ⟨regState [(R.GAF_RUNG, 0)], 0, by decide⟩,
   ⟨regState [(R.GAF_RUNG, 0)], 0, by decide⟩,
   ⟨regState [(R.GAF_RUNG, 0), (R.PORT_CAN_STATE 20, 2 * 2 ^ 28)], 0, by decide⟩,
   ⟨regState [(R.GAF_RUNG, 0), (R.PORT_CAN_STATE 20, 4 * 2 ^ 28)], 0, by decide⟩,
   ⟨regState [(R.GAF_RUNG, 0), (R.PORT_CAN_STATE 20, 2 * 2 ^ 28)], 0, .bit, false, false, 0, none, .elsewhere, by
       decide⟩,
   ⟨regState [(R.GAF_RUNG, 0)], 0, by decide⟩,
   ⟨regState [(R.GAF_RUNG, 0)], 0, by decide⟩,
   ⟨{ regState [(R.GAF_RUNG, 0)] with devNs := 10000000, ports := { State.reset.ports with can := [(0, { canChan State.reset 0 with clap := some ⟨true, 0, 0, 0, 0, false, none⟩ })] } }, 0, ⟨true, 0, 0, 0, 0, false, none⟩, by decide⟩,
   ⟨{ regState [(R.GAF_RUNG, 0)] with devNs := 10000000, ports := { State.reset.ports with can := [(0, { canChan State.reset 0 with clap := some ⟨false, 0, 0, 0, 0, false, none⟩ })] } }, 0, ⟨false, 0, 0, 0, 0, false, none⟩, by decide⟩,
   ⟨{ regState [(R.GAF_RUNG, 0), (R.PORT_CAN_CLAP 20, 2 ^ 31), (R.TIM_CLAP_CFG 0, 2 ^ 31)] with tim := { State.reset.tim with clapNext := [(0, 0)] } }, 0, 0, by decide⟩,
   ⟨regState [(R.GAF_RUNG, 0)], 0, .ok, by decide⟩⟩

theorem witness_ReactionAndRecorderCommandsComplete :
    (∃ (s : State) (b : Nat) (r : _), ((Instr.safeFrameLate b).wf = true) ∧ (acts s (Instr.safeFrameLate b) = true) ∧
        (s.rxu.frames.get? b = some r) ∧ (rdf s (R.RXU_SAFE_STATE b) 31 28 = 1 ∧ r.dueNs + 100000000 ≤ s.devNs)) ∧
    (∃ (s : State) (b : Nat) (r : _), ((Instr.safeFrameDue b).wf = true) ∧ (acts s (Instr.safeFrameDue b) = true) ∧
        (s.rxu.frames.get? b = some r) ∧ (¬ (!inSafe s || s.devNs < r.dueNs || rdf s (R.RXU_SAFE_STATE b) 31 28 == 2))) ∧
    (∃ (s : State) (t : _), (acts s Instr.faultnPulseDone = true) ∧ (s.rxu.safeSince = some t) ∧ (t + 1000000 ≤
        s.devNs)) ∧
    (∃ (s : State) (ecc : Ecc), ((Instr.rxuTableFault ecc).wf = true) ∧ (acts s (Instr.rxuTableFault ecc) = true)) ∧
    (∃ (s : State) (l : Nat) (registered : Bool), ((Instr.lineTest l registered).wf = true) ∧ (acts s (Instr.lineTest l
        registered) = true) ∧ (¬ (!lineTurn s l))) ∧
    (∃ (s : State) (l : Nat), ((Instr.shadowSettleEnd l).wf = true) ∧ (acts s (Instr.shadowSettleEnd l) = true)) ∧
    (∃ (s : State) (l : Nat) (a : _), ((Instr.reactionEscalate l).wf = true) ∧ (acts s (Instr.reactionEscalate l) =
        true) ∧ (resetting s l = some a) ∧ (¬ (s.devNs < a.startNs + rdf s (R.RXU_ENTRY_CFG l) 15 0 * 1000000 ∨
        readyWaits s l = true))) ∧
    (∃ (s : State) (l : Nat), ((Instr.resetUnitDone l).wf = true) ∧ (acts s (Instr.resetUnitDone l) = true) ∧
        ((resetting s l).isSome)) ∧
    (∃ (s : State) (l : Nat), ((Instr.faultLineDeassert l).wf = true) ∧ (acts s (Instr.faultLineDeassert l) = true) ∧
        (isLevelLine l)) ∧
    (∃ (s : State) (l : Nat), ((Instr.faultLineAssert l).wf = true) ∧ (acts s (Instr.faultLineAssert l) = true)) ∧
    (∃ (s : State) (nandOk : Bool) (corrected : Nat) (lost : List (Nat × Nat)), ((Instr.freezeComplete nandOk corrected
        lost).wf = true) ∧ (acts s (Instr.freezeComplete nandOk corrected lost) = true) ∧ (rdf s R.REC_STATUS 31 28 =
        3)) ∧
    (∃ (s : State) (w : _), (acts s Instr.windowEnd = true) ∧ (s.recd.window = some w) ∧ (rdf s R.REC_STATUS 31 28 = 2
        ∧ w.endNs ≤ s.devNs)) ∧
    (∃ (s : State), (acts s Instr.traceSampleAdjust = true)) ∧
    (∃ (s : State) (ring : Nat) (g : _), ((Instr.gapRecord ring).wf = true) ∧ (acts s (Instr.gapRecord ring) = true) ∧
        (s.recd.gaps.get? ring = some g)) :=
  ⟨⟨{ regState [(R.GAF_RUNG, 0), (R.RXU_SAFE_STATE 0, 2 ^ 28)] with devNs := 100000000, rxu := { State.reset.rxu with frames := [(0, ⟨0, 0⟩)] } }, 0, ⟨0, 0⟩, by decide⟩,
   ⟨{ regState [(R.GAF_RUNG, 0), (R.RXU_STATUS, 2 ^ 28)] with rxu := { State.reset.rxu with frames := [(0, ⟨0, 0⟩)] } }, 0, ⟨0, 0⟩, by decide⟩,
   ⟨{ regState [(R.GAF_RUNG, 0)] with devNs := 1000000, rxu := { State.reset.rxu with safeSince := some 0 } }, 0, by
       decide⟩,
   ⟨regState [(R.GAF_RUNG, 0)], .ok, by decide⟩,
   ⟨regState [(R.GAF_RUNG, 0)], 0, false, by decide⟩,
   ⟨regState [(R.GAF_RUNG, 0)], 0, by decide⟩,
   ⟨{ regState [(R.GAF_RUNG, 0)] with devNs := 10 ^ 12, rxu := { State.reset.rxu with actions := [⟨0, 1, 0, none⟩] } },
       0, ⟨0, 1, 0, none⟩, by decide⟩,
   ⟨{ regState [(R.GAF_RUNG, 0)] with rxu := { State.reset.rxu with actions := [⟨0, 1, 0, none⟩] } }, 0, by decide⟩,
   ⟨regState [(R.GAF_RUNG, 0)], 64, by decide⟩,
   ⟨regState [(R.GAF_RUNG, 0)], 0, by decide⟩,
   ⟨regState [(R.GAF_RUNG, 0), (R.REC_STATUS, 3 * 2 ^ 28)], false, 0, [], by decide⟩,
   ⟨{ regState [(R.GAF_RUNG, 0), (R.REC_STATUS, 2 * 2 ^ 28)] with recd := { State.reset.recd with window := some ⟨0, 0, 0⟩ } }, ⟨0, 0, 0⟩, by decide⟩,
   ⟨regState [(R.GAF_RUNG, 0)], by decide⟩,
   ⟨{ regState [(R.GAF_RUNG, 0)] with recd := { State.reset.recd with gaps := [(1, ⟨1, 32, 0, 0, 1⟩)] } }, 1, ⟨1, 32,
       0, 0, 1⟩, by decide⟩⟩

theorem witness_PowerLadderCommandsComplete :
    (∃ (s : State) (mv : Nat), ((Instr.lowBattCheck mv).wf = true) ∧ (¬ (s.gaf.inReset || !(rung s == 3 || rung s == 4)
        || moving s || rdf s R.GAF_BATT 31 16 == 0 || wakePends s))) ∧
    (∃ (s : State), (¬ (s.gaf.inReset || !s.gaf.alarmNs.any (fun t => decide (t ≤ s.devNs))))) ∧
    (∃ (s : State), (acts s Instr.hostWakeTimeout = true)) ∧
    (∃ (s : State) (low : Bool), ((Instr.wakeReqNFall low).wf = true) ∧ (¬ (s.gaf.inReset || !wakeSeen s .wakeReq))) ∧
    (∃ (s : State) (k : Nat) (mv : Nat), ((Instr.swWakePoll k mv).wf = true) ∧ (¬ (s.gaf.inReset || decide (rung s < 3)
        || !swUsed s k || rdf s (R.GAF_SW_CFG k) 31 30 == 0))) ∧
    (∃ (s : State) (src : WakeSource), ((Instr.wakeDetected src).wf = true) ∧ (¬ (s.gaf.inReset || !wakeSeen s src))) ∧
    (∃ (s : State) (resumeDigestOk : Bool) (kt : List (Nat × Ecc)), ((Instr.resumeComplete resumeDigestOk kt).wf =
        true) ∧ (¬ (!s.gaf.resuming))) ∧
    (∃ (s : State), (acts s Instr.holdExitBeforeSchedule = true) ∧ (dueSoon s)) ∧
    (∃ (s : State), (acts s Instr.holdEnter = true) ∧ (¬ (s.gaf.inReset || s.gaf.resuming || moving s || decide (rung s
        ≠ 0) || decide (evaluated s = 0) || !holdReady s))) ∧
    (∃ (s : State) (slow : Bool), ((Instr.rungReached slow).wf = true) ∧ (¬ (!moving s))) ∧
    (∃ (s : State), (¬ (s.gaf.inReset || s.gaf.resuming || moving s || !dwellDone s || segLeaves s))) ∧
    (∃ (s : State) (wakeReqN : Option Bool), ((Instr.rungEvaluate wakeReqN).wf = true) ∧ (¬ s.gaf.inReset)) ∧
    (∃ (s : State) (unit : Nat) (regulated : Bool) (waited : Bool) (microOk : Bool) (rail : MainRail),
        ((Instr.unitPowerStep unit regulated waited microOk rail).wf = true) ∧ (acts s (Instr.unitPowerStep unit
        regulated waited microOk rail) = true) ∧ (¬ (s.gaf.inReset || rdb s R.GAF_UNITS (16 + unit) || !unitTurn s
        unit))) ∧
    (∃ (s : State) (tstDriven : Bool) (entropyFails : Nat), ((Instr.reservoirCharged tstDriven entropyFails).wf = true)
        ∧ (acts s (Instr.reservoirCharged tstDriven entropyFails) = true) ∧ (¬ (s.gaf.inReset || rdb s R.VLT_STATUS
        25))) ∧
    (∃ (s : State) (regulated : Bool), ((Instr.coreRailRetry regulated).wf = true) ∧ (¬ (!s.gaf.inReset || !railHeld s
        || decide (s.devNs < s.gaf.moveNs + 1000000000)))) ∧
    (∃ (s : State) (mv : Nat) (heldMs : Nat), ((Instr.powerRestart mv heldMs).wf = true) ∧ (s.gaf.inReset && !railHeld
        s && decide (6500 < mv ∧ 10 ≤ heldMs))) ∧
    (∃ (mv : Nat) (lowMs : Nat), ((Instr.powerFail mv lowMs).wf = true) ∧ (mv < 4500 ∨ (mv < 6000 ∧ 100 < lowMs))) ∧
    (∃ (s : State) (mv : Nat) (tstDriven : Bool) (meshBroken : Bool) (reservoirLow : Bool) (entropyFails : Nat) (kt :
        List (Nat × Ecc)), ((Instr.powerOn mv tstDriven meshBroken reservoirLow entropyFails kt).wf = true) ∧
        (s.gaf.inReset && !railHeld s && decide (6500 ≤ mv))) :=
  ⟨⟨regState [(R.GAF_RUNG, 3), (R.GAF_BATT, 11000 * 2 ^ 16 + 5)], 0, by decide⟩,
   ⟨{ regState [] with gaf := { (regState []).gaf with alarmNs := some 0 } }, by decide⟩,
   ⟨regState [(R.GAF_RUNG, 0)], by decide⟩,
   ⟨regState [(R.GAF_RUNG, 3)], false, by decide⟩,
   ⟨regState [(R.GAF_RUNG, 3), (R.GAF_SW_CFG 0, 2 ^ 30)], 0, 0, by decide⟩,
   ⟨regState [(R.GAF_RUNG, 3)], .wakeReq, by decide⟩,
   ⟨{ regState [] with gaf := { (regState []).gaf with resuming := true } }, false, [], by decide⟩,
   ⟨{ regState [(R.GAF_RUNG, 1)] with gaf := { (regState []).gaf with alarmNs := some 0 } }, by decide⟩,
   ⟨{ regState [(R.GAF_RUNG, 0x5000), (R.GAF_RUNG_LIMIT, 5), (R.SVY_STATUS, 2), (R.GAF_NM_STATUS, 3), (R.GAF_HOST, 4), (R.GAF_SCENE_DEEPEST 0, 0x55555555)] with devNs := 10 ^ 12 }, by decide⟩,
   ⟨regState [(R.GAF_RUNG, 0x100)], false, by decide⟩,
   ⟨{ regState [(R.GAF_RUNG, 0x5000), (R.GAF_RUNG_LIMIT, 5), (R.SVY_STATUS, 2), (R.GAF_NM_STATUS, 3), (R.GAF_HOST, 4), (R.GAF_SCENE_DEEPEST 0, 0x55555555)] with devNs := 10 ^ 18 }, by decide⟩,
   ⟨regState [(R.GAF_RUNG, 0)], none, by decide⟩,
   ⟨regState [(R.GAF_RUNG, 0), (R.GAF_UNITS, 7)], 3, false, false, false, .core, by decide⟩,
   ⟨regState [(R.GAF_RUNG, 0), (R.VLT_STATUS, 0)], false, 0, by decide⟩,
   ⟨{ State.reset with devNs := 1000000000, gaf := { State.reset.gaf with retried := 4 } }, false, by decide⟩,
   ⟨State.reset, 12000, 10, by decide⟩,
   ⟨4000, 0, by decide⟩,
   ⟨State.reset, 12000, false, false, false, 0, [], by decide⟩⟩

theorem witness_SheetAndUpdateCommandsComplete :
    (∃ (s : State), (acts s Instr.attestReady = true) ∧ (¬ (!rdb s R.ATT_STATUS 0 || s.gaf.resLow))) ∧
    (∃ (s : State), (acts s Instr.stohalStatus = true)) ∧
    (∃ (s : State), (acts s Instr.stohalConfirm = true)) ∧
    (∃ (s : State), (acts s Instr.stohalActivate = true)) ∧
    (∃ (s : State), (acts s Instr.stohalEnd = true)) ∧
    (∃ (s : State), (acts s Instr.stohalCommit = true)) ∧
    (∃ (s : State) (seq : Nat) (data : List Byte), ((Instr.stohalData seq data).wf = true) ∧ (acts s (Instr.stohalData
        seq data) = true) ∧ (¬ (sessOwner s ≠ 4 ∨ s.upd.dl.isNone = true))) ∧
    (∃ (s : State) (offset : Nat), ((Instr.stohalOpen offset).wf = true) ∧ (acts s (Instr.stohalOpen offset) = true)) ∧
    (∃ (s : State) (doip : Bool) (sid : Nat), ((Instr.udsUnsupportedService doip sid).wf = true) ∧ (acts s
        (Instr.udsUnsupportedService doip sid) = true)) ∧
    (∃ (s : State) (doip : Bool), ((Instr.udsTransferExit doip).wf = true) ∧ (acts s (Instr.udsTransferExit doip) =
        true)) ∧
    (∃ (s : State) (doip : Bool) (seq : Nat) (data : List Byte), ((Instr.udsTransferData doip seq data).wf = true) ∧
        (acts s (Instr.udsTransferData doip seq data) = true)) ∧
    (∃ (s : State) (doip : Bool) (fmt : Nat) (alfid : Nat) (address : Nat) (size : Nat), ((Instr.udsRequestDownload
        doip fmt alfid address size).wf = true) ∧ (acts s (Instr.udsRequestDownload doip fmt alfid address size) =
        true)) ∧
    (∃ (s : State) (doip : Bool) (routine : Nat), ((Instr.udsRoutineResults doip routine).wf = true) ∧ (acts s
        (Instr.udsRoutineResults doip routine) = true)) ∧
    (∃ (s : State) (doip : Bool), ((Instr.udsRoutineConfirm doip).wf = true) ∧ (acts s (Instr.udsRoutineConfirm doip) =
        true)) ∧
    (∃ (s : State) (doip : Bool), ((Instr.udsRoutineActivate doip).wf = true) ∧ (acts s (Instr.udsRoutineActivate doip)
        = true)) ∧
    (∃ (s : State) (doip : Bool), ((Instr.udsRoutineVerify doip).wf = true) ∧ (acts s (Instr.udsRoutineVerify doip) =
        true)) ∧
    (∃ (s : State) (doip : Bool) (did : Nat) (value : Nat), ((Instr.udsWriteDid doip did value).wf = true) ∧ (acts s
        (Instr.udsWriteDid doip did value) = true)) ∧
    (∃ (s : State) (doip : Bool) (did : Nat), ((Instr.udsReadDid doip did).wf = true) ∧ (acts s (Instr.udsReadDid doip
        did) = true)) ∧
    (∃ (s : State) (doip : Bool) (sub : Nat), ((Instr.udsEcuReset doip sub).wf = true) ∧ (acts s (Instr.udsEcuReset
        doip sub) = true)) ∧
    (∃ (s : State) (doip : Bool) (sub : Nat), ((Instr.udsSessionControl doip sub).wf = true) ∧ (acts s
        (Instr.udsSessionControl doip sub) = true)) ∧
    (∃ (s : State) (tester : Nat), ((Instr.doipRoutingActivation tester).wf = true) ∧ (acts s
        (Instr.doipRoutingActivation tester) = true)) ∧
    (∃ (s : State), (acts s Instr.actTimeReached = true) ∧ (¬ (!actChecked s || !tickEdge s || (decide (edgeGlobal s <
        actTimeNs s) && !s.upd.crossed) || takeCode (takeNo (1 - activeTake s) s) != 3))) ∧
    (∃ (s : State), (acts s Instr.actPrepare = true) ∧ (actChecked s && decide (actTimeNs s ≤ s.globalNs + 2000000000))) ∧
    (∃ (s : State), (acts s Instr.autoConfirm = true) ∧ (inTrial s && !trialOver s && rdf s R.UPD_POLICY 7 0 == 1 &&
        decide (rd s R.UPD_AUTO_S ≤ rd s R.UPD_TRIAL) && s.upd.bootGood && !s.upd.trialSafe && !(safeAsserts s &&
        !inSafe s))) ∧
    (∃ (s : State), (acts s Instr.trialDeadline = true) ∧ (inTrial s && trialOver s)) ∧
    (∃ (s : State), (acts s Instr.trialClockSave = true) ∧ (inTrial s ∧ s.upd.clockSaved + 600 ≤ rd s R.UPD_TRIAL)) ∧
    (∃ (s : State), (acts s Instr.bootGood = true) ∧ (startDone s && rdf s R.UPD_SHEET_STATUS 19 18 == 0 && decide
        (s.devNs ≤ s.survey.t0Ns + 60000000000))) ∧
    (∃ (s : State), (acts s Instr.moduleReset = true) ∧ (s.upd.restart.any (fun t => decide (t ≤ s.devNs)) &&
        !s.gaf.inReset)) ∧
    (∃ (s : State), (acts s Instr.sessionTimeout = true)) ∧
    (∃ (s : State) (src : _), (acts s Instr.takeVerifyDone = true) ∧ (s.upd.verifying = some src) ∧ (¬ (src = 0 ∧
        startDone s = false))) ∧
    (∃ (s : State) (programOk : Bool) (lost : Nat), ((Instr.chunkCommitted programOk lost).wf = true) ∧ (acts s
        (Instr.chunkCommitted programOk lost) = true)) ∧
    (∃ (s : State), (acts s Instr.sceneSwitch = true) ∧ (sceneDue s = true)) ∧
    (∃ (s : State) (req : Requester) (target : Nat), ((Instr.sceneRequest req target).wf = true) ∧ (acts s
        (Instr.sceneRequest req target) = true)) ∧
    (∃ (s : State), (acts s Instr.sheetLoad = true) ∧ (¬ (sheetLive s || s.gaf.inReset || s.gaf.resuming || loaderOnly
        s || decide (rung s ≠ 0)))) :=
  ⟨⟨regState [(R.GAF_RUNG, 0), (R.ATT_STATUS, 1)], by decide⟩,
   ⟨regState [(R.GAF_RUNG, 0)], by decide⟩,
   ⟨regState [(R.GAF_RUNG, 0)], by decide⟩,
   ⟨regState [(R.GAF_RUNG, 0)], by decide⟩,
   ⟨regState [(R.GAF_RUNG, 0)], by decide⟩,
   ⟨regState [(R.GAF_RUNG, 0)], by decide⟩,
   ⟨{ regState [(R.GAF_RUNG, 0), (R.UPD_STATUS, 4 * 2 ^ 20)] with upd := { State.reset.upd with dl := some 0 } }, 0,
       [], by decide⟩,
   ⟨regState [(R.GAF_RUNG, 0)], 0, by decide⟩,
   ⟨regState [(R.GAF_RUNG, 0)], false, 0, by decide⟩,
   ⟨regState [(R.GAF_RUNG, 0)], false, by decide⟩,
   ⟨regState [(R.GAF_RUNG, 0)], false, 0, [], by decide⟩,
   ⟨regState [(R.GAF_RUNG, 0)], false, 0, 0, 0, 0, by decide⟩,
   ⟨regState [(R.GAF_RUNG, 0)], false, 0, by decide⟩,
   ⟨regState [(R.GAF_RUNG, 0)], false, by decide⟩,
   ⟨regState [(R.GAF_RUNG, 0)], false, by decide⟩,
   ⟨regState [(R.GAF_RUNG, 0)], false, by decide⟩,
   ⟨regState [(R.GAF_RUNG, 0)], false, 0, 0, by decide⟩,
   ⟨regState [(R.GAF_RUNG, 0)], false, 0, by decide⟩,
   ⟨regState [(R.GAF_RUNG, 0)], false, 0, by decide⟩,
   ⟨regState [(R.GAF_RUNG, 0)], false, 0, by decide⟩,
   ⟨regState [(R.GAF_RUNG, 0)], 0, by decide⟩,
   ⟨{ regState [(R.UPD_STATUS, 2), (R.GAF_RUNG, 0), (R.TIM_STATUS, 0x40)] with globalNs := 10 ^ 20, upd := { State.reset.upd with takeB := ⟨0, [], [[]], true, true, false⟩ } }, by decide⟩,
   ⟨{ regState [(R.UPD_STATUS, 2), (R.GAF_RUNG, 0), (R.TIM_STATUS, 0x40)] with globalNs := 10 ^ 20 }, by decide⟩,
   ⟨{ regState [(R.GAF_RUNG, 0), (R.UPD_TRIAL_S, 1000), (R.UPD_AUTO_S, 0), (R.UPD_TRIAL, 0), (R.UPD_POLICY, 1)] with upd := { State.reset.upd with takeA := { State.reset.upd.takeA with mark := 4 }, bootGood := true } }, by decide⟩,
   ⟨{ regState [(R.GAF_RUNG, 0), (R.UPD_TRIAL_S, 10), (R.UPD_TRIAL, 10)] with upd := { State.reset.upd with takeA := { State.reset.upd.takeA with mark := 4 } } }, by decide⟩,
   ⟨{ regState [(R.GAF_RUNG, 0), (R.UPD_TRIAL, 600)] with upd := { State.reset.upd with takeA := { State.reset.upd.takeA with mark := 4 } } }, by decide⟩,
   ⟨regState [(R.GAF_RUNG, 0), (R.SVY_STATUS, 2), (R.UPD_SHEET_STATUS, 0)], by decide⟩,
   ⟨{ regState [(R.GAF_RUNG, 0)] with upd := { State.reset.upd with restart := some 0 } }, by decide⟩,
   ⟨regState [(R.GAF_RUNG, 0)], by decide⟩,
   ⟨{ regState [(R.GAF_RUNG, 0)] with upd := { State.reset.upd with verifying := some 1 } }, 1, by decide⟩,
   ⟨regState [(R.GAF_RUNG, 0)], false, 0, by decide⟩,
   ⟨regState [(R.GAF_RUNG, 0), (R.UPD_SCENE, 0x100)], by decide⟩,
   ⟨regState [(R.GAF_RUNG, 0)], .safetyPair, 0, by decide⟩,
   ⟨regState [(R.GAF_RUNG, 0)], by decide⟩⟩

theorem witness_HostAccessCommandsComplete :
    (∃ (s : State) (req : Requester) (slot : Nat) (val : Word), ((Instr.cpInject req slot val).wf = true) ∧ (acts s
        (Instr.cpInject req slot val) = true) ∧ (unserved req s = false)) ∧
    (∃ (s : State), (acts s Instr.mbxFirmwareTimeout = true) ∧ (mbxForLyesh s && decide (s.host.mbxSince + 1000000000 ≤
        s.devNs))) ∧
    (∃ (s : State) (req : Requester) (val : Word), ((Instr.mbxAnswer req val).wf = true) ∧ (acts s (Instr.mbxAnswer req
        val) = true) ∧ (unserved req s = false)) ∧
    (∃ (s : State) (req : Requester) (val : Word), ((Instr.mbxOther req val).wf = true) ∧ (acts s (Instr.mbxOther req
        val) = true) ∧ (unserved req s = false)) ∧
    (∃ (s : State) (req : Requester) (val : Word), ((Instr.mbxFirmware req val).wf = true) ∧ (acts s (Instr.mbxFirmware
        req val) = true) ∧ (unserved req s = false)) ∧
    (∃ (s : State) (req : Requester) (val : Word), ((Instr.mbxInvalidate req val).wf = true) ∧ (acts s
        (Instr.mbxInvalidate req val) = true) ∧ (unserved req s = false)) ∧
    (∃ (s : State) (req : Requester) (val : Word), ((Instr.mbxScene req val).wf = true) ∧ (acts s (Instr.mbxScene req
        val) = true) ∧ (unserved req s = false)) ∧
    (∃ (s : State) (v : Nat) (x : _), ((Instr.evtHoldoffExpire v).wf = true) ∧ (acts s (Instr.evtHoldoffExpire v) =
        true) ∧ (s.router.vecs.get? v = some x) ∧ (x.lastNs + rdf s R.EVT_VEC_HOLDOFF 15 0 * 1000 ≤ s.devNs ∧ x.owed =
        true)) ∧
    (∃ (s : State), (acts s Instr.evtTickPush = true)) ∧
    (∃ (s : State) (req : Requester) (t : Nat) (dwords : Nat) (be : BitVec 4), ((Instr.evtFifoPop req t dwords be).wf =
        true) ∧ (acts s (Instr.evtFifoPop req t dwords be) = true) ∧ (unserved req s = false)) ∧
    (∃ (s : State) (req : Requester) (w : Nat) (val : Word) (ecc : PoolEcc), ((Instr.frameSelect req w val ecc).wf =
        true) ∧ (acts s (Instr.frameSelect req w val ecc) = true) ∧ (unserved req s = false)) ∧
    (∃ (s : State) (req : Requester) (val : Word), ((Instr.cplFree req val).wf = true) ∧ (acts s (Instr.cplFree req
        val) = true) ∧ (unserved req s = false)) ∧
    (∃ (s : State) (req : Requester) (k : Nat) (dwords : Nat) (be : BitVec 4) (ecc : PoolEcc), ((Instr.cplPopRead req k
        dwords be ecc).wf = true) ∧ (acts s (Instr.cplPopRead req k dwords be ecc) = true) ∧ (unserved req s = false)) ∧
    (∃ (s : State) (req : Requester) (val : Word), ((Instr.stallLimitWrite req val).wf = true) ∧ (acts s
        (Instr.stallLimitWrite req val) = true) ∧ (unserved req s = false)) ∧
    (∃ (s : State) (req : Requester) (x : _), ((Instr.popStallExpire req).wf = true) ∧ (acts s (Instr.popStallExpire
        req) = true) ∧ (s.router.stalls.find? (fun x => x.req == req) = some x) ∧ (x.sinceNs + stallNs s ≤ s.devNs)) ∧
    (∃ (s : State), (acts s Instr.transportRingWaitExpire = true)) ∧
    (∃ (s : State) (k : Nat), ((Instr.tsReqTimeout k).wf = true) ∧ (acts s (Instr.tsReqTimeout k) = true)) ∧
    (∃ (s : State) (k : Nat) (u : _), ((Instr.completionCoalesceExpire k).wf = true) ∧ (acts s
        (Instr.completionCoalesceExpire k) = true) ∧ (s.host.unsig.get? k = some u) ∧ (u.2 + rdf s (R.HDMA_RING_CTRL k)
        15 0 * 1000 ≤ s.devNs)) ∧
    (∃ (s : State) (k : Nat), ((Instr.ringDmaError k).wf = true) ∧ (acts s (Instr.ringDmaError k) = true) ∧
        (ringRunning s k)) ∧
    (∃ (s : State) (k : Nat) (data : List Byte) (ecc : Ecc), ((Instr.hostDescFetch k data ecc).wf = true) ∧ (acts s
        (Instr.hostDescFetch k data ecc) = true)) ∧
    (∃ (s : State) (gen : Nat) (width : Nat) (bme : Bool), ((Instr.pcieLinkUp gen width bme).wf = true) ∧ (acts s
        (Instr.pcieLinkUp gen width bme) = true) ∧ (¬ (s.gaf.inReset ∨ 2 < rung s))) ∧
    (∃ (s : State), (acts s Instr.pcieReset = true)) :=
  ⟨⟨regState [(R.GAF_RUNG, 0)], .safetyPair, 0, 0, by decide⟩,
   ⟨{ regState [(R.GAF_RUNG, 0), (R.HDMA_MBX_STATUS, 2 ^ 31)] with devNs := 1000000000 }, by decide⟩,
   ⟨regState [(R.GAF_RUNG, 0)], .safetyPair, 0, by decide⟩,
   ⟨regState [(R.GAF_RUNG, 0)], .safetyPair, 0, by decide⟩,
   ⟨regState [(R.GAF_RUNG, 0)], .safetyPair, 0, by decide⟩,
   ⟨regState [(R.GAF_RUNG, 0)], .safetyPair, 0, by decide⟩,
   ⟨regState [(R.GAF_RUNG, 0)], .safetyPair, 0, by decide⟩,
   ⟨{ regState [(R.GAF_RUNG, 0)] with devNs := 10 ^ 9, router := { State.reset.router with vecs := [(0, ⟨0, true⟩)] } }, 0, ⟨0, true⟩, by decide⟩,
   ⟨regState [(R.GAF_RUNG, 0)], by decide⟩,
   ⟨regState [(R.GAF_RUNG, 0)], .safetyPair, 0, 0, 15, by decide⟩,
   ⟨regState [(R.GAF_RUNG, 0)], .safetyPair, 0, 0, .ok, by decide⟩,
   ⟨regState [(R.GAF_RUNG, 0)], .safetyPair, 0, by decide⟩,
   ⟨regState [(R.GAF_RUNG, 0)], .safetyPair, 0, 0, 15, .ok, by decide⟩,
   ⟨regState [(R.GAF_RUNG, 0)], .safetyPair, 0, by decide⟩,
   ⟨{ regState [(R.GAF_RUNG, 0)] with devNs := 10 ^ 9, router := { State.reset.router with stalls := [⟨.safetyPair, true, 1, 0, 15⟩] } }, .safetyPair, ⟨.safetyPair, true, 1, 0, 15⟩, by decide⟩,
   ⟨regState [(R.GAF_RUNG, 0)], by decide⟩,
   ⟨regState [(R.GAF_RUNG, 0)], 0, by decide⟩,
   ⟨{ regState [(R.GAF_RUNG, 0)] with devNs := 10 ^ 9, host := { State.reset.host with unsig := [(0, (1, 0))] } }, 0,
       (1, 0), by decide⟩,
   ⟨regState [(R.GAF_RUNG, 0), (R.HDMA_RING_STATE 0, 2 ^ 28)], 0, by decide⟩,
   ⟨regState [(R.GAF_RUNG, 0)], 0, [], .ok, by decide⟩,
   ⟨regState [(R.GAF_RUNG, 0)], 1, 4, false, by decide⟩,
   ⟨regState [(R.GAF_RUNG, 0)], by decide⟩⟩

theorem witness_RegisterAndSpiCommandsComplete :
    (∃ (s : State) (req : Requester) (addr : Nat) (be : BitVec 4) (dwords : Nat), ((Instr.hostReservedRead req addr be
        dwords).wf = true) ∧ (acts s (Instr.hostReservedRead req addr be dwords) = true) ∧ (unserved req s = false)) ∧
    (∃ (s : State), (acts s Instr.spiStatus = true)) ∧
    (∃ (s : State) (addr : Nat) (count : Nat) (ready : Bool) (wait : Nat), ((Instr.spiRead addr count ready wait).wf =
        true) ∧ (acts s (Instr.spiRead addr count ready wait) = true) ∧ (unserved .spi s = false)) ∧
    (∃ (s : State) (addr : Nat) (words : List Word) (cutShort : Bool), ((Instr.spiWrite addr words cutShort).wf = true)
        ∧ (acts s (Instr.spiWrite addr words cutShort) = true) ∧ (unserved .spi s = false)) ∧
    (∃ (s : State) (req : Requester) (addr : Nat) (be : BitVec 4) (val : Word), ((Instr.registerWrite req addr be
        val).wf = true) ∧ (acts s (Instr.registerWrite req addr be val) = true) ∧ (¬ (be ≠ 15))) ∧
    (∃ (s : State) (k : Nat) (prod : Nat), ((Instr.ringDoorbell k prod).wf = true) ∧ (acts s (Instr.ringDoorbell k
        prod) = true) ∧ (unserved .hostPcie s = false)) ∧
    (∃ (s : State) (req : Requester) (val : Word), ((Instr.gafAlarmWrite req val).wf = true) ∧ (acts s
        (Instr.gafAlarmWrite req val) = true) ∧ (unserved req s = false)) ∧
    (∃ (s : State) (req : Requester) (val : Word), ((Instr.hostWakeAck req val).wf = true) ∧ (acts s (Instr.hostWakeAck
        req val) = true) ∧ (unserved req s = false)) ∧
    (∃ (s : State) (req : Requester) (val : Word), ((Instr.gafRungLimitWrite req val).wf = true) ∧ (acts s
        (Instr.gafRungLimitWrite req val) = true) ∧ (unserved req s = false)) ∧
    (∃ (s : State) (req : Requester) (k : Nat) (val : Word), ((Instr.ringDisable req k val).wf = true) ∧ (acts s
        (Instr.ringDisable req k val) = true) ∧ (unserved req s = false)) ∧
    (∃ (s : State) (req : Requester) (k : Nat) (val : Word), ((Instr.ringEnable req k val).wf = true) ∧ (acts s
        (Instr.ringEnable req k val) = true) ∧ (unserved req s = false)) ∧
    (∃ (s : State) (req : Requester), ((Instr.updAttest req).wf = true) ∧ (acts s (Instr.updAttest req) = true) ∧
        (unserved req s = false)) ∧
    (∃ (s : State) (req : Requester), ((Instr.updRestart req).wf = true) ∧ (acts s (Instr.updRestart req) = true) ∧
        (unserved req s = false)) ∧
    (∃ (s : State) (req : Requester), ((Instr.updDiscard req).wf = true) ∧ (acts s (Instr.updDiscard req) = true) ∧
        (unserved req s = false)) ∧
    (∃ (s : State) (req : Requester), ((Instr.updConfirm req).wf = true) ∧ (acts s (Instr.updConfirm req) = true) ∧
        (unserved req s = false)) ∧
    (∃ (s : State) (req : Requester), ((Instr.updActivate req).wf = true) ∧ (acts s (Instr.updActivate req) = true) ∧
        (unserved req s = false)) ∧
    (∃ (s : State) (req : Requester), ((Instr.updVerify req).wf = true) ∧ (acts s (Instr.updVerify req) = true) ∧
        (unserved req s = false)) ∧
    (∃ (s : State) (req : Requester), ((Instr.updCommit req).wf = true) ∧ (acts s (Instr.updCommit req) = true) ∧
        (unserved req s = false)) ∧
    (∃ (s : State) (req : Requester), ((Instr.updClose req).wf = true) ∧ (acts s (Instr.updClose req) = true) ∧
        (unserved req s = false)) ∧
    (∃ (s : State) (req : Requester), ((Instr.updOpen req).wf = true) ∧ (acts s (Instr.updOpen req) = true) ∧ (unserved
        req s = false)) ∧
    (∃ (s : State) (req : Requester), ((Instr.latch req).wf = true) ∧ (acts s (Instr.latch req) = true) ∧ (unserved req
        s = false)) ∧
    (∃ (s : State) (req : Requester), ((Instr.stepToSet req).wf = true) ∧ (acts s (Instr.stepToSet req) = true) ∧
        (unserved req s = false)) ∧
    (∃ (s : State) (req : Requester) (val : Word), ((Instr.timGmAdj req val).wf = true) ∧ (acts s (Instr.timGmAdj req
        val) = true) ∧ (unserved req s = false)) ∧
    (∃ (s : State) (req : Requester) (val : Word), ((Instr.svyCmdGo req val).wf = true) ∧ (acts s (Instr.svyCmdGo req
        val) = true) ∧ (unserved req s = false)) ∧
    (∃ (s : State) (req : Requester) (val : Word), ((Instr.snapGo req val).wf = true) ∧ (acts s (Instr.snapGo req val)
        = true) ∧ (unserved req s = false)) ∧
    (∃ (s : State) (req : Requester), ((Instr.releaseAuth req).wf = true) ∧ (acts s (Instr.releaseAuth req) = true) ∧
        (unserved req s = false)) ∧
    (∃ (s : State) (req : Requester), ((Instr.release req).wf = true) ∧ (acts s (Instr.release req) = true) ∧ (unserved
        req s = false)) ∧
    (∃ (s : State) (req : Requester) (val : Word), ((Instr.rxuFaultnWrite req val).wf = true) ∧ (acts s
        (Instr.rxuFaultnWrite req val) = true) ∧ (unserved req s = false)) ∧
    (∃ (s : State) (req : Requester), ((Instr.enterSafe req).wf = true) ∧ (acts s (Instr.enterSafe req) = true) ∧
        (unserved req s = false)) ∧
    (∃ (s : State) (req : Requester), ((Instr.unfreeze req).wf = true) ∧ (acts s (Instr.unfreeze req) = true) ∧
        (unserved req s = false)) ∧
    (∃ (s : State) (req : Requester), ((Instr.trigger req).wf = true) ∧ (acts s (Instr.trigger req) = true) ∧ (unserved
        req s = false)) ∧
    (∃ (s : State) (req : Requester) (w : Nat), ((Instr.wmClrStats req w).wf = true) ∧ (acts s (Instr.wmClrStats req w)
        = true) ∧ (unserved req s = false)) ∧
    (∃ (s : State) (req : Requester) (val : Word), ((Instr.clearSuppress req val).wf = true) ∧ (acts s
        (Instr.clearSuppress req val) = true) ∧ (unserved req s = false)) ∧
    (∃ (s : State) (req : Requester) (val : Word), ((Instr.soClearLatch req val).wf = true) ∧ (acts s
        (Instr.soClearLatch req val) = true) ∧ (unserved req s = false)) ∧
    (∃ (s : State) (req : Requester) (val : Word), ((Instr.soSet req val).wf = true) ∧ (acts s (Instr.soSet req val) =
        true) ∧ (unserved req s = false)) ∧
    (∃ (s : State) (req : Requester) (p : Nat) (val : Word), ((Instr.ethRestart req p val).wf = true) ∧ (acts s
        (Instr.ethRestart req p val) = true) ∧ (unserved req s = false)) ∧
    (∃ (s : State) (req : Requester) (n : Nat) (val : Word), ((Instr.canRecover req n val).wf = true) ∧ (acts s
        (Instr.canRecover req n val) = true) ∧ (unserved req s = false)) :=
  ⟨⟨regState [(R.GAF_RUNG, 0)], .safetyPair, 0, 15, 0, by decide⟩,
   ⟨regState [(R.GAF_RUNG, 0)], by decide⟩,
   ⟨regState [(R.GAF_RUNG, 0)], 0, 0, false, 0, by decide⟩,
   ⟨regState [(R.GAF_RUNG, 0)], 0, [], false, by decide⟩,
   ⟨regState [(R.GAF_RUNG, 0)], .safetyPair, 0, 15, 0, by decide⟩,
   ⟨regState [(R.GAF_RUNG, 0)], 0, 0, by decide⟩,
   ⟨regState [(R.GAF_RUNG, 0)], .safetyPair, 0, by decide⟩,
   ⟨regState [(R.GAF_RUNG, 0)], .safetyPair, 0, by decide⟩,
   ⟨regState [(R.GAF_RUNG, 0)], .safetyPair, 0, by decide⟩,
   ⟨regState [(R.GAF_RUNG, 0)], .safetyPair, 0, 0, by decide⟩,
   ⟨regState [(R.GAF_RUNG, 0)], .safetyPair, 0, 0, by decide⟩,
   ⟨regState [(R.GAF_RUNG, 0)], .safetyPair, by decide⟩,
   ⟨regState [(R.GAF_RUNG, 0)], .safetyPair, by decide⟩,
   ⟨regState [(R.GAF_RUNG, 0)], .safetyPair, by decide⟩,
   ⟨regState [(R.GAF_RUNG, 0)], .safetyPair, by decide⟩,
   ⟨regState [(R.GAF_RUNG, 0)], .safetyPair, by decide⟩,
   ⟨regState [(R.GAF_RUNG, 0)], .safetyPair, by decide⟩,
   ⟨regState [(R.GAF_RUNG, 0)], .safetyPair, by decide⟩,
   ⟨regState [(R.GAF_RUNG, 0)], .safetyPair, by decide⟩,
   ⟨regState [(R.GAF_RUNG, 0)], .safetyPair, by decide⟩,
   ⟨regState [(R.GAF_RUNG, 0)], .safetyPair, by decide⟩,
   ⟨regState [(R.GAF_RUNG, 0)], .safetyPair, by decide⟩,
   ⟨regState [(R.GAF_RUNG, 0)], .safetyPair, 0, by decide⟩,
   ⟨regState [(R.GAF_RUNG, 0)], .safetyPair, 0, by decide⟩,
   ⟨regState [(R.GAF_RUNG, 0)], .safetyPair, 0, by decide⟩,
   ⟨regState [(R.GAF_RUNG, 0)], .safetyPair, by decide⟩,
   ⟨regState [(R.GAF_RUNG, 0)], .safetyPair, by decide⟩,
   ⟨regState [(R.GAF_RUNG, 0)], .safetyPair, 0, by decide⟩,
   ⟨regState [(R.GAF_RUNG, 0)], .safetyPair, by decide⟩,
   ⟨regState [(R.GAF_RUNG, 0)], .safetyPair, by decide⟩,
   ⟨regState [(R.GAF_RUNG, 0)], .safetyPair, by decide⟩,
   ⟨regState [(R.GAF_RUNG, 0)], .safetyPair, 0, by decide⟩,
   ⟨regState [(R.GAF_RUNG, 0)], .safetyPair, 0, by decide⟩,
   ⟨regState [(R.GAF_RUNG, 0)], .safetyPair, 0, by decide⟩,
   ⟨regState [(R.GAF_RUNG, 0)], .safetyPair, 0, by decide⟩,
   ⟨regState [(R.GAF_RUNG, 0)], .safetyPair, 0, 0, by decide⟩,
   ⟨regState [(R.GAF_RUNG, 0)], .safetyPair, 0, 0, by decide⟩⟩

-- Witnesses of the other statements' hypotheses ------------------------------------------------------------------

theorem witness_FrontCommandRuns : ∃ (s : State) (c : Instr) (rest : List Instr), s.pending = c :: rest :=
  ⟨{ State.reset with pending := [.ppsPulse, .timeStep] }, .ppsPulse, [.timeStep], rfl⟩

theorem witness_EmptyQueueTicks :
    (∃ s : State, s.pending = [] ∧ rung s < 3 ∧ s.tim.slewLeft = 0 ∧ s.tim.frac = 0 ∧ s.tim.base = 0 ∧ rd s R.TIM_GM_ADJ = 0) ∧
    (∃ s : State, 3 ≤ rung s ∧ s.devNs ≤ s.gaf.sleepNs + (s.gaf.sleepCount + 1) * 30517578125 / 1000000) :=
  ⟨⟨State.reset, by decide⟩, ⟨regState [(R.GAF_RUNG, 5)], by decide⟩⟩

theorem witness_UnknownUnitsRefused : ∃ c : Instr, c.wf = false := ⟨.lineTest 128 true, by decide⟩

theorem witness_EveryStepKeepsTheInvariant : ∃ s t : State, s.Inv ∧ step s = .next t :=
  ⟨State.reset, idleTick State.reset, by unfold State.Inv State.hpAgrees; decide, rfl⟩

theorem witness_SettleTouchesPort18Alone :
    ∃ a, a ≠ R.HDMA_STATUS ∧ a ≠ R.PORT18_HP_STATE ∧ a ≠ R.SCH_PORT_STATE 18 := ⟨R.RXU_FAULTN, by decide⟩

theorem witness_RegisterFileIsCanonical :
    (∃ s : State, s.regsCanonical ∧ s.regs ≠ []) ∧ (∃ s t : State, s.regsCanonical ∧ t.regsCanonical ∧ ∀ a, rd s a = rd t a) :=
  ⟨⟨regState [(R.RXU_FAULTN, 3)], ⟨by decide, by decide⟩, by decide⟩,
   ⟨State.reset, State.reset, ⟨rfl, by decide⟩, ⟨rfl, by decide⟩, fun _ => rfl⟩⟩

theorem witness_RegisterOnlyCommandsFrame :
    (∃ (s : State) (req : Requester), rung s ≤ 2 ∧ unserved req s = false) ∧ (∃ val : Word, val.toNat % 8 ≤ 5) ∧
    (∃ val : Word, val.toNat.testBit 0 = true) ∧ (∃ val : Word, 1 ≤ fld val.toNat 9 0 ∧ fld val.toNat 9 0 ≤ 1000) :=
  ⟨⟨regState [(R.GAF_RUNG, 0)], .safetyPair, by decide⟩, ⟨5, by decide⟩, ⟨1, by decide⟩, ⟨1000, by decide⟩⟩

theorem witness_ReportingCommandsFrame : ∃ (s t : State) (m : Nat), exec (.linNoResponse m) s = .next t :=
  ⟨State.reset, settle State.reset State.reset, 0, rfl⟩

/-- RL: GAF_NM_TIMES_8; nothing to write: UPD_SCENE; plain RW: EVT_HOST_ROUTE. -/
theorem witness_RegisterWriteByAccessType :
    (∃ (s : State) (req : Requester) (a : Nat) (v : Word) (x : RegRow × Nat),
      rung s ≤ 2 ∧ unserved req s = false ∧ a < bar2Base ∧ (reqIsHost req && fwReserved a) = false ∧ (cmdWrite req a v).isNone = true ∧
      regAt a = some x ∧ a >>> 24 ≠ 9 ∧ x.1.mask x.1.rl x.2 ≠ 0) ∧
    (∃ (s : State) (req : Requester) (a : Nat) (v : Word) (x : RegRow × Nat),
      rung s ≤ 2 ∧ unserved req s = false ∧ a < bar2Base ∧ (reqIsHost req && fwReserved a) = false ∧ (cmdWrite req a v).isNone = true ∧
      regAt a = some x ∧ a >>> 24 ≠ 9 ∧ x.1.mask x.1.rl x.2 = 0 ∧ rangeDenied (hostRaise req s) a v = false ∧
      x.1.mask x.1.rw x.2 ||| x.1.mask x.1.wo x.2 ||| x.1.mask x.1.w1c x.2 ||| x.1.mask x.1.w1s x.2 = 0) ∧
    (∃ (s : State) (req : Requester) (a : Nat) (v : Word) (x : RegRow × Nat),
      rung s ≤ 2 ∧ unserved req s = false ∧ a < bar2Base ∧ (reqIsHost req && fwReserved a) = false ∧ (cmdWrite req a v).isNone = true ∧
      regAt a = some x ∧ a >>> 24 ≠ 9 ∧ x.1.mask x.1.rl x.2 = 0 ∧ rangeDenied (hostRaise req s) a v = false ∧
      x.1.mask x.1.rw x.2 ||| x.1.mask x.1.wo x.2 ||| x.1.mask x.1.w1c x.2 ||| x.1.mask x.1.w1s x.2 ≠ 0 ∧
      (idxIn (R.CPL_WM_NOTICE 0) 0x10 64 a).isNone = true) :=
  ⟨⟨regState [(R.GAF_RUNG, 0)], .safetyPair, R.GAF_NM_TIMES_8 0, 0, _, by decide, by decide, by decide, by decide, by decide, rfl, by decide⟩,
   ⟨regState [(R.GAF_RUNG, 0)], .safetyPair, R.UPD_SCENE, 0, _, by decide, by decide, by decide, by decide, by decide, rfl, by decide⟩,
   ⟨regState [(R.GAF_RUNG, 0)], .safetyPair, R.EVT_HOST_ROUTE 0, 0, _, by decide, by decide, by decide, by decide, by decide, rfl, by decide⟩⟩

theorem witness_BusHeaderRoundTrip :
    ∃ (fmt ident vcid sdt : Nat) (data : List Byte),
      fmt < 8 ∧ ident < 2 ^ 29 ∧ vcid < 256 ∧ sdt < 256 ∧ data.length < 4096 :=
  ⟨7, 0x1FFFFFFF, 255, 255, [1, 2, 3], by decide⟩

theorem witness_MeterColours :
    (∃ (st : MeterState) (pre : Bool), pre = false ∧ (64 * 1000000 : Int) ≤ st.tc) ∧
    (∃ (st : MeterState) (pre : Bool), ¬ (pre = false ∧ (64 * 1000000 : Int) ≤ st.tc) ∧ (64 * 1000000 : Int) ≤ st.te) ∧
    (∃ (st : MeterState) (pre : Bool), ¬ (pre = false ∧ (64 * 1000000 : Int) ≤ st.tc) ∧ ¬ (64 * 1000000 : Int) ≤ st.te) ∧
    (∃ m : MeterCfg, m.coupled = false) :=
  ⟨⟨⟨64000000, 0, 0⟩, false, by decide⟩, ⟨⟨63999999, 64000000, 0⟩, false, by decide⟩, ⟨⟨64000000, -1, 0⟩, true, by decide⟩,
   ⟨⟨false, false, false, 1, 1, 1, 1⟩, rfl⟩⟩

theorem witness_FloodLimiterAdmits :
    ∃ (s : State) (r : Nat) (l : Limiter), limiterOf s r = some l ∧ (floodLimit r 0 s).1 = true :=
  ⟨{ State.reset with lku := { State.reset.lku with exact := [{ src := 20, fmt := 0, vcid := 0, sdt := 0, ident := 1, v := { dest := 1 }, lim := ⟨10, 2, 0⟩ }] } },
   0, ⟨10, 2, 0⟩, by decide⟩

theorem witness_SequenceNumbers :
    (∃ (s : State) (n : Nat), rdb s (R.LKU_SEQ n) 30 = true) ∧ (∃ (s : State) (n : Nat), rdb s (R.LKU_SEQ n) 30 = false) :=
  ⟨⟨regState [(R.LKU_SEQ 0, 2 ^ 30)], 0, by decide⟩, ⟨State.reset, 4095, by decide⟩⟩

theorem witness_CellsOfAFrame : ∃ (s : State) (f g : PFrame), f.src = 0 ∧ g.src = 44 ∧ f.cells ≤ rd s R.CPL_FREE_CELLS ∧
    g.cells ≤ rd s R.CPL_FREE_CELLS :=
  ⟨State.reset, ⟨true, [], 0, 0, false, true, false, 0, 17, 0, false, 0⟩, ⟨true, [], 44, 0, false, true, false, 0, 17, 0, false, 0⟩, by decide⟩

/-- A copy for port 19's class 0 (Q152) with its port's guarantee used up. -/
theorem witness_ReserveChargesReserveQueues :
    (∃ (s : State) (p tc src dp n q : Nat), (admitDecide s p tc src dp n q).toOption = some .reserve) ∧
    (∃ (s : State) (fid p tc q d : Nat) (a : CopyAttr),
      isReserveQ s q = false ∧ (admitCopy fid p tc q a s).1.toOption = some d) :=
  ⟨⟨regState [(R.CPL_PORT_STATE 19, 0), (R.CPL_PORT_CFG 19, 0), (R.CPL_PART_SIZE 1, 4096)], 19, 0, 20, 0, 1, 152, by decide⟩,
   ⟨{ regState [(R.CPL_PORT_STATE 0, 0)] with pool := { State.reset.pool with frames := [(0, frameOf)] } }, 0, 0, 0, 0, 0,
    ⟨0, 0, none, none, false, none⟩, by decide⟩⟩

theorem witness_LowestFreeDescriptor :
    (∃ m : SMap Copy, m.sorted = true ∧ m ≠ []) ∧
    (∃ (s : State) (fid p tc q d : Nat) (a : CopyAttr), (admitCopy fid p tc q a s).1.toOption = some d ∧ d = 1) ∧
    (∃ (s : State) (d : Nat) (c : Copy), s.pool.copies.get? d = some c) :=
  ⟨⟨[(0, copyOf), (1, copyOf)], by decide⟩,
   ⟨{ regState [(R.CPL_PORT_STATE 0, 0)] with pool := { State.reset.pool with frames := [(0, frameOf)], copies := [(0, copyOf), (2, copyOf)] } },
    0, 0, 0, 0, 1, ⟨0, 0, none, none, false, none⟩, by decide⟩,
   ⟨{ State.reset with pool := { State.reset.pool with copies := [(0, copyOf)] } }, 0, copyOf, by decide⟩⟩

/-- A port with copies in a strict and in two weighted queues: class 7 is strict, classes 1 and 3 are not. -/
def backlog (strict : Nat) : State :=
  { regState [(R.CPL_PORT_STATE 0, 0), (R.PORT_ETH_STATE 0, 2 * 2 ^ 28 + 5 * 2 ^ 24), (R.SCH_PORT_CFG 0, strict * 2 ^ 29),
      (R.SCH_PORT_STATE 0, 0x500)] with
    pool := { State.reset.pool with frames := [(0, frameOf)], copies := [(0, { copyOf with queued := true })], queues := [(7, [0])] } }

theorem witness_SelectionAndShaping :
    (∃ (s : State) (p d : Nat), pickClass s p = some d) ∧
    (∃ (s : State) (p c : Nat), c ∈ strictClasses s p ∧ headReady s p c = true ∧ headFits s p c = true) ∧
    (∃ (s : State) (p : Nat), strictCount s p ≤ 4 ∧ pickClass s p = none) ∧
    (∃ (s : State) (p c v : Nat) (l : List Nat), l.Pairwise (· > ·) ∧ minTag s p l = some c ∧
      ∀ d ∈ l, v ≤ headTag s p d ∧ headTag s p d < v + 2 ^ 63) ∧
    (∃ (s : State) (q : Nat), (weightedClasses s (q / 8)).contains (q % 8) = true) ∧
    (∃ (s : State) (q : Nat), (weightedClasses s (q / 8)).contains (q % 8) = false) ∧
    (∃ (s : State) (q : Nat) (x : Int × Nat), s.sched.shaper.get? q = some x) ∧
    (∃ (s : State) (q : Nat), shaperOn s q = true) ∧ (∃ (s : State) (q : Nat), shaperOn s q = false) ∧
    (∃ (s : State) (p c : Nat), headReady s p c = true ∧ shaperOn s (qOf p c) = true) :=
  ⟨⟨backlog 0, 0, 7, by decide⟩, ⟨backlog 1, 0, 7, by decide⟩, ⟨State.reset, 0, by decide⟩,
   ⟨State.reset, 0, 3, 0, [3, 1], by decide⟩, ⟨State.reset, 0, by decide⟩, ⟨backlog 1, 7, by decide⟩,
   ⟨{ State.reset with sched := { State.reset.sched with shaper := [(0, (0, 0))] } }, 0, (0, 0), by decide⟩,
   ⟨regState [(R.SCH_Q_CFG 151, 0x100)], 151, by decide⟩, ⟨State.reset, 0, by decide⟩,
   ⟨{ backlog 1 with regs := (wr (backlog 1) (R.SCH_Q_CFG 7) 0x100).regs }, 0, 7, by decide⟩⟩

theorem witness_SequenceRecovery :
    (∃ (s : State) (c : Nat), rdb s (R.COL_CTX_STATE c) 15 = true) ∧
    (∀ k ∈ [(-32768 : Int), -64, -63, 0, 63, 64, 32767], ∃ (s : State) (c n : Nat), n < 65536 ∧ rdb s (R.COL_CTX_STATE c) 15 = false ∧
      ctxWin s c = 64 ∧ ((n : Int) - (ctxNext s c - 1) - k) % 65536 = 0) ∧
    (∀ back ∈ [0, 63, 64, 32767], ∃ (s : State) (c n : Nat), n < 65536 ∧ rdb s (R.COL_CTX_STATE c) 15 = false ∧
      32768 ≤ (n + 65536 - ctxNext s c) % 65536 ∧ (ctxNext s c + 65535 - n) % 65536 = back) ∧
    (∃ (s : State) (c : Nat), rdb s (R.COL_CTX_CFG c) 25 = true) ∧
    (∃ (s : State) (c n : Nat), n < 65536 ∧ rdb s (R.COL_CTX_STATE c) 15 = false ∧ (n + 65536 - ctxNext s c) % 65536 < ctxWin s c) ∧
    (∃ (s : State) (c e at_ : Nat), (ctx s c).slots.getD 0 .empty = .copy e at_) :=
  ⟨⟨regState [(R.COL_CTX_STATE 0, 0x8000)], 0, by decide⟩,
   fun k hk => ⟨regState [(R.COL_CTX_CFG 0, 64 * 0x1000), (R.COL_CTX_STATE 0, 2 ^ 16)], 0, (k % 65536).toNat, by
     fin_cases hk <;> decide⟩,
   fun b hb => ⟨regState [(R.COL_CTX_STATE 0, 0)], 0, 65535 - b, by fin_cases hb <;> decide⟩,
   ⟨regState [(R.COL_CTX_CFG 0, 2 ^ 25)], 0, by decide⟩,
   ⟨regState [(R.COL_CTX_CFG 0, 64 * 0x1000), (R.COL_CTX_STATE 0, 65535 * 2 ^ 16)], 0, 62, by decide⟩,
   ⟨setCtx 0 { ctx State.reset 0 with slots := [.copy 3 0] } State.reset, 0, 3, 0, by decide⟩⟩

theorem witness_CanErrorCounters :
    (∃ (s : State) (n : Nat), canPassive s n = true ∧ canTec s n = 128) ∧ (∃ (s : State) (n : Nat), 255 < canTec s n) :=
  ⟨⟨regState [(R.PORT_CAN_ERRCNT 20, 128)], 0, by decide⟩, ⟨regState [(R.PORT_CAN_ERRCNT 20, 256)], 0, by decide⟩⟩

theorem witness_LinChecksAndOutputDiagnosis :
    (∃ (s : State) (p i : Nat), rdb s (R.PORT_LIN_FRAME p i) 29 = true ∧ i ≠ 0x3C ∧ i ≠ 0x3D) ∧
    (∃ (s : State) (p i : Nat), rdb s (R.PORT_LIN_FRAME p i) 29 = false) ∧
    (∃ (s : State) (k : Nat), soIsOn s k = true) ∧ (∃ (s : State) (k : Nat), soIsOn s k = false) :=
  ⟨⟨regState [(R.PORT_LIN_FRAME 36 63, 2 ^ 29)], 36, 63, by decide⟩, ⟨State.reset, 36, 0, by decide⟩,
   ⟨regState [(R.RXU_SO_STATE 0, 2 ^ 28)], 0, by decide⟩, ⟨State.reset, 0, by decide⟩⟩

theorem witness_ArbitrationKey :
    (∃ (fmt ident vcid sdt : Nat) (data : List Byte), fmt ≤ 4 ∧ ident < 2 ^ 29 ∧ (fmt ∉ [1, 3] → ident < 2048) ∧
      vcid < 256 ∧ sdt < 256 ∧ data.length < 4096) ∧
    (∃ l : List CanEntry, l.Pairwise servedBefore ∧ l ≠ []) :=
  ⟨⟨4, 2047, 0, 0, [], by decide⟩, ⟨[⟨1, 0, 0⟩], List.pairwise_singleton _ _, by decide⟩⟩

theorem witness_PauseFrameFields :
    ∃ (s t : State) (p c quanta : Nat), c < 8 ∧ quanta < 65536 ∧ rdf s (R.SCH_PORT_CFG p) 27 26 = 1 ∧
      rdf t (R.SCH_PORT_CFG p) 27 26 ≠ 1 :=
  ⟨regState [(R.SCH_PORT_CFG 0, 2 ^ 26)], regState [(R.SCH_PORT_CFG 0, 2 ^ 27)], 0, 7, 65535, by decide⟩

theorem witness_SignalRoutes :
    (∃ j len : Nat, j + 1 = len) ∧ (∃ j len : Nat, j + 1 < len) ∧
    (∃ (src : List Byte) (start len : Nat), ∃ j < len, 8 * src.length ≤ sigPos start j true len) ∧
    (∃ (src : List Byte) (start len : Nat), 0 < len ∧ ∀ j < len, sigPos start j true len < 8 * src.length) ∧
    (∃ (s : State) (i : Nat) (src : List Byte),
      sigRead src (fld (rd s (R.SGE_ROUTE_SRC i)) 13 0) ((rd s (R.SGE_ROUTE_SRC i)).testBit 30)
        (rdf s (R.SGE_ROUTE_OPS i) 31 26 + 1) = none) ∧
    (∃ (s : State) (i : Nat) (src : List Byte) (raw : Nat),
      sigRead src (fld (rd s (R.SGE_ROUTE_SRC i)) 13 0) ((rd s (R.SGE_ROUTE_SRC i)).testBit 30)
        (rdf s (R.SGE_ROUTE_OPS i) 31 26 + 1) = some raw) ∧
    (∃ (s : State) (i raw : Nat) (k : RouteK), s.sge.routeK.get? i = some k ∧ rdb s (R.SGE_ROUTE_OPS i) 18 = true ∧
      raw = k.matched) ∧
    (∀ sg cl : Bool, ∃ (s : State) (i : Nat) (k : RouteK), s.sge.routeK.get? i = some k ∧
      rdb s (R.SGE_ROUTE_OPS i) 18 = false ∧ rdb s (R.SGE_ROUTE_SRC i) 29 = sg ∧ rdb s (R.SGE_ROUTE_OPS i) 19 = cl) :=
  ⟨⟨0, 1, rfl⟩, ⟨0, 2, by decide⟩, ⟨[0], 0, 9, 0, by decide⟩, ⟨[0, 0], 4, 8, by decide⟩, ⟨State.reset, 0, [], by decide⟩,
   ⟨State.reset, 0, [1], 1, by decide⟩,
   ⟨{ regState [(R.SGE_ROUTE_OPS 0, 2 ^ 18)] with sge := { State.reset.sge with routeK := [(0, ⟨0, 0, 5, 6, 0⟩)] } }, 0, 5,
    ⟨0, 0, 5, 6, 0⟩, by decide⟩,
   fun sg cl => ⟨{ regState [(R.SGE_ROUTE_OPS 0, if cl then 2 ^ 19 else 0), (R.SGE_ROUTE_SRC 0, if sg then 2 ^ 29 else 0)] with
      sge := { State.reset.sge with routeK := [(0, ⟨0, 0, 5, 6, 0⟩)] } }, 0, ⟨0, 0, 5, 6, 0⟩, by cases sg <;> cases cl <;> decide⟩⟩

theorem witness_UnpackSequence :
    (∃ (s : State) (u seq : Nat), rdb s (R.SGE_UNP_CFG u) 7 = true ∧ rdf s (R.SGE_UNP_CFG u) 15 8 = seq) ∧
    (∃ (s : State) (u seq : Nat), rdb s (R.SGE_UNP_CFG u) 7 = true ∧ rdf s (R.SGE_UNP_CFG u) 15 8 ≠ seq) ∧
    (∃ (s : State) (u : Nat), rdb s (R.SGE_UNP_CFG u) 7 = false) ∧
    (∃ (s : State) (j : Job), acts s (Instr.unpack1722 .ok .ok) = true ∧ (jobTake 3 .ok .ok s).1 = some j ∧
      avtpAt j.data = some 14 ∧
      byteAt j.data 14 = (if rdf (jobTake 3 .ok .ok s).2 (R.SGE_UNP_CFG j.v.bridgeIdx) 30 29 = 0 then 0x82 else
        if rdf (jobTake 3 .ok .ok s).2 (R.SGE_UNP_CFG j.v.bridgeIdx) 30 29 = 1 then 0x05 else 0x6F)) :=
  ⟨⟨regState [(R.SGE_UNP_CFG 0, 0xFF80)], 0, 255, by decide⟩, ⟨regState [(R.SGE_UNP_CFG 0, 0x80)], 0, 1, by decide⟩,
   ⟨State.reset, 0, by decide⟩,
   ⟨{ regState [(R.GAF_RUNG, 0)] with sge := { State.reset.sge with jobs := [(3, [jobOf])] } }, jobOf, by decide⟩⟩

theorem witness_ScheduledInstants :
    (∃ period : Nat, 0 < period) ∧ (∃ (s : State) (l : Nat), rd s (R.GATE_LIST_CYCLE l) ≠ 0) :=
  ⟨⟨1, by decide⟩, regState [(R.GATE_LIST_CYCLE 3, 1000)], 3, by decide⟩

theorem witness_VaultDeleteAndRequestOrder :
    (∃ (s : State) (i reqr : Nat), lifecycle s = 1 ∧ reqr ≠ 2 ∧ ktValid s i = true) ∧
    (∃ (s : State) (i reqr : Nat), reqr = 2 ∨ ktValid s i = false) ∧
    (∃ (s : State) (i : Nat), (Instr.vaultDelete .safetyPair i .ok).wf = true ∧ acts s (Instr.vaultDelete .safetyPair i .ok) = true) ∧
    (∃ (s : State) (r q : VaultReq), s.vault.reqs = [q, r] ∧ vaultFirst s = some r ∧ s.gaf.resLow = false) ∧
    (∃ s : State, s.gaf.resLow = true) :=
  ⟨⟨regState [(R.VLT_STATUS, 2 ^ 28), (ktAddr 5 0, 2 ^ 31)], 5, 0, by decide⟩, ⟨State.reset, 0, 0, by decide⟩,
   ⟨regState [(R.GAF_RUNG, 0)], 2047, by decide⟩,
   ⟨{ State.reset with vault := { State.reset.vault with reqs := [⟨3, 2, 7, [], .ok, false⟩, ⟨0, 0, 7, [], .ok, false⟩] } },
    ⟨0, 0, 7, [], .ok, false⟩, ⟨3, 2, 7, [], .ok, false⟩, by decide⟩,
   ⟨{ State.reset with gaf := { State.reset.gaf with resLow := true } }, by decide⟩⟩

theorem witness_MacsecRoundTrip : ∃ b : List Byte, 16 ≤ b.length := ⟨List.replicate 16 0, by decide⟩

theorem witness_EveryCommandCompletes :
    (∃ c : Instr, c.wf = true) ∧
    (∃ (s : State) (c : Instr), c.wf = true ∧ acts s c = false ∧ rung s = 2) ∧
    (∃ (s : State) (c : Instr), c.wf = true ∧ acts s c = false ∧ rung s = 5) :=
  ⟨⟨.lineTest 127 true, by decide⟩, ⟨regState [(R.GAF_RUNG, 2)], .frameLookup 0 .ok .ok, by decide⟩, ⟨regState [(R.GAF_RUNG, 5)], .bootGood, by decide⟩⟩

theorem witness_FreshnessReconstruction : ∃ f rx : Nat, rx < 2 ^ f := ⟨8, 255, by decide⟩

theorem witness_EventFifos :
    (∃ x : TickItem, x.src < 512) ∧
    (∃ (s : State) (t : Nat), t < 6 ∧ 256 ≤ (s.router.fifos.getD t []).length) ∧
    (∃ (s : State) (t : Nat), t < 6 ∧ (s.router.fifos.getD t []).length < 256) ∧
    (∃ s : State, ∀ t, (s.router.fifos.getD t []).length ≤ 256) :=
  ⟨⟨⟨0, 511, 1⟩, by decide⟩,
   ⟨{ State.reset with router := { State.reset.router with fifos := [(5, List.replicate 256 0)] } }, 5,
    by decide, by decide +kernel⟩, ⟨State.reset, 0, by decide⟩, ⟨State.reset, fun _ => Nat.zero_le _⟩⟩

theorem witness_CompletionRecord :
    (∃ k status kind tc src : Nat, k < 64 ∧ status < 256 ∧ kind < 256 ∧ tc < 8 ∧ src < 64) ∧
    (∃ (s : State) (v : Nat), s.router.msixMask.testBit v = true) ∧ (∃ (s : State) (v : Nat), s.router.msixMask.testBit v = false) :=
  ⟨⟨63, 255, 255, 7, 63, by decide⟩, ⟨{ State.reset with router := { State.reset.router with msixMask := 1 } }, 0, by decide⟩,
   ⟨State.reset, 63, by decide⟩⟩

theorem witness_RecorderRingFits :
    (∃ (s : State) (r : Nat), r < 4 ∧ gapBytes (s.recd.rings.getD r []) ≤ recRoom s r true ∧
      plainBytes (s.recd.rings.getD r []) ≤ recRoom s r false) ∧
    (∃ (s : State) (x : Rec), (recPush 1 x s).1 = true ∧ x.kind = 2 ∧
      (∀ y ∈ s.recd.rings.getD 1 [], y.devNs / 1000 = x.devNs / 1000 → y.source ≤ x.source) ∧
      (∀ y ∈ s.recd.rings.getD 1 [], y.devNs / 1000 ≤ x.devNs / 1000)) ∧
    (∃ (s : State) (x : Rec), (recPush 1 x s).1 = true ∧ x.kind = 5) :=
  ⟨⟨State.reset, 3, by decide⟩, ⟨regState [(R.REC_RING 1, 4 * 2 ^ 16)], slate State.reset 2 0 5 5 [], by decide⟩,
   ⟨regState [(R.REC_RING 1, 4 * 2 ^ 16)], slate State.reset 5 0 1 1 [], by decide⟩⟩

theorem witness_TraceSampling :
    (∃ s : State, acts s .traceSampleAdjust = true ∧ rd s R.REC_TRACE_HWM < rd s (R.CPL_PORT_LOGICAL 44) ∧ rdf s R.REC_STATUS 27 24 < 10) ∧
    (∃ s : State, acts s .traceSampleAdjust = true ∧ rd s (R.CPL_PORT_LOGICAL 44) < rd s R.REC_TRACE_HWM / 4 ∧ s.recd.quiet + 1 = 1000 ∧
      0 < rdf s R.REC_STATUS 27 24) ∧
    (∃ s : State, acts s .traceSampleAdjust = true ∧ rd s (R.CPL_PORT_LOGICAL 44) < rd s R.REC_TRACE_HWM / 4 ∧ ¬ (s.recd.quiet + 1 = 1000)) ∧
    (∃ s : State, acts s .traceSampleAdjust = true ∧ ¬ (rd s R.REC_TRACE_HWM < rd s (R.CPL_PORT_LOGICAL 44)) ∧
      ¬ rd s (R.CPL_PORT_LOGICAL 44) < rd s R.REC_TRACE_HWM / 4) ∧
    (∃ (s : State) (src : Nat), (traceSample src 0 s).1 = false) :=
  ⟨⟨regState [(R.GAF_RUNG, 0), (R.REC_TRACE_HWM, 100), (R.CPL_PORT_LOGICAL 44, 101)], by decide⟩,
   ⟨{ regState [(R.GAF_RUNG, 0), (R.REC_TRACE_HWM, 100), (R.REC_STATUS, 2 ^ 24)] with recd := { State.reset.recd with quiet := 999 } }, by decide⟩,
   ⟨regState [(R.GAF_RUNG, 0), (R.REC_TRACE_HWM, 100)], by decide⟩,
   ⟨regState [(R.GAF_RUNG, 0), (R.REC_TRACE_HWM, 100), (R.CPL_PORT_LOGICAL 44, 25)], by decide⟩,
   ⟨regState [(R.REC_STATUS, 2 ^ 24)], 6, by decide⟩⟩

theorem witness_FaultNLevelWrite :
    (∃ (s : State) (req : Requester), rung s ≤ 2 ∧ unserved req s = false ∧ inSafe (hostRaise req s) = true ∧
      rdb (hostRaise req s) R.RXU_FAULTN 1 = true ∧ hostOrPair req = true) ∧
    (∃ (s : State) (req : Requester), rung s ≤ 2 ∧ unserved req s = false ∧ inSafe (hostRaise req s) = false) :=
  ⟨⟨regState [(R.GAF_RUNG, 0), (R.RXU_STATUS, 2 ^ 28), (R.RXU_FAULTN, 3)], .safetyPair, by decide⟩,
   ⟨regState [(R.GAF_RUNG, 0)], .safetyPair, by decide⟩⟩

theorem witness_DeepestPermittedRung :
    (∃ s : State, rdb s R.GAF_HOST 2 = false) ∧ (∃ s : State, rdb s R.GAF_NM_STATUS 1 = false) ∧
    (∃ s : State, rdf s R.UPD_STATUS 23 20 ≠ 0) ∧ (∃ s : State, startDone s = false) ∧
    (∃ s : State, rdf s R.REC_STATUS 31 28 = 3) ∧ (∃ s : State, inSafe s = true) :=
  ⟨⟨regState [(R.GAF_HOST, 0)], by decide⟩, ⟨regState [(R.GAF_NM_STATUS, 0)], by decide⟩,
   ⟨regState [(R.UPD_STATUS, 2 ^ 20)], by decide⟩, ⟨State.reset, by decide⟩, ⟨regState [(R.REC_STATUS, 3 * 2 ^ 28)], by decide⟩,
   ⟨regState [(R.RXU_STATUS, 2 ^ 28)], by decide⟩⟩

theorem witness_SceneRequestAnswers :
    (∃ s : State, acts s (Instr.sceneRequest .safetyPair 15) = true ∧ (Instr.sceneRequest .safetyPair 15).wf = true) ∧
    (∃ s : State, s.upd.sceneReqs = []) ∧
    (∃ (s : State) (r q : SceneReq), s.upd.sceneReqs = [q, r] ∧ sceneOrder s.upd.sceneReqs = [r, q]) ∧
    (∃ s : State, limp s = true ∨ (rdf s R.UPD_SCENE 31 16).testBit 1 = false ∨ rdb s (R.UPD_SCENE_ALLOWED (scene s)) 1 = false) ∧
    (∃ s : State, sceneOpen s 1 ∧ (startDone s = false ∨ rdb s R.UPD_SCENE 8 = true)) ∧
    (∃ s : State, sceneOpen s 1 ∧ startDone s = true ∧ rdb s R.UPD_SCENE 8 = false ∧ 1 = scene s) ∧
    (∃ s : State, sceneOpen s 1 ∧ startDone s = true ∧ rdb s R.UPD_SCENE 8 = false ∧ 1 ≠ scene s) ∧
    (∃ r : SceneReq, r.mbx = false) :=
  ⟨⟨regState [(R.GAF_RUNG, 0)], by decide⟩, ⟨State.reset, by decide⟩,
   ⟨{ State.reset with upd := { State.reset.upd with sceneReqs := [⟨.hostPcie, 2, true⟩, ⟨.safetyPair, 1, false⟩] } }, ⟨.safetyPair, 1, false⟩,
    ⟨.hostPcie, 2, true⟩, by decide⟩,
   ⟨regState [(R.GAF_RUNG, 0)], by decide⟩,
   ⟨regState [(R.GAF_RUNG, 0), (R.UPD_SCENE, 0x30100), (R.UPD_SCENE_ALLOWED 0, 3), (R.SVY_STATUS, 2)], by decide⟩,
   ⟨regState [(R.GAF_RUNG, 0), (R.UPD_SCENE, 0x30001), (R.UPD_SCENE_ALLOWED 1, 3), (R.SVY_STATUS, 2)], by decide⟩,
   ⟨regState [(R.GAF_RUNG, 0), (R.UPD_SCENE, 0x30000), (R.UPD_SCENE_ALLOWED 0, 3), (R.SVY_STATUS, 2)], by decide⟩,
   ⟨⟨.hart0, 0, false⟩, rfl⟩⟩

theorem witness_SessionAndChunks :
    (∃ s : State, srcAllowed 1 s = false) ∧ (∃ s : State, srcAllowed 1 s = true ∧ sessOwner s = 1) ∧
    (∃ s : State, srcAllowed 1 s = true ∧ sessOwner s ≠ 1 ∧ sess s ≠ 0) ∧
    (∃ s : State, srcAllowed 4 s = true ∧ loaderOnly s = false ∧ sess s = 0 ∧ sessOvertaken 4 s = false) ∧
    (∃ s : State, s.upd.prog.isSome = true ∨ s.upd.verifying.isSome = true) ∧
    (∃ (s : State) (i : Nat), s.upd.prog = none ∧ s.upd.verifying = none ∧ i ≠ 0 ∧ resumeIndex s ≠ some i) ∧
    (∃ s : State, inTrial s = false ∨ s.upd.bootGood = false ∨ trialOver s = true) :=
  ⟨⟨regState [(R.UPD_POLICY, 0)], by decide⟩, ⟨regState [(R.UPD_POLICY, 0xF0000), (R.UPD_STATUS, 2 ^ 20)], by decide⟩,
   ⟨regState [(R.UPD_POLICY, 0xF0000), (R.UPD_STATUS, 2 * 2 ^ 20)], by decide⟩, ⟨regState [(R.UPD_POLICY, 0xF0000)], by decide⟩,
   ⟨{ State.reset with upd := { State.reset.upd with verifying := some 1 } }, by decide⟩, ⟨State.reset, 7, by decide⟩,
   ⟨State.reset, by decide⟩⟩

theorem witness_NegativeResponses :
    (∃ (s : State), rung s ≤ 1 ∧ loaderOnly s = false ∧ srcAllowed (udsSrc false) s = false) ∧
    (∃ (s : State) (len seq : Nat), rung s ≤ 1 ∧ loaderOnly s = false ∧ srcAllowed (udsSrc false) s = true ∧
      sessOwner (sessHeard 3 s) = udsSrc false ∧ (sessHeard 3 s).upd.dl = some len ∧
      (sessHeard 3 s).upd.prog = none ∧ seq ≠ (sessHeard 3 s).upd.next % 256) ∧
    (∃ (s : State), rung s ≤ 1 ∧ loaderOnly s = false ∧ srcAllowed (udsSrc true) s = true ∧
      sessOwner (sessHeard 2 s) ≠ udsSrc true ∧ s.upd.tester.isSome = true) ∧
    (∃ (s : State) (did : Nat), rung s ≤ 1 ∧ loaderOnly s = false ∧ srcAllowed (udsSrc false) s = true ∧ didBytes (sessHeard 3 s) did = none) :=
  ⟨⟨regState [(R.GAF_RUNG, 0)], by decide⟩,
   ⟨{ regState [(R.GAF_RUNG, 0), (R.UPD_POLICY, 0xF0000), (R.UPD_STATUS, 3 * 2 ^ 20)] with upd := { State.reset.upd with dl := some 1, next := 1 } }, 1, 2, by decide⟩,
   ⟨{ regState [(R.GAF_RUNG, 0), (R.UPD_POLICY, 0xF0000)] with upd := { State.reset.upd with tester := some 0x0E00 } }, by decide⟩,
   ⟨regState [(R.GAF_RUNG, 0), (R.UPD_POLICY, 0xF0000)], 0xFD11, by decide⟩⟩

end Sys2Proof.Tests
end

section
/-! PROOFS of the scope's statements: the register file and the access types (R12 to R14), the frames of commands that write
registers alone and of commands that report, and the completion of the host's accesses. -/

namespace Sys2Proof.Machine

/-! ### Sorted stores: membership, and stores that read alike -/

section Stores

variable {α : Type}

theorem SMap.mem_of_get?_eq_some {m : SMap α} {k : Nat} {v : α} (h : m.get? k = some v) : (k, v) ∈ m := by
  induction m with
  | nil => simp at h
  | cons x t ih =>
    obtain ⟨k', v'⟩ := x
    rw [SMap.get?_cons] at h
    split at h
    · next hk => simp_all
    · exact List.mem_cons_of_mem _ (ih h)

theorem SMap.eq_or_mem_of_mem_put {m : SMap α} {k : Nat} {v : α} {x : Nat × α} (h : x ∈ m.put k v) :
    x = (k, v) ∨ x ∈ m := by
  induction m with
  | nil => simpa [SMap.put] using h
  | cons y t ih =>
    obtain ⟨k', v'⟩ := y
    unfold SMap.put at h
    split at h
    · simpa using h
    · split at h
      · rcases List.mem_cons.mp h with h | h
        · exact .inl h
        · exact .inr (List.mem_cons_of_mem _ h)
      · rcases List.mem_cons.mp h with h | h
        · exact .inr (h ▸ List.mem_cons_self)
        · exact (ih h).imp_right (List.mem_cons_of_mem _)

theorem SMap.mem_of_mem_del {m : SMap α} {k : Nat} {x : Nat × α} (h : x ∈ m.del k) : x ∈ m := by
  induction m with
  | nil => exact h
  | cons y t ih =>
    obtain ⟨k', v'⟩ := y
    unfold SMap.del at h
    split at h
    · exact List.mem_cons_of_mem _ (ih h)
    · rcases List.mem_cons.mp h with h | h
      · exact h ▸ List.mem_cons_self
      · exact List.mem_cons_of_mem _ (ih h)

/-- An entry of a store after a set is an old one, or the value set where that is not the default. -/
theorem SMap.mem_or_eq_of_mem_set [DecidableEq α] {m : SMap α} {k : Nat} {v d : α} {x : Nat × α} (h : x ∈ m.set k v d) :
    x ∈ m ∨ (x = (k, v) ∧ v ≠ d) := by
  unfold SMap.set at h
  split at h
  · exact .inl (SMap.mem_of_mem_del h)
  · next hv => exact (SMap.eq_or_mem_of_mem_put h).symm.imp_right (⟨·, hv⟩)

/-- A store whose keys are all above `k` holds nothing up to `k`. -/
theorem SMap.get?_eq_none_of_above {m : SMap α} {k j : Nat} (h : m.above k = true) (hj : j ≤ k) : m.get? j = none := by
  induction m with
  | nil => rfl
  | cons x t ih =>
    simp only [SMap.above, Bool.and_eq_true, decide_eq_true_eq] at h
    rw [SMap.get?_cons, if_neg (by omega)]
    exact ih h.2

/-- Below its first key a sorted store holds nothing. -/
theorem SMap.get?_eq_none_of_lt_head {k j : Nat} {v : α} {t : SMap α} (h : SMap.sorted ((k, v) :: t) = true) (hj : j < k) :
    SMap.get? ((k, v) :: t) j = none := by
  rw [SMap.get?_cons, if_neg (by omega)]
  exact SMap.get?_eq_none_of_above ((SMap.sorted_cons _ t).mp h).1 hj.le

/-- Sorted stores that read alike are the same list. -/
theorem SMap.eq_of_get?_eq {m n : SMap α} (hm : m.sorted = true) (hn : n.sorted = true) (h : ∀ k, m.get? k = n.get? k) :
    m = n := by
  induction m generalizing n with
  | nil =>
    cases n with
    | nil => rfl
    | cons y u => simpa [SMap.get?_cons y.1 y.2] using h y.1
  | cons x t ih =>
    obtain ⟨k, v⟩ := x
    cases n with
    | nil => simpa [SMap.get?_cons] using h k
    | cons y u =>
      obtain ⟨l, w⟩ := y
      obtain rfl : k = l := by
        rcases Nat.lt_trichotomy k l with hlt | heq | hgt
        · simpa [SMap.get?_cons k v, SMap.get?_eq_none_of_lt_head hn hlt] using h k
        · exact heq
        · simpa [SMap.get?_cons l w, SMap.get?_eq_none_of_lt_head hm hgt] using h l
      obtain rfl : v = w := by simpa [SMap.get?_cons] using h k
      obtain ⟨habove, ht⟩ := (SMap.sorted_cons _ t).mp hm
      obtain ⟨habove', hu⟩ := (SMap.sorted_cons _ u).mp hn
      have htu : t = u := ih ht hu fun j => by
        by_cases hj : j = k
        · rw [SMap.get?_eq_none_of_above habove hj.le, SMap.get?_eq_none_of_above habove' hj.le]
        · simpa [SMap.get?_cons, hj] using h j
      rw [htu]

end Stores

/-! ### The register file's canonical form (log entry 1) -/

theorem regsCanonical_wr {s : State} (a v : Nat) (h : s.regsCanonical) : (wr s a v).regsCanonical := by
  obtain ⟨hsorted, hreset⟩ := h
  refine ⟨wr_sorted s a v hsorted, fun x hx => ?_⟩
  rcases SMap.mem_or_eq_of_mem_set hx with hold | ⟨rfl, hne⟩
  · exact hreset x hold
  · exact hne

theorem regsCanonical_wrf {s : State} (a hi lo v : Nat) (h : s.regsCanonical) : (wrf s a hi lo v).regsCanonical :=
  regsCanonical_wr a _ h

theorem regsCanonical_wrq {s : State} (a v : Nat) (h : s.regsCanonical) : (wrq s a v).regsCanonical :=
  regsCanonical_wr _ _ (regsCanonical_wr _ _ h)

theorem regsCanonical_addCnt {s : State} (a n : Nat) (h : s.regsCanonical) : (addCnt s a n).regsCanonical :=
  regsCanonical_wrq a _ h

/-- What a canonical register file lists is decided by what its registers read. -/
theorem get?_regs_of_canonical {s : State} (h : s.regsCanonical) (a : Nat) :
    s.regs.get? a = if rdw s a = resetWord a then none else some (rdw s a) := by
  unfold rdw
  cases hget : s.regs.get? a with
  | none => simp
  | some w =>
    have hne : w ≠ resetWord a := h.2 (a, w) (SMap.mem_of_get?_eq_some hget)
    simp [hne]

theorem regs_eq_of_rd_eq {s t : State} (hs : s.regsCanonical) (ht : t.regsCanonical) (h : ∀ a, rd s a = rd t a) :
    s.regs = t.regs := by
  refine SMap.eq_of_get?_eq hs.1 ht.1 fun a => ?_
  have hw : rdw s a = rdw t a := BitVec.eq_of_toNat_eq (h a)
  rw [get?_regs_of_canonical hs, get?_regs_of_canonical ht, hw]

/-- Settles O9: every write goes through `wr`, which keeps the form, and a canonical file is fixed by what it reads. -/
theorem registerFileIsCanonical : Obligations.RegisterFileIsCanonical :=
  ⟨fun _ a v hi lo h => ⟨regsCanonical_wr a v h, regsCanonical_wrf a hi lo v h, regsCanonical_addCnt a v h⟩,
   fun _ _ hs ht h => regs_eq_of_rd_eq hs ht h⟩

/-! ### Access types (R13) -/

/-- Numbers with no common bit add without a carry. -/
theorem add_eq_lor_of_land_eq_zero {a b : Nat} (h : a &&& b = 0) : a + b = a ||| b := by
  have hlt : a + b < 2 ^ (a + b) := Nat.lt_two_pow_self
  have ha : a < 2 ^ (a + b) := by omega
  have hb : b < 2 ^ (a + b) := by omega
  have hand : BitVec.ofNat (a + b) a &&& BitVec.ofNat (a + b) b = 0#(a + b) := by
    rw [← BitVec.ofNat_and, h]
  have hadd := congrArg BitVec.toNat (BitVec.add_eq_or_of_and_eq_zero _ _ hand)
  simpa [Nat.mod_eq_of_lt hlt, Nat.mod_eq_of_lt ha, Nat.mod_eq_of_lt hb] using hadd

/-- Taking the bits of a mask away from a number clears them. -/
theorem sub_land_eq_ldiff (a m : Nat) : a - (a &&& m) = a.ldiff m := by
  have hdisj : (a &&& m) &&& a.ldiff m = 0 := Nat.eq_of_testBit_eq fun i => by
    cases hm : m.testBit i <;> simp [Nat.testBit_ldiff, hm]
  have hor : (a &&& m) ||| a.ldiff m = a := Nat.eq_of_testBit_eq fun i => by
    cases hm : m.testBit i <;> simp [Nat.testBit_ldiff, hm]
  have hadd := add_eq_lor_of_land_eq_zero hdisj
  omega

/-- A written word as bit operations alone: what is kept, what is taken, what is set. -/
theorem typedWord_eq_lor (r : RegRow) (w old v : Nat) :
    typedWord r w old v =
      old.ldiff ((r.mask r.rw w ||| r.mask r.wo w) ||| (r.mask r.w1c w &&& v)) |||
        (v &&& (r.mask r.rw w ||| r.mask r.wo w)) ||| (r.mask r.w1s w &&& v) := by
  simp only [typedWord, sub_land_eq_ldiff]
  rw [add_eq_lor_of_land_eq_zero]
  generalize r.mask r.rw w ||| r.mask r.wo w = take
  refine Nat.eq_of_testBit_eq fun i => ?_
  cases htake : take.testBit i <;> simp [Nat.testBit_ldiff, htake]

/-- Settles O10: bit i of the word, by whether the register takes it. -/
theorem writtenBitsFollowTheirAccessType : Obligations.WrittenBitsFollowTheirAccessType := by
  intro r w old v i
  simp only [typedWord_eq_lor, Nat.testBit_or, Nat.testBit_and, Nat.testBit_ldiff]
  split
  · next htaken => simp [htaken]
  · next hkept => simp [hkept]

/-! ### What `exec` answers: every command is a `run` -/

/-- Every arm of the dispatch runs its command on the state its effect leaves. -/
theorem exec_eq_run (c : Instr) (s : State) : ∃ t, exec c s = run s c t := by
  cases c <;> exact ⟨_, rfl⟩

/-- A command whose units exist and have power answers its effect, settled. -/
theorem exec_of_run {c : Instr} {s t u : State} (hrun : exec c s = run s c t) (heff : t = u) (hwf : c.wf = true)
    (hacts : acts s c = true) : exec c s = .next (settle s u) := by
  rw [hrun, run_wf s c t hwf hacts, heff]

theorem access_of_served {req : Requester} {f : State → State} {s : State} (h : unserved req s = false) :
    access req f s = f (hostRaise req s) := by
  simp [access, h]

/-- A register access that is served answers its meaning on the raised state, settled. -/
theorem exec_of_access {c : Instr} {s : State} {req : Requester} {f : State → State}
    (hrun : exec c s = run s c (access req f s)) (hwf : c.wf = true) (hacts : acts s c = true) (hserved : unserved req s = false) :
    exec c s = .next (settle s (f (hostRaise req s))) :=
  exec_of_run hrun (access_of_served hserved) hwf hacts

/-- From Doze up every command acts that is neither the fabric's nor the cluster's. -/
theorem acts_of_rung_le_two {s : State} {c : Instr} (hfab : fabricCmd c = false) (hclu : clusterCmd c = false)
    (h : rung s ≤ 2) : acts s c = true := by
  simp [acts, hfab, hclu, h]

/-- Settles O1: it is `step` on a queue that is not empty. -/
theorem frontCommandRuns : Obligations.FrontCommandRuns := by
  intro s c rest hpending
  simp only [step, hpending]

/-- Settles O3: every arm is a `run`, which refuses operands that name no unit. -/
theorem unknownUnitsRefused : Obligations.UnknownUnitsRefused := by
  intro s c hwf
  obtain ⟨t, hrun⟩ := exec_eq_run c s
  simp [hrun, run, hwf]

/-- Settles O6: right after reset the queue is empty, and the PCIe link is down as port 18's registers show. -/
theorem resetMeetsTheInvariant : Obligations.ResetMeetsTheInvariant :=
  ⟨rfl, by unfold State.hpAgrees; decide⟩

/-- Settles O7: after reset the register file lists nothing, so that every register reads its reset value. -/
theorem resetRegisterValues : Obligations.ResetRegisterValues := by
  refine ⟨rfl, rfl, rfl, rfl, ?_, ?_, ?_, ?_, ?_, ?_, ?_, ?_⟩ <;> decide

/-! ### Port 18's registers aside, `settle` changes no register -/

/-- A register of which `settle` writes no field. -/
abbrev NotPort18 (a : Nat) : Prop := a ≠ R.HDMA_STATUS ∧ a ≠ R.PORT18_HP_STATE ∧ a ≠ R.SCH_PORT_STATE 18

theorem rd_settle {a : Nat} (h : NotPort18 a) (s t : State) : rd (settle s t) a = rd t a := by
  obtain ⟨hd, hp, hs⟩ := h
  unfold settle hpShow
  rw [rd_wrf_other _ _ _ _ _ _ hs, rd_wrf_other _ _ _ _ _ _ hp, rd_wrf_other _ _ _ _ _ _ hd]
  rfl

theorem rdf_settle {a : Nat} (h : NotPort18 a) (s t : State) (hi lo : Nat) : rdf (settle s t) a hi lo = rdf t a hi lo := by
  rw [rdf, rd_settle h, rdf]

theorem rdb_settle {a : Nat} (h : NotPort18 a) (s t : State) (i : Nat) : rdb (settle s t) a i = rdb t a i := by
  rw [rdb, rd_settle h, rdb]

theorem cnt_settle {a : Nat} (h : NotPort18 a) (h4 : NotPort18 (a + 4)) (s t : State) : cnt (settle s t) a = cnt t a := by
  rw [cnt, rd_settle h, rd_settle h4, cnt]

/-! ### Updates that write listed registers alone -/

/-- `t` is `s` but for the registers listed. -/
def WritesOnly (l : List Nat) (s t : State) : Prop := t = { s with regs := t.regs } ∧ ∀ a, a ∉ l → rd t a = rd s a

theorem WritesOnly.refl (l : List Nat) (s : State) : WritesOnly l s s := ⟨rfl, fun _ _ => rfl⟩

theorem WritesOnly.wr {l : List Nat} {s t : State} {a : Nat} (h : WritesOnly l s t) (ha : a ∈ l) (v : Nat) :
    WritesOnly l s (wr t a v) := by
  obtain ⟨hstate, hregs⟩ := h
  refine ⟨?_, fun b hb => ?_⟩
  · rw [hstate]; rfl
  · rw [rd_wr_other _ _ _ _ (fun e : b = a => hb (e ▸ ha)), hregs b hb]

theorem WritesOnly.wrf {l : List Nat} {s t : State} {a : Nat} (h : WritesOnly l s t) (ha : a ∈ l) (hi lo v : Nat) :
    WritesOnly l s (wrf t a hi lo v) := h.wr ha _

theorem WritesOnly.wrq {l : List Nat} {s t : State} {a : Nat} (h : WritesOnly l s t) (ha : a ∈ l) (ha4 : a + 4 ∈ l) (v : Nat) :
    WritesOnly l s (wrq t a v) := (h.wr ha _).wr ha4 _

/-- What a command that writes registers alone leaves: the raised state, the queue as it was, and those registers. -/
theorem WritesOnly.settle {l : List Nat} {h u : State} (hu : WritesOnly l h u) (s : State) :
    settle s u = { h with pending := s.pending, regs := (settle s u).regs } ∧
    ∀ a, a ∉ l → a ≠ R.HDMA_STATUS → a ≠ R.PORT18_HP_STATE → a ≠ R.SCH_PORT_STATE 18 → rd (settle s u) a = rd h a := by
  obtain ⟨hstate, hregs⟩ := hu
  obtain ⟨m, hm⟩ := settle_regs s u
  refine ⟨?_, fun a ha hd hp hs => (rd_settle ⟨hd, hp, hs⟩ s u).trans (hregs a ha)⟩
  rw [hm, hstate]

theorem latchDo_writesOnly (s : State) :
    WritesOnly [R.TIM_LATCH_DEV, R.TIM_LATCH_DEV + 4, R.TIM_LATCH_SEC, R.TIM_LATCH_SEC + 4, R.TIM_LATCH_NS, R.TIM_CMD_STATUS] s
      (latchDo s) := by
  unfold latchDo
  exact ((((WritesOnly.refl _ s).wrq (by simp) (by simp) _).wrq (by simp) (by simp) _).wr (by simp) _).wrf (by simp) _ _ _

theorem cnt_wr_other {a b : Nat} (h : a ≠ b) (h4 : a + 4 ≠ b) (s : State) (v : Nat) : cnt (wr s b v) a = cnt s a := by
  rw [cnt, rd_wr_other _ _ _ _ h, rd_wr_other _ _ _ _ h4, cnt]

theorem cnt_wrf_other {a b : Nat} (h : a ≠ b) (h4 : a + 4 ≠ b) (s : State) (hi lo v : Nat) :
    cnt (wrf s b hi lo v) a = cnt s a := cnt_wr_other h h4 s _

/-- Two counters that do not overlap. -/
theorem cnt_wrq_other {a b : Nat} (h : a + 4 < b ∨ b + 4 < a) (s : State) (v : Nat) : cnt (wrq s b v) a = cnt s a := by
  rw [wrq, cnt_wr_other (by omega) (by omega), cnt_wr_other (by omega) (by omega)]

/-- What LATCH leaves in its registers (R276). -/
theorem latchDo_reads (s : State) :
    cnt (latchDo s) R.TIM_LATCH_DEV = s.devNs % 2 ^ 64 ∧ cnt (latchDo s) R.TIM_LATCH_SEC = s.globalNs / 1000000000 % 2 ^ 48 ∧
    rd (latchDo s) R.TIM_LATCH_NS = s.globalNs % 1000000000 ∧ rdf (latchDo s) R.TIM_CMD_STATUS 7 0 = 0 := by
  unfold latchDo
  refine ⟨?_, ?_, ?_, ?_⟩
  · rw [cnt_wrf_other (by decide) (by decide), cnt_wr_other (by decide) (by decide), cnt_wrq_other (by decide), cnt_wrq]
  · rw [cnt_wrf_other (by decide) (by decide), cnt_wr_other (by decide) (by decide), cnt_wrq, wrq_globalNs]
    omega
  · rw [rd_wrf_other _ _ _ _ _ _ (by decide), rd_wr_same, wrq_globalNs, wrq_globalNs]
    omega
  · exact rdf_wrf_same _ _ _ _ _ (by decide) (by decide)

theorem gafRungLimitDo_eq_wr {req : Requester} {val : Word} (h : val.toNat % 8 ≤ 5) (s : State) :
    gafRungLimitDo req val s = wr s R.GAF_RUNG_LIMIT (val.toNat % 8) :=
  if_neg (Nat.not_lt.mpr h)

theorem hostWakeAckDo_eq_wrf {val : Word} (h : val.toNat.testBit 0 = true) (s : State) :
    hostWakeAckDo val s = wrf (wrf s R.GAF_HOST 1 1 0) R.GAF_CMD_STATUS 7 0 0 := if_pos h

/-- What HOST_WAKE_ACK leaves in its registers (R366). -/
theorem hostWakeAckDo_reads {val : Word} (h : val.toNat.testBit 0 = true) (s : State) :
    rdb (hostWakeAckDo val s) R.GAF_HOST 1 = false ∧
    (∀ i, i ≠ 1 → rdb (hostWakeAckDo val s) R.GAF_HOST i = rdb s R.GAF_HOST i) ∧
    rdf (hostWakeAckDo val s) R.GAF_CMD_STATUS 7 0 = 0 := by
  rw [hostWakeAckDo_eq_wrf h]
  refine ⟨?_, fun i hi => ?_, rdf_wrf_same _ _ _ _ _ (by decide) (by decide)⟩
  · rw [rdb_wrf_other _ _ _ _ _ _ _ (by decide), rdb_wrf_bit _ _ _ _ (by decide), Nat.zero_testBit]
  · rw [rdb_wrf_other _ _ _ _ _ _ _ (by decide), rdb_wrf_outside _ _ _ _ _ _ (by decide) (by decide) (by omega)]

theorem notice_ne_peak (w : Nat) : R.CPL_WM_NOTICE w ≠ R.CPL_WM_PEAK w := by
  simp only [R.CPL_WM_NOTICE, R.CPL_WM_PEAK]; omega

/-- What WM_CLR_STATS leaves in its registers (R95). -/
theorem wmClrStatsDo_reads (w : Nat) (s : State) :
    rdf (wmClrStatsDo w s) (R.CPL_WM_NOTICE w) 15 0 = 0 ∧ rd (wmClrStatsDo w s) (R.CPL_WM_PEAK w) = rd s (R.CPL_WM_LIVE w) ∧
    ∀ i, 16 ≤ i → rdb (wmClrStatsDo w s) (R.CPL_WM_NOTICE w) i = rdb s (R.CPL_WM_NOTICE w) i := by
  unfold wmClrStatsDo
  refine ⟨?_, ?_, fun i hi => ?_⟩
  · rw [rdf_wr_other _ _ _ _ _ _ (notice_ne_peak w), rdf_wrf_same _ _ _ _ _ (by decide) (by decide), Nat.zero_mod]
  · rw [rd_wr_same, Nat.mod_eq_of_lt (rd_lt _ _)]
  · rw [rdb_wr_other _ _ _ _ _ (notice_ne_peak w), rdb_wrf_outside _ _ _ _ _ _ (by decide) (by decide) (by omega)]

theorem stallLimit_eq_wr {req : Requester} {v : Nat} (h1 : 1 ≤ v) (h2 : v ≤ 1000) (s : State) :
    stallLimit req v s = wr s R.CPL_STALL_LIMIT v := if_pos ⟨h1, h2⟩

/-- Settles O12: each effect writes the registers listed alone, and `settle` port 18's. -/
theorem registerOnlyCommandsFrame : Obligations.RegisterOnlyCommandsFrame := by
  intro s req hr hserved h frame
  have acting {c : Instr} (hfab : fabricCmd c = false) (hclu : clusterCmd c = false) : acts s c = true :=
    acts_of_rung_le_two hfab hclu hr
  refine ⟨?latch, fun val hval => ?rungLimit, fun val hval => ?wakeAck, fun w hw => ?clrStats, fun val h1 h2 => ?stallLimit⟩
  case latch =>
    obtain ⟨hdev, hsec, hns, hres⟩ := latchDo_reads h
    exact ⟨settle s (latchDo h), exec_of_access rfl rfl (acting rfl rfl) hserved,
      (cnt_settle (by decide) (by decide) _ _).trans hdev, (cnt_settle (by decide) (by decide) _ _).trans hsec,
      (rd_settle (by decide) _ _).trans hns, (rdf_settle (by decide) _ _ _ _).trans hres, (latchDo_writesOnly h).settle s⟩
  case rungLimit =>
    refine ⟨settle s (gafRungLimitDo req val h), exec_of_access rfl rfl (acting rfl rfl) hserved, ?_⟩
    rw [gafRungLimitDo_eq_wr hval]
    refine ⟨?_, ((WritesOnly.refl _ h).wr (by simp) _).settle s⟩
    rw [rd_settle (by decide), rd_wr_same]
    omega
  case wakeAck =>
    obtain ⟨hack, hkept, hres⟩ := hostWakeAckDo_reads hval h
    refine ⟨settle s (hostWakeAckDo val h), exec_of_access rfl rfl (acting rfl rfl) hserved,
      (rdb_settle (by decide) _ _ _).trans hack, fun i hi => (rdb_settle (by decide) _ _ _).trans (hkept i hi),
      (rdf_settle (by decide) _ _ _ _).trans hres, ?_⟩
    rw [hostWakeAckDo_eq_wrf hval]
    exact (((WritesOnly.refl _ h).wrf (by simp) _ _ _).wrf (by simp) _ _ _).settle s
  case clrStats =>
    have hnotice : NotPort18 (R.CPL_WM_NOTICE w) := by
      simp only [NotPort18, R.CPL_WM_NOTICE, R.HDMA_STATUS, R.PORT18_HP_STATE, R.SCH_PORT_STATE]; omega
    have hpeak : NotPort18 (R.CPL_WM_PEAK w) := by
      simp only [NotPort18, R.CPL_WM_PEAK, R.HDMA_STATUS, R.PORT18_HP_STATE, R.SCH_PORT_STATE]; omega
    obtain ⟨hcross, hlive, hkept⟩ := wmClrStatsDo_reads w h
    exact ⟨settle s (wmClrStatsDo w h), exec_of_access rfl (decide_eq_true hw) (acting rfl rfl) hserved,
      (rdf_settle hnotice _ _ _ _).trans hcross, (rd_settle hpeak _ _).trans hlive,
      fun i hi => (rdb_settle hnotice _ _ _).trans (hkept i hi),
      (((WritesOnly.refl _ h).wrf (by simp) _ _ _).wr (by simp) _).settle s⟩
  case stallLimit =>
    refine ⟨settle s (stallLimit req (fld val.toNat 9 0) h), exec_of_access rfl rfl (acting rfl rfl) hserved, ?_⟩
    rw [stallLimit_eq_wr h1 h2]
    refine ⟨?_, ((WritesOnly.refl _ h).wr (by simp) _).settle s⟩
    rw [rd_settle (by decide), rd_wr_same]
    omega

/-! ### Commands that report: what their effects can touch -/

/-- `t` is `s` but for what a report may touch: registers, outputs, the router, host rings, the recorder, the gaffer, the end
of the pulse under way, and the run of the Ethernet ports `eths` and the LIN channels `lins`. -/
def ReportsOn (eths lins : List Nat) (s t : State) : Prop :=
  t = { s with regs := t.regs, out := t.out, readData := t.readData, router := t.router, host := t.host, recd := t.recd, gaf := t.gaf
               ports := { s.ports with eth := t.ports.eth, lin := t.ports.lin }, tim := { s.tim with ppsFall := t.tim.ppsFall } } ∧
  (∀ q, q ∉ eths → t.ports.eth.get? q = s.ports.eth.get? q) ∧
  (∀ m, m ∉ lins → t.ports.lin.get? m = s.ports.lin.get? m)

namespace ReportsOn

variable {eths lins : List Nat} {s t u : State}

theorem trans (h : ReportsOn eths lins s t) (k : ReportsOn eths lins t u) : ReportsOn eths lins s u := by
  obtain ⟨hstate, heth, hlin⟩ := h
  obtain ⟨kstate, keth, klin⟩ := k
  refine ⟨?_, fun q hq => (keth q hq).trans (heth q hq), fun m hm => (klin m hm).trans (hlin m hm)⟩
  rw [kstate, hstate]

/-- What raising a source touches, a report may touch. -/
theorem of_kept (h : Kept s t) : ReportsOn eths lins s t := by
  obtain ⟨_, _, _, _, _, _, rfl⟩ := (Kept.iff s t).mp h
  exact ⟨rfl, fun _ _ => rfl, fun _ _ => rfl⟩

theorem refl (s : State) : ReportsOn eths lins s s := of_kept (.refl s)

theorem setEth {p : Nat} (hp : p ∈ eths) (e : EthPort) (s : State) : ReportsOn eths lins s (setEth p e s) :=
  ⟨rfl, fun q hq => SMap.get?_put_other _ _ _ _ fun heq : q = p => hq (heq ▸ hp), fun _ _ => rfl⟩

theorem setLin {m : Nat} (hm : m ∈ lins) (e : LinChan) (s : State) : ReportsOn eths lins s (setLin m e s) :=
  ⟨rfl, fun _ _ => rfl, fun n hn => SMap.get?_put_other _ _ _ _ fun heq : n = m => hn (heq ▸ hm)⟩

theorem answer (v : List Nat) (s : State) : ReportsOn eths lins s (answer v s) := ⟨rfl, fun _ _ => rfl, fun _ _ => rfl⟩

theorem ppsFall (x : Option Nat) (s : State) : ReportsOn eths lins s { s with tim := { s.tim with ppsFall := x } } :=
  ⟨rfl, fun _ _ => rfl, fun _ _ => rfl⟩

theorem ite {p : Prop} [Decidable p] (h : ReportsOn eths lins s t) (k : ReportsOn eths lins s u) :
    ReportsOn eths lins s (if p then t else u) := by
  split <;> assumption

/-- The queue is as it was in any case, and port 18's registers are registers. -/
theorem settle (h : ReportsOn eths lins s t) : ReportsOn eths lins s (settle s t) := by
  obtain ⟨hstate, heth, hlin⟩ := h
  obtain ⟨m, hm⟩ := settle_regs s t
  rw [hm]
  refine ⟨?_, heth, hlin⟩
  conv_lhs => rw [hstate]

end ReportsOn

/-! The effect of each reporting command. -/

section Effects

variable {eths lins : List Nat}

theorem sqiUpdateDo_reportsOn {p : Nat} (hp : p ∈ eths) (sqi : Nat) (s : State) :
    ReportsOn eths lins s (sqiUpdateDo p sqi s) := by
  unfold sqiUpdateDo
  extract_lets s1 e n s2
  have h1 : ReportsOn eths lins s s1 := .of_kept (.wrf _ _ _ _ _)
  clear_value s1
  have h2 : ReportsOn eths lins s s2 := h1.trans (.setEth hp _ _)
  clear_value s2
  exact .ite (h1.trans (.setEth hp _ _)) (.ite (h2.trans (.of_kept (.portCause _ _ _ _))) h2)

theorem plcaBeaconLossDo_kept (p : Nat) (s : State) : Kept s (plcaBeaconLossDo p s) := by
  unfold plcaBeaconLossDo
  exact .ite (((Kept.wrf _ _ _ _ _).trans (.inc _ _)).trans (.portCause _ _ _ _)) (.refl s)

theorem linNoResponseDo_reportsOn {m : Nat} (hm : m ∈ lins) (s : State) : ReportsOn eths lins s (linNoResponseDo m s) := by
  unfold linNoResponseDo
  exact .ite (.refl s) ((ReportsOn.setLin hm _ s).trans (.of_kept ((Kept.inc _ _).trans (.portCause _ _ _ _))))

theorem ppsEnd_reportsOn (s : State) : ReportsOn eths lins s (ppsEnd s) := by
  unfold ppsEnd
  exact .ite ((ReportsOn.ppsFall none s).trans (.of_kept (.emit _ _))) (.refl s)

theorem ppsLandFaultDo_reportsOn (s : State) : ReportsOn eths lins s (ppsLandFaultDo s) := by
  unfold ppsLandFaultDo
  exact (ppsEnd_reportsOn s).trans (.of_kept (((Kept.gaf _ _).trans (.inc _ _)).trans (.raise _ _)))

theorem ppsRise_reportsOn (s : State) : ReportsOn eths lins s (ppsRise s) := by
  unfold ppsRise
  exact .ite (.ppsFall _ s) ((ReportsOn.ppsFall _ s).trans (.of_kept (.emit _ _)))

theorem traceSampleAdjustDo_kept (s : State) : Kept s (traceSampleAdjustDo s) := by
  unfold traceSampleAdjustDo
  extract_lets held hwm k up quiet s1 k1
  have h1 : Kept s s1 := .ite ((Kept.wrf _ _ _ _ _).trans (.raise _ _)) (.refl s)
  clear_value s1
  exact .ite (h1.trans ((Kept.wrf _ _ _ _ _).trans (.recd _ _))) (h1.trans (.recd _ _))

theorem gapRecordDo_kept (ring : Nat) (g : GapCount) (s : State) : Kept s (gapRecordDo ring g s) := by
  unfold gapRecordDo
  extract_lets body x _ s1 r
  have hr : Kept s r.2 := (Kept.recd s _).trans (.recPush _ _ _)
  clear_value r
  exact .ite (hr.trans ((Kept.inc _ _).trans (.raise _ _))) (hr.trans (.recd _ _))

theorem evtHoldoffExpireDo_kept (v : Nat) (x : VecState) (s : State) : Kept s (evtHoldoffExpireDo v x s) := by
  unfold evtHoldoffExpireDo
  exact (Kept.router s _).trans (.msix _ _)

theorem popStallExpireDo_reportsOn (req : Requester) (x : Stall) (s : State) :
    ReportsOn eths lins s (popStallExpireDo req x s) := by
  unfold popStallExpireDo
  exact (ReportsOn.of_kept (.router s _)).trans (.answer _ _)

end Effects

/-- The Ethernet port that a report names. -/
def reportedEth : Instr → List Nat
  | .sqiUpdate p _ | .plcaBeaconLoss p => [p]
  | _ => []

/-- The LIN channel that a report names. -/
def reportedLin : Instr → List Nat
  | .linNoResponse m => [m]
  | _ => []

theorem not_mem_reportedEth {c : Instr} {q : Nat} (hsqi : ∀ x, c ≠ .sqiUpdate q x) (hplca : c ≠ .plcaBeaconLoss q) :
    q ∉ reportedEth c := by
  unfold reportedEth
  split <;> simp_all [eq_comm]

theorem not_mem_reportedLin {c : Instr} {m : Nat} (h : c ≠ .linNoResponse m) : m ∉ reportedLin c := by
  unfold reportedLin
  split <;> simp_all [eq_comm]

/-- A command that reports. -/
def IsReport (c : Instr) : Prop :=
  (∃ p q, c = .sqiUpdate p q) ∨ (∃ p, c = .plcaBeaconLoss p) ∨ (∃ m, c = .linNoResponse m) ∨ c = .ppsLandFault ∨
    c = .ppsPulse ∨ c = .traceSampleAdjust ∨ (∃ r, c = .gapRecord r) ∨ (∃ v, c = .evtHoldoffExpire v) ∨
    (∃ k, c = .completionCoalesceExpire k) ∨ (∃ req, c = .popStallExpire req) ∨ c = .spiStatus

/-- The effect of a command that reports stays within what a report may touch. -/
theorem exec_report {c : Instr} (hc : IsReport c) (s : State) :
    ∃ u, exec c s = run s c u ∧ ReportsOn (reportedEth c) (reportedLin c) s u := by
  obtain ⟨p, q, rfl⟩ | ⟨p, rfl⟩ | ⟨m, rfl⟩ | rfl | rfl | rfl | ⟨r, rfl⟩ | ⟨v, rfl⟩ | ⟨k, rfl⟩ | ⟨req, rfl⟩ | rfl := hc
  · exact ⟨_, rfl, .ite (.refl s) (sqiUpdateDo_reportsOn (List.mem_singleton_self p) q s)⟩
  · exact ⟨_, rfl, .of_kept (plcaBeaconLossDo_kept p s)⟩
  · exact ⟨_, rfl, linNoResponseDo_reportsOn (List.mem_singleton_self m) s⟩
  · exact ⟨_, rfl, .ite (ppsLandFaultDo_reportsOn s) (.refl s)⟩
  · exact ⟨_, rfl, .ite (ppsRise_reportsOn s) (.refl s)⟩
  · exact ⟨_, rfl, .of_kept (traceSampleAdjustDo_kept s)⟩
  · refine ⟨_, rfl, ?_⟩
    split
    · exact .refl s
    · exact .of_kept (gapRecordDo_kept r _ s)
  · refine ⟨_, rfl, ?_⟩
    split
    · exact .refl s
    · exact .ite (.of_kept (evtHoldoffExpireDo_kept v _ s)) (.refl s)
  · refine ⟨_, rfl, ?_⟩
    split
    · exact .refl s
    · exact .ite (.of_kept (.ringSignal k s)) (.refl s)
  · refine ⟨_, rfl, ?_⟩
    split
    · exact .refl s
    · exact .ite (popStallExpireDo_reportsOn req _ s) (.refl s)
  · exact ⟨_, rfl, (ReportsOn.of_kept (.emit _ s)).trans (.answer _ _)⟩

/-- Settles O13: whether the command acts or its unit has no power, what it leaves is a report's effect, settled. -/
theorem reportingCommandsFrame : Obligations.ReportingCommandsFrame := by
  intro s t c hc hexec
  obtain ⟨u, hrun, hu⟩ := exec_report hc s
  have ht : ReportsOn (reportedEth c) (reportedLin c) s t := by
    rcases run_next s c u t (hrun ▸ hexec) with rfl | ⟨_, rfl⟩
    · exact hu.settle
    · exact (ReportsOn.refl s).settle
  obtain ⟨hstate, heth, hlin⟩ := ht
  exact ⟨hstate, fun q hsqi hplca => heth q (not_mem_reportedEth hsqi hplca), fun m h => hlin m (not_mem_reportedLin h)⟩

/-! ### Writes of the register map (R12, R13) -/

/-- A whole word written to BAR 0 answers what the register map makes of it. -/
theorem exec_registerWrite {s : State} {req : Requester} {a : Nat} {v : Word} (hr : rung s ≤ 2) (hserved : unserved req s = false)
    (hbar : a < bar2Base) : exec (.registerWrite req a 15 v) s = .next (settle s (regWrite req a v (hostRaise req s))) := by
  refine exec_of_run rfl ?_ rfl (acts_of_rung_le_two rfl rfl hr)
  simp [registerWriteDo, Nat.not_le.mpr hbar, access_of_served hserved]

theorem regWrite_of_plain {req : Requester} {a : Nat} {v : Word} (hfw : (reqIsHost req && fwReserved a) = false)
    (hcmd : (cmdWrite req a v).isNone = true) (s : State) : regWrite req a v s = plainWrite req a v s := by
  rw [Option.isNone_iff_eq_none] at hcmd
  simp [regWrite, hfw, hcmd]

/-- A register loaded from the call sheet refuses the write (R13). -/
theorem plainWrite_of_sheetLoaded {req : Requester} {a : Nat} {v : Word} {r : RegRow} {w : Nat} (hat : regAt a = some (r, w))
    (hrl : r.mask r.rl w ≠ 0) (s : State) : plainWrite req a v s = deniedWrite req a s := by
  simp [plainWrite, hat, hrl]

section Plain

variable {req : Requester} {a : Nat} {v : Word} {r : RegRow} {w : Nat} {s : State} (hat : regAt a = some (r, w))
  (hvault : a >>> 24 ≠ 9) (hrl : r.mask r.rl w = 0) (hrange : rangeDenied s a v = false)
include hat hvault hrl hrange

/-- A register with nothing to write ignores the word. -/
theorem plainWrite_of_readOnly (hmask : r.mask r.rw w ||| r.mask r.wo w ||| r.mask r.w1c w ||| r.mask r.w1s w = 0) :
    plainWrite req a v s = s := by
  simp [plainWrite, hat, hvault, hrl, hrange, hmask]

/-- A register takes the word by its access types; a W1C bit set at this instant stays set (R14). -/
theorem plainWrite_of_writable (hmask : r.mask r.rw w ||| r.mask r.wo w ||| r.mask r.w1c w ||| r.mask r.w1s w ≠ 0)
    (hnotice : (idxIn (R.CPL_WM_NOTICE 0) 0x10 64 a).isNone = true) :
    plainWrite req a v s = afterWrite a v (wr s a (typedWord r w (rd s a)
      (v.toNat - (v.toNat &&& r.mask r.w1c w &&& s.router.w1cSet.getD a 0)))) := by
  rw [Option.isNone_iff_eq_none] at hnotice
  simp only [plainWrite, hat, hrl, hrange, hvault, hnotice, if_neg hmask]
  simp

end Plain

/-- Settles O11: the write reaches `plainWrite` on the raised state, which goes by the register's access types. -/
theorem registerWriteByAccessType : Obligations.RegisterWriteByAccessType := by
  intro s req a v r w _ hr hserved hbar hfw hcmd hat hvault
  rw [exec_registerWrite hr hserved hbar, regWrite_of_plain hfw hcmd]
  refine ⟨fun hrl => ?_, fun hrl hrange hmask => ?_, fun hrl hrange hmask hnotice => ?_⟩
  · rw [plainWrite_of_sheetLoaded hat hrl]
  · rw [plainWrite_of_readOnly hat hvault hrl hrange hmask]
  · rw [plainWrite_of_writable hat hvault hrl hrange hmask hnotice]

/-! ### Completion of the host's accesses -/

/-- Settles O55: a register access answers its meaning on the raised state, any other command its effect where the condition
of the command holds. -/
theorem hostAccessCommandsComplete : Obligations.HostAccessCommandsComplete := by
  refine ⟨?ringWait, ?tsReq, ?coalesce, ?dmaError, ?descFetch, ?linkUp, ?pcieReset, ?inject, ?mbxTimeout, ?mbxAnswer, ?mbxOther,
    ?mbxFirmware, ?mbxInvalidate, ?mbxScene, ?holdoff, ?tickPush, ?fifoPop, ?frameSelect, ?cplFree, ?cplPop, ?stallLimit,
    ?popStall⟩
  case ringWait | pcieReset | tickPush => exact fun s ha => exec_of_run rfl rfl rfl ha
  case tsReq => exact fun s k hwf ha => exec_of_run rfl rfl hwf ha
  case coalesce =>
    intro s k u hwf ha hunsig hdue
    exact exec_of_run rfl (by rw [hunsig]; exact if_pos hdue) hwf ha
  case dmaError => exact fun s k hwf ha hruns => exec_of_run rfl (if_pos hruns) hwf ha
  case descFetch => exact fun s k data ecc hwf ha => exec_of_run rfl rfl hwf ha
  case linkUp => exact fun s gen width bme hwf ha hon => exec_of_run rfl (if_neg hon) hwf ha
  case inject =>
    exact fun s req slot val hwf ha hserved =>
      exec_of_access (f := fun s => stageSync (cpTx req slot val.toNat s)) rfl hwf ha hserved
  case mbxTimeout => exact fun s ha hdue => exec_of_run rfl (if_pos hdue) rfl ha
  case mbxAnswer | mbxOther | mbxFirmware | mbxInvalidate | mbxScene | cplFree | stallLimit =>
    exact fun s req val hwf ha hserved => exec_of_access rfl hwf ha hserved
  case holdoff =>
    intro s v x hwf ha hvec hdue
    exact exec_of_run rfl (by rw [hvec]; exact if_pos hdue) hwf ha
  case fifoPop => exact fun s req t dwords be hwf ha hserved => exec_of_access rfl hwf ha hserved
  case frameSelect => exact fun s req w val ecc hwf ha hserved => exec_of_access rfl hwf ha hserved
  case cplPop => exact fun s req k dwords be ecc hwf ha hserved => exec_of_access rfl hwf ha hserved
  case popStall =>
    intro s req x hwf ha hfind hdue
    exact exec_of_run rfl (by rw [hfind]; exact if_pos hdue) hwf ha

/-- Settles O56: all but the SPI's status poll and REGISTER_WRITE are register accesses. -/
theorem registerAndSpiCommandsComplete : Obligations.RegisterAndSpiCommandsComplete := by
  unfold Obligations.RegisterAndSpiCommandsComplete
  refine ⟨?doorbell, ?alarm, ?wakeAck, ?rungLimit, ?ringDisable, ?ringEnable, ?updAttest, ?updRestart, ?updDiscard, ?updConfirm,
    ?updActivate, ?updVerify, ?updCommit, ?updClose, ?updOpen, ?latch, ?stepToSet, ?gmAdj, ?svyGo, ?snapGo, ?releaseAuth,
    ?release, ?faultn, ?enterSafe, ?unfreeze, ?trigger, ?clrStats, ?clearSuppress, ?clearLatch, ?soSet, ?ethRestart, ?canRecover,
    ?reservedRead, ?spiStatus, ?spiRead, ?spiWrite, ?writeWord, ?writePart⟩
  case doorbell => exact fun s k prod hwf ha hserved => exec_of_access rfl hwf ha hserved
  case ringDisable | ringEnable | ethRestart | canRecover =>
    exact fun s req k val hwf ha hserved => exec_of_access rfl hwf ha hserved
  case alarm | wakeAck | rungLimit | gmAdj | svyGo | snapGo | faultn | clearSuppress | clearLatch | soSet =>
    exact fun s req val hwf ha hserved => exec_of_access rfl hwf ha hserved
  case updAttest | updRestart | updDiscard | updConfirm | updActivate | updVerify | updCommit | updClose | updOpen | latch |
      stepToSet | releaseAuth | release | enterSafe | unfreeze | trigger =>
    exact fun s req hwf ha hserved => exec_of_access rfl hwf ha hserved
  case clrStats => exact fun s req w hwf ha hserved => exec_of_access rfl hwf ha hserved
  case reservedRead => exact fun s req addr be dwords hwf ha hserved => exec_of_access rfl hwf ha hserved
  case spiStatus => exact fun s ha => exec_of_run rfl rfl rfl ha
  case spiRead => exact fun s addr count ready wait hwf ha hserved => exec_of_access rfl hwf ha hserved
  case spiWrite => exact fun s addr words cutShort hwf ha hserved => exec_of_access rfl hwf ha hserved
  case writeWord =>
    intro s req addr be val hwf ha hbe
    exact exec_of_run rfl (if_neg (not_not_intro hbe)) hwf ha
  case writePart => exact fun s req a be v hwf ha hbe => exec_of_run rfl (if_pos hbe) hwf ha

end Sys2Proof.Machine
end

section
/-! PROOFS of the completion statements for the lands and pins, the time base and the power ladder (R30 to R49, R240 to R282,
R353 to R369): each command's effect stands under one guard, and the statement's hypothesis decides it. -/

namespace Sys2Proof.Machine

/-- A command of the always-on domain or the line die answers its effect at every rung (R354). -/
theorem exec_of_alwaysOn {c : Instr} {s t u : State} (halways : alwaysOnCmd c = true) (hrun : exec c s = run s c t)
    (heff : t = u) (hwf : c.wf = true) : exec c s = .next (settle s u) :=
  exec_of_run hrun heff hwf (acts_of_alwaysOn s c halways)

/-! ### Survey, supply, LIN, switch inputs and safe outputs -/

/-- Settles O45: a measurement's or a frame's effect is its command's, and the others' stands under a condition that holds. -/
theorem landAndPinCommandsComplete : Obligations.LandAndPinCommandsComplete := by
  refine ⟨?survey, ?startConditions, ?roleSwap, ?polarity, ?reflectometry, ?termNoIdle, ?termMeasure, ?temperature, ?supply,
    ?feed, ?soCooled, ?soDiag, ?switches, ?linInactive, ?linSleep, ?linStuck, ?linHeader, ?linNoResponse, ?linResponse, ?linSlot⟩
  case survey => exact fun s items hwf ha => exec_of_run rfl rfl hwf ha
  case startConditions => exact fun s ha hopen => exec_of_run rfl (if_neg hopen) rfl ha
  case roleSwap | linStuck => exact fun s n hwf ha hmay => exec_of_run rfl (if_pos hmay) hwf ha
  case polarity => exact fun s ha hover => exec_of_run rfl (if_pos hover) rfl ha
  case reflectometry => exact fun s g results hwf ha => exec_of_run rfl rfl hwf ha
  case termNoIdle | linNoResponse => exact fun s n hwf ha => exec_of_run rfl rfl hwf ha
  case termMeasure => exact fun s n ohmX10 recH recL domDiff st hwf ha => exec_of_run rfl rfl hwf ha
  case temperature => exact fun s mainDie phyDie lineDie lid hwf ha => exec_of_run rfl rfl hwf ha
  case supply | switches => exact fun s mv hwf ha hrange => exec_of_run rfl (if_pos hrange) hwf ha
  case feed => exact fun s mvA mvB hwf ha hlost => exec_of_run rfl (if_pos hlost) hwf ha
  case soCooled => exact fun s k hwf ha hot => exec_of_run rfl (if_neg hot) hwf ha
  case soDiag => exact fun s k ma mv testMv tempC atLimit1ms mismatch1ms hwf ha => exec_of_run rfl rfl hwf ha
  case linInactive | linSleep => exact fun s m hwf ha hresponder => exec_of_run rfl (if_neg hresponder) hwf ha
  case linHeader => exact fun s m ident baud breakBits since readbackOk hwf ha => exec_of_run rfl rfl hwf ha
  case linResponse => exact fun s m ident data checksum framingErr room hwf ha => exec_of_run rfl rfl hwf ha
  case linSlot => exact fun s m readbackOk hwf ha => exec_of_run rfl rfl hwf ha

/-! ### Time base and statistics snapshots -/

/-- Settles O51: the PPS driver reconnects at every rung; a snapshot completes where one was taken. -/
theorem timeBaseCommandsComplete : Obligations.TimeBaseCommandsComplete := by
  refine ⟨?clockCheck, ?ppsReconnect, ?ppsFault, ?ppsPulse, ?holdover, ?syncTimeout, ?syncReceived, ?timeStep, ?pdelay,
    ?snapComplete, ?snapSchedule⟩
  case clockCheck => exact fun s ppm hwf ha hbeyond => exec_of_run rfl (if_neg hbeyond) hwf ha
  case ppsReconnect => exact fun s => exec_of_alwaysOn rfl rfl rfl rfl
  case ppsFault | ppsPulse | holdover => exact fun s ha hdue => exec_of_run rfl (if_pos hdue) rfl ha
  case syncTimeout => exact fun s d hwf ha => exec_of_run rfl rfl hwf ha
  case syncReceived =>
    exact fun s d p offsetNs originNs corrNs twoStep hwf ha hheard => exec_of_run rfl (if_neg hheard) hwf ha
  case timeStep => exact fun s ha => exec_of_run rfl rfl rfl ha
  case pdelay => exact fun s p delayNs nrrPpb hwf ha hptp => exec_of_run rfl (if_neg hptp) hwf ha
  case snapComplete =>
    intro s x ha hsnap htaken
    exact exec_of_run rfl (by rw [hsnap]; exact if_pos htaken) rfl ha
  case snapSchedule => exact fun s ha hdue => exec_of_run rfl (if_neg hdue) rfl ha

/-! ### Power ladder and wakes -/

/-- Settles O59: the gaffer's own commands act at every rung, the others where their unit has power. -/
theorem powerLadderCommandsComplete : Obligations.PowerLadderCommandsComplete := by
  refine ⟨?lowBatt, ?alarm, ?hostTimeout, ?wakeReq, ?swPoll, ?wake, ?resume, ?holdExit, ?holdEnter, ?rungReached, ?dwell,
    ?evaluate, ?unitStep, ?reservoir, ?railRetry, ?restart, ?powerFail, ?powerOn⟩
  case lowBatt => exact fun s mv hwf hready => exec_of_alwaysOn rfl rfl (if_neg hready) hwf
  case alarm | dwell => exact fun s hdue => exec_of_alwaysOn rfl rfl (if_neg hdue) rfl
  case hostTimeout => exact fun s ha => exec_of_run rfl rfl rfl ha
  case wakeReq => exact fun s low hwf hseen => exec_of_alwaysOn rfl rfl (if_neg hseen) hwf
  case swPoll => exact fun s k mv hwf hpolled => exec_of_alwaysOn rfl rfl (if_neg hpolled) hwf
  case wake =>
    intro s src hwf hlatched
    obtain ⟨hreset, hseen⟩ : s.gaf.inReset = false ∧ wakeSeen s src = true := by simpa using hlatched
    exact exec_of_alwaysOn rfl rfl (by simp [hreset, hseen]) hwf
  case resume => exact fun s digestOk kt hwf hresuming => exec_of_alwaysOn rfl rfl (if_neg hresuming) hwf
  case holdExit => exact fun s ha hsoon => exec_of_run rfl (if_pos hsoon) rfl ha
  case holdEnter => exact fun s ha hready => exec_of_run rfl (if_neg hready) rfl ha
  case rungReached => exact fun s slow hwf hmoving => exec_of_alwaysOn rfl rfl (if_neg hmoving) hwf
  case evaluate => exact fun s wakeReqN hwf hon => exec_of_alwaysOn rfl rfl (if_neg hon) hwf
  case unitStep =>
    exact fun s unit regulated waited microOk rail hwf ha hturn => exec_of_run rfl (if_neg hturn) hwf ha
  case reservoir => exact fun s tstDriven entropyFails hwf ha hcharging => exec_of_run rfl (if_neg hcharging) hwf ha
  case railRetry => exact fun s regulated hwf hheld => exec_of_alwaysOn rfl rfl (if_neg hheld) hwf
  case restart => exact fun s mv heldMs hwf hback => exec_of_alwaysOn rfl rfl (if_pos hback) hwf
  case powerFail => exact fun s mv lowMs hwf hlow => exec_of_alwaysOn rfl rfl (if_pos hlow) hwf
  case powerOn =>
    exact fun s mv tstDriven meshBroken reservoirLow entropyFails kt hwf hup => exec_of_alwaysOn rfl rfl (if_pos hup) hwf

end Sys2Proof.Machine
end

section
/-! PROOFS of the statements of ingress and lookup (R50 to R76): the CAN flood limiter, a meter's buckets and colours, the
numbering of streams, and the completion of the commands of reception and lookup. -/

namespace Sys2Proof.Machine

/-! ### The CAN flood limiter (R75) -/

/-- A limiter's state; one without a state yet has a full bucket (log entry 49). -/
def floodStateOf (s : State) (r : Nat) (l : Limiter) : FloodState :=
  s.lku.floodState.getD r ⟨l.burst * 1000000000, s.devNs, none, none⟩

/-- What a limiter's bucket holds now, in frames times 10⁹. -/
def floodTokens (s : State) (r : Nat) (l : Limiter) : Nat :=
  min (l.burst * 1000000000) ((floodStateOf s r l).tokens + l.rateFps * (s.devNs - (floodStateOf s r l).atNs))

/-- R75's two conditions for a frame that ended at `endNs`: a whole token, and the minimum spacing from the last admitted frame. -/
def FloodAdmits (s : State) (r endNs : Nat) (l : Limiter) : Prop :=
  1000000000 ≤ floodTokens s r l ∧ ∀ t, (floodStateOf s r l).lastAdmit = some t → l.spacingUs * 1000 ≤ endNs - t

/-- Limiter `r` in the state `x`. -/
def putFlood (r : Nat) (x : FloodState) (s : State) : State :=
  { s with lku := { s.lku with floodState := s.lku.floodState.put r x } }

theorem floodState_putFlood_same (r : Nat) (x : FloodState) (s : State) : (putFlood r x s).lku.floodState.get? r = some x :=
  SMap.get?_put_same _ _ _

theorem floodState_putFlood_other {r j : Nat} (h : j ≠ r) (x : FloodState) (s : State) :
    (putFlood r x s).lku.floodState.get? j = s.lku.floodState.get? j :=
  SMap.get?_put_other _ _ _ _ h

section Flood

variable {s : State} {r endNs : Nat} {l : Limiter} (hl : limiterOf s r = some l)
include hl

/-- An admitted frame takes its token, and nothing else changes. -/
theorem floodLimit_of_admits (h : FloodAdmits s r endNs l) :
    floodLimit r endNs s = (true, putFlood r
      ⟨floodTokens s r l - 1000000000, s.devNs, some endNs, (floodStateOf s r l).lastDrop⟩ s) := by
  obtain ⟨htoken, hspaced⟩ := h
  simp only [floodStateOf] at hspaced
  simp only [floodLimit, hl]
  refine if_pos ⟨htoken, ?_⟩
  split
  · next t hlast => exact decide_eq_true (hspaced t hlast)
  · rfl

theorem floodLimit_of_not_admits (h : ¬ FloodAdmits s r endNs l) : (floodLimit r endNs s).1 = false := by
  simp only [floodLimit, hl]
  rw [if_neg]
  rintro ⟨htoken, hspaced⟩
  refine h ⟨htoken, fun t hlast => ?_⟩
  rw [floodStateOf] at hlast
  simpa [hlast] using hspaced

theorem floodLimit_admits_iff : (floodLimit r endNs s).1 = true ↔ FloodAdmits s r endNs l := by
  by_cases h : FloodAdmits s r endNs l
  · simp [floodLimit_of_admits hl h, h]
  · simp [floodLimit_of_not_admits hl h, h]

end Flood

/-- Settles O16: the limiter lets through what meets both conditions, and what it then leaves is that limiter's state alone
put anew. -/
theorem floodLimiterAdmits : Obligations.FloodLimiterAdmits := by
  intro s r endNs l hl st tokens spaced
  refine ⟨floodLimit_admits_iff hl, fun hadmitted => ?_⟩
  rw [floodLimit_of_admits hl ((floodLimit_admits_iff hl).mp hadmitted)]
  exact ⟨floodState_putFlood_same _ _ _, fun j hj => floodState_putFlood_other hj _ _, rfl⟩

/-! ### Meters (R72) -/

theorem meterRefill_le_burst (m : MeterCfg) (st : MeterState) (now : Nat) :
    (meterRefill m st now).tc ≤ m.cbs * 1000000 ∧ (meterRefill m st now).te ≤ m.ebs * 1000000 := by
  simp only [meterRefill, Int.natCast_mul]
  exact ⟨min_le_right _ _, min_le_right _ _⟩

/-- Without coupling each bucket fills at its own rate up to its own burst. -/
theorem meterRefill_of_uncoupled {m : MeterCfg} (h : m.coupled = false) (st : MeterState) (now : Nat) :
    (meterRefill m st now).tc = min (st.tc + m.cir * (now - st.atNs : Nat)) (m.cbs * 1000000) ∧
    (meterRefill m st now).te = min (st.te + m.eir * (now - st.atNs : Nat)) (m.ebs * 1000000) := by
  simp [meterRefill, h]

section Colours

variable {st : MeterState} {pre : Bool} {len : Nat}

theorem meterColour_green (hpre : pre = false) (hc : (len * 1000000 : Int) ≤ st.tc) :
    meterColour st pre len = (0, { st with tc := st.tc - len * 1000000 }) := by
  simp [meterColour, hpre, hc]

theorem meterColour_yellow (hgreen : ¬ (pre = false ∧ (len * 1000000 : Int) ≤ st.tc))
    (he : (len * 1000000 : Int) ≤ st.te) : meterColour st pre len = (1, { st with te := st.te - len * 1000000 }) := by
  simp [meterColour, hgreen, he]

theorem meterColour_red (hgreen : ¬ (pre = false ∧ (len * 1000000 : Int) ≤ st.tc))
    (he : ¬ (len * 1000000 : Int) ≤ st.te) : meterColour st pre len = (2, st) := by
  simp [meterColour, hgreen, he]

end Colours

/-- Settles O15: the bounds of a refill, the refill without coupling, and the three colours in turn. -/
theorem meterColours : Obligations.MeterColours := by
  intro m st now len pre r c
  obtain ⟨htc, hte⟩ := meterRefill_le_burst m st now
  exact ⟨htc, hte, rfl, fun huncoupled => meterRefill_of_uncoupled huncoupled st now, meterColour_green, meterColour_yellow,
    meterColour_red⟩

/-! ### Sequence numbers (R76) -/

/-- LKU_SEQ bit 30: the stream takes the number of the frame's R-TAG. -/
theorem numberFrame_takeRtag {s : State} {n : Nat} (h : rdb s (R.LKU_SEQ n) 30 = true) (rtag : Option Nat) :
    numberFrame n rtag s = (rtag, s) :=
  if_pos h

theorem numberFrame_assign {s : State} {n : Nat} (h : rdb s (R.LKU_SEQ n) 30 = false) (rtag : Option Nat) :
    numberFrame n rtag s =
      (some (rdf s (R.LKU_SEQ n) 15 0), wrf s (R.LKU_SEQ n) 15 0 (rdf s (R.LKU_SEQ n) 15 0 + 1)) := by
  simp [numberFrame, h]

/-- Settles O17: ASSIGN writes the 16-bit count of its stream, which reads back modulo 65,536, and no other register. -/
theorem sequenceNumbers : Obligations.SequenceNumbers := by
  intro s n rtag
  refine ⟨fun htake => numberFrame_takeRtag htake rtag, fun hassign => ?_⟩
  rw [numberFrame_assign hassign]
  exact ⟨rfl, rdf_wrf_same _ _ _ _ _ (by decide) (by decide), fun a ha => rd_wrf_other _ _ _ _ _ _ ha⟩

/-! ### Completion of reception and lookup -/

/-- Settles O49: a lookup serves the port's next frame; reception and tail are their commands' effects. -/
theorem ingressCommandsComplete : Obligations.IngressCommandsComplete := by
  refine ⟨?tail, ?lookup, ?receive⟩
  case tail => exact fun s p fcsOk symbolErr hwf ha => exec_of_run rfl rfl hwf ha
  case lookup =>
    intro s p lku col colAt pool x hwf ha hnext
    exact exec_of_run rfl (by rw [hnext]) hwf ha
  case receive => exact fun s p data room hwf ha => exec_of_run rfl rfl hwf ha

end Sys2Proof.Machine
end

section
/-! PROOFS of the statements of the cell pool and its queues (R82 to R106): which registers a raise writes, what a report of the
pool leaves alone, the cells of a frame, the charge of a copy and its descriptor. -/

namespace Sys2Proof.Machine

/-! ### Registers that a raise does not write -/

/-- No raise writes the register at `a`, nor does what a raise brings about: those are registers of the gaffer, of the reaction
unit and of the host's pending events, of the recorder and of what stands above it, and the event status of the other blocks. -/
def Unraised (a : Nat) : Prop :=
  0x201040 ≤ a ∧ a < 0xA000000 ∧ a ∉ [R.CPL_EVT_STATUS, R.LKU_EVT_STATUS, R.SCH_EVT_STATUS, R.COL_EVT_STATUS, R.SGE_EVT_STATUS,
    R.TIM_EVT_STATUS, R.CIP_EVT_STATUS, R.VLT_EVT_STATUS]

theorem forall_mem_ite {α : Type} {P : α → Prop} {c : Prop} [Decidable c] {o u : Option α} (ho : ∀ x ∈ o, P x)
    (hu : ∀ x ∈ u, P x) : ∀ x ∈ (if c then o else u), P x := by
  split
  · exact ho
  · exact hu

/-- The status register of every source is one that raises write. -/
theorem not_unraised_of_mem_evtReg (src : Nat) : ∀ x ∈ evtReg src, ¬ Unraised x.1 := by
  unfold evtReg Unraised
  repeat' refine forall_mem_ite ?_ ?_
  all_goals rintro _ ⟨⟩ <;> (dsimp only; decide)

@[simp] theorem rd_setBits_other (a m b : Nat) (s : State) (h : b ≠ a) : rd (setBits a m s) b = rd s b :=
  rd_wr_other s a _ b h

theorem rd_forEach {α : Type} {f : α → State → State} {a : Nat} (hf : ∀ x s, rd (f x s) a = rd s a) (l : List α) (s : State) :
    rd (forEach l f s) a = rd s a := by
  induction l generalizing s with
  | nil => rfl
  | cons x t ih => exact (ih (f x s)).trans (hf x s)

theorem rd_recBuffer (c n : Nat) (s : State) (a : Nat) : rd (recBuffer c n s).2 a = rd s a := by
  unfold recBuffer
  extract_lets s1 w
  have h1 : rd s1 a = rd s a := rd_of_regs_eq _ _ _ rfl
  clear_value s1
  split
  · exact h1
  · split
    · exact h1
    · exact (rd_of_regs_eq _ _ _ rfl).trans h1

section Raising

variable {a : Nat} (h : Unraised a)
include h

theorem Unraised.ne_of_lt {b : Nat} (hb : b < 0x201040) : a ≠ b := by
  obtain ⟨hlow, _, _⟩ := h
  omega

theorem Unraised.ne_of_le {b : Nat} (hb : 0xA000000 ≤ b) : a ≠ b := by
  obtain ⟨_, hhigh, _⟩ := h
  omega

theorem Unraised.ne_evtReg {src b i : Nat} (he : evtReg src = some (b, i)) : a ≠ b := by
  rintro rfl
  exact not_unraised_of_mem_evtReg src _ he h

theorem rd_msix (v : Nat) (s : State) : rd (msix v s) a = rd s a := by
  unfold msix
  split
  · exact rd_of_regs_eq _ _ _ rfl
  · rw [rd_emit, rd_inc_other _ _ _ (h.ne_of_le (by decide)) (h.ne_of_le (by decide))]

theorem rd_eventSignal (v : Nat) (s : State) : rd (eventSignal v s) a = rd s a := by
  unfold eventSignal
  extract_lets hold
  split
  · split
    · exact rd_of_regs_eq _ _ _ rfl
    · exact (rd_msix h v _).trans (rd_of_regs_eq _ _ _ rfl)
  · exact (rd_msix h v _).trans (rd_of_regs_eq _ _ _ rfl)

theorem rd_recAppend (r : Nat) (x : Rec) (kept : List Rec) (s : State) : rd (recAppend r x kept s) a = rd s a := by
  unfold recAppend
  rw [rd_wr_other _ _ _ _ (h.ne_of_le (Nat.le_add_right_of_le (by decide))),
    rd_wrf_other _ _ _ _ _ _ (h.ne_of_le (Nat.le_add_right_of_le (by decide)))]
  exact rd_of_regs_eq _ _ _ rfl

theorem rd_recKeep (r : Nat) (kept : List Rec) (s : State) : rd (recKeep r kept s) a = rd s a := by
  unfold recKeep
  rw [rd_wr_other _ _ _ _ (h.ne_of_le (Nat.le_add_right_of_le (by decide)))]
  exact rd_of_regs_eq _ _ _ rfl

theorem rd_recPush (r : Nat) (x : Rec) (s : State) : rd (recPush r x s).2 a = rd s a := by
  unfold recPush
  extract_lets gap q s1 old room keep kept s2
  have h1 : rd s1 a = rd s a := rd_recBuffer _ _ s a
  clear_value s1
  have h2 : rd s2 a = rd s a := (rd_recKeep h _ _ _).trans h1
  clear_value s2
  split
  · split
    · exact (rd_recAppend h _ _ _ _).trans h1
    · exact h1
  · split
    · exact (rd_of_regs_eq _ _ _ rfl).trans h1
    · split
      · exact (rd_of_regs_eq _ _ _ rfl).trans h2
      · exact (rd_recAppend h _ _ _ _).trans h2

theorem rd_inc_unraised {b : Nat} (hb : 0xA000000 ≤ b) (s : State) : rd (inc s b) a = rd s a :=
  rd_inc_other _ _ _ (h.ne_of_le hb) (h.ne_of_le (Nat.le_add_right_of_le hb))

theorem rd_logStore (x : Rec) (s : State) : rd (logStore x s) a = rd s a := by
  unfold logStore
  rw [rd_inc_unraised h (by split <;> decide)]
  exact rd_recPush h 1 _ s

theorem rd_triggerStore (kind src : Nat) (s : State) : rd (triggerStore kind src s) a = rd s a := by
  unfold triggerStore
  extract_lets r
  have hr : rd r.2 a = rd s a := rd_recPush h 1 _ s
  clear_value r
  split
  · exact hr
  · exact (rd_inc_unraised h (by decide) _).trans hr

theorem rd_openWindow (kind src : Nat) (s : State) : rd (openWindow kind src s) a = rd s a := by
  unfold openWindow
  split
  · extract_lets pre post c s1 s2 s3 s4
    have h1 : rd s1 a = rd s a := rd_of_regs_eq _ _ _ rfl
    clear_value s1
    have h2 : rd s2 a = rd s a := (rd_wrq_other _ _ _ _ (h.ne_of_le (by decide)) (h.ne_of_le (by decide))).trans h1
    clear_value s2
    have h3 : rd s3 a = rd s a := (rd_wr_other _ _ _ _ (h.ne_of_le (by decide))).trans h2
    clear_value s3
    have h4 : rd s4 a = rd s a :=
      (rd_forEach (fun r _ => rd_wrf_other _ (R.REC_RING_STATE r) _ _ _ _
        (h.ne_of_le (Nat.le_add_right_of_le (by decide)))) _ _).trans h3
    clear_value s4
    rw [rd_inc_unraised h (by decide), rd_wrf_other _ _ _ _ _ _ (h.ne_of_le (by decide)), h4]
  · exact (rd_inc_unraised h (by decide) _).trans (rd_of_regs_eq _ _ _ rfl)

theorem rd_leaveHold (s : State) : rd (leaveHold s) a = rd s a := by
  unfold leaveHold
  extract_lets s1 s2
  have h1 : rd s1 a = rd s a := by
    rw [rd_wrf_other _ _ _ _ _ _ (h.ne_of_lt (by decide)), rd_wrf_other _ _ _ _ _ _ (h.ne_of_lt (by decide))]
  clear_value s1
  have h2 : rd s2 a = rd s a := by
    unfold s2
    split
    · rw [rd_wrf_other _ _ _ _ _ _ (h.ne_of_le (by decide)), h1]
    · exact h1
  exact (rd_of_regs_eq _ _ _ rfl).trans h2

theorem rd_route {src : Nat} (hsrc : src < 512) (s : State) : rd (route src s) a = rd s a := by
  unfold route
  extract_lets hr fw host mask s1 s2 s3
  have hpend : a ≠ R.EVT_HOST_PEND (src / 32) := h.ne_of_lt (by simp only [R.EVT_HOST_PEND]; omega)
  have h1 : rd s1 a = rd s a := by
    unfold s1
    split
    · rw [rd_eventSignal h, rd_setBits_other _ _ _ _ hpend]
    · rfl
  clear_value s1
  have h2 : rd s2 a = rd s a := (rd_forEach (fun _ _ => rd_emit _ _ _) _ _).trans h1
  clear_value s2
  have h3 : rd s3 a = rd s a := by
    unfold s3
    split
    · exact (rd_emit _ _ _).trans h2
    · exact h2
  clear_value s3
  split
  · exact h3
  · exact (rd_of_regs_eq _ _ _ rfl).trans h3

theorem rd_raiseN (n : Nat) {src : Nat} (hsrc : src < 512) (s : State) : rd (raiseN n src s) a = rd s a := by
  induction n generalizing src s with
  | zero => rfl
  | succ n ih =>
    unfold raiseN
    extract_lets was s1 s2 t s3 w s4
    have h1 : rd s1 a = rd s a := by
      unfold s1
      split
      · next b i he => exact rd_setBits_other _ _ _ _ (h.ne_evtReg he)
      · rfl
    clear_value s1 was
    have h2 : rd s2 a = rd s a := (rd_route h hsrc s1).trans h1
    clear_value s2
    have ht : rd t a = rd s a := (ih (by decide) _).trans ((rd_leaveHold h s2).trans h2)
    clear_value t
    have h3 : rd s3 a = rd s a := by
      unfold s3
      split
      · split
        · exact (ih (by decide) _).trans ht
        · exact ht
      · exact h2
    clear_value s3
    have h4 : rd s4 a = rd s a := by
      unfold s4
      split
      · exact (rd_logStore h _ _).trans h3
      · exact h3
    clear_value s4
    split
    · exact h1
    · split
      · exact h3
      · split
        · rw [ih (by decide), rd_openWindow h, rd_triggerStore h, h4]
        · exact h4

theorem rd_raise {src : Nat} (hsrc : src < 512) (s : State) : rd (raise src s) a = rd s a := rd_raiseN h 6 hsrc s

end Raising

/-! ### Updates that keep the pool and its free counts -/

/-- The register at `a` counts neither the free cells nor the free descriptors. -/
abbrev NotFree (a : Nat) : Prop := a ≠ R.CPL_FREE_CELLS ∧ a ≠ R.CPL_FREE_DESC

/-- The pool of `t` and its counts of free cells and descriptors are those of `s`. -/
structure PoolKept (s t : State) : Prop where
  pool : t.pool = s.pool
  freeCells : rd t R.CPL_FREE_CELLS = rd s R.CPL_FREE_CELLS
  freeDesc : rd t R.CPL_FREE_DESC = rd s R.CPL_FREE_DESC

namespace PoolKept

variable {s t u : State}

theorem refl (s : State) : PoolKept s s := ⟨rfl, rfl, rfl⟩

theorem trans (h : PoolKept s t) (k : PoolKept t u) : PoolKept s u :=
  ⟨k.pool.trans h.pool, k.freeCells.trans h.freeCells, k.freeDesc.trans h.freeDesc⟩

theorem of_regs_eq (hpool : t.pool = s.pool) (hregs : t.regs = s.regs) : PoolKept s t :=
  ⟨hpool, rd_of_regs_eq _ _ _ hregs, rd_of_regs_eq _ _ _ hregs⟩

/-- What raising a source touches keeps the pool, and no raise writes the counts. -/
theorem of_kept (h : Kept s t) (hregs : ∀ a, Unraised a → rd t a = rd s a) : PoolKept s t :=
  ⟨by rw [h], hregs _ (by unfold Unraised; decide), hregs _ (by unfold Unraised; decide)⟩

theorem ite {p : Prop} [Decidable p] (h : PoolKept s t) (k : PoolKept s u) : PoolKept s (if p then t else u) := by
  split
  · exact h
  · exact k

theorem forEach {α : Type} {f : α → State → State} (hf : ∀ x s, PoolKept s (f x s)) (l : List α) (s : State) :
    PoolKept s (forEach l f s) := by
  induction l generalizing s with
  | nil => exact refl s
  | cons x l ih => exact (hf x s).trans (ih (f x s))

theorem wr (s : State) (a v : Nat) (ha : NotFree a := by grind) : PoolKept s (wr s a v) :=
  ⟨wr_pool s a v, rd_wr_other _ _ _ _ ha.1.symm, rd_wr_other _ _ _ _ ha.2.symm⟩

theorem wrf (s : State) (a hi lo v : Nat) (ha : NotFree a := by grind) : PoolKept s (wrf s a hi lo v) := wr s a _ ha

theorem bump (a : Nat) (n : Int) (s : State) (ha : NotFree a := by grind) : PoolKept s (bump a n s) := wr s a _ ha

theorem setBits (a m : Nat) (s : State) (ha : NotFree a := by grind) : PoolKept s (setBits a m s) :=
  (wr s a _ ha).trans (of_regs_eq rfl rfl)

theorem addCnt (s : State) (a n : Nat) (ha : NotFree a := by grind) (ha4 : NotFree (a + 4) := by grind) :
    PoolKept s (addCnt s a n) :=
  (wr s a _ ha).trans (wr _ (a + 4) _ ha4)

theorem raise {src : Nat} (hsrc : src < 512) (s : State) : PoolKept s (raise src s) :=
  of_kept (.raise src s) fun _ h => rd_raise h hsrc s

theorem setEth (p : Nat) (e : EthPort) (s : State) : PoolKept s (setEth p e s) :=
  of_regs_eq (setEth_pool p e s) (setEth_regs p e s)

/-- A watermark unit follows its level; crossing a threshold is noticed and reported (R95, R96). -/
theorem wmUnit (w : Nat) (s : State) : PoolKept s (wmUnit w s) := by
  unfold Machine.wmUnit
  extract_lets level s1 s2 n cross
  have h1 : PoolKept s s1 := wr _ _ _
  clear_value s1
  have h2 : PoolKept s s2 := .ite (h1.trans (wr _ _ _)) h1
  clear_value s2
  have hcross : ∀ b above u, PoolKept u (cross b above u) := by
    intro b above u
    unfold cross
    extract_lets was u1 u2 u3 u4
    have k2 : PoolKept u u2 := (wrf _ _ _ _ _).trans (wrf _ _ _ _ _)
    clear_value u2
    have k4 : PoolKept u u4 := k2.trans ((setBits _ _ _).trans (wr _ _ _))
    clear_value u4
    exact .ite k4 (k4.trans (raise (by decide) _))
  exact .ite (.ite (h2.trans (hcross _ _ _)) h2) (.ite (h2.trans (hcross _ _ _)) h2)

theorem wmUpdate (s : State) : PoolKept s (wmUpdate s) := forEach wmUnit _ s

theorem bypass (p k n : Nat) (s : State) : PoolKept s (bypass p k n s) := .ite (addCnt _ _ _) (refl s)

theorem lpiExit (p : Nat) (s : State) : PoolKept s (lpiExit p s) := by
  unfold Machine.lpiExit
  extract_lets s1 e
  have h1 : PoolKept s s1 := addCnt _ _ _
  clear_value s1 e
  exact .ite ((h1.trans (wrf _ _ _ _ _)).trans (setEth _ _ _)) (refl s)

theorem leaveHold (s : State) : PoolKept s (leaveHold s) := of_kept (.leaveHold s) fun _ h => rd_leaveHold h s

theorem activity (s : State) : PoolKept s (activity s) := by
  have hexit : PoolKept s (holdExit s) := by
    unfold holdExit
    extract_lets t
    have ht : PoolKept s t := (leaveHold s).trans (raise (by decide) _)
    clear_value t
    exact .ite (.ite (ht.trans (raise (by decide) _)) ht) (refl s)
  exact hexit.trans (of_regs_eq rfl rfl)

/-- A generated pause frame leaves port `p`: counted, and reported (R129). -/
theorem pauseSent (p : Nat) (frame : List Byte) (s : State) :
    PoolKept s (Machine.raise 166 (Machine.bypass p 12 1 (inc (emit (.wire p frame false) s) (R.SCH_PORT_CNT p 10)))) := by
  have h1 : PoolKept s (emit (.wire p frame false) s) := of_regs_eq (emit_pool _ s) (emit_regs _ s)
  exact ((h1.trans (addCnt _ _ 1)).trans (bypass _ _ _ _)).trans (raise (by decide) _)

theorem pauseFlush (p : Nat) (s : State) : PoolKept s (pauseFlush p s) := by
  unfold Machine.pauseFlush
  split
  · exact refl s
  · extract_lets s1 e s2
    have h1 : PoolKept s s1 := (lpiExit p s).trans (forEach (pauseSent p) _ _)
    clear_value s1 e
    have h2 : PoolKept s s2 := by
      unfold s2
      exact (h1.trans (.ite (setEth _ _ _) (refl s1))).trans (activity _)
    clear_value s2
    exact .ite (refl s) (.ite (refl s) (h2.trans (of_regs_eq rfl rfl)))

theorem pauseGenerate (p c quanta : Nat) (s : State) : PoolKept s (pauseGenerate p c quanta s) := by
  unfold Machine.pauseGenerate
  extract_lets q x s1 half y s2
  have h1 : PoolKept s s1 := .ite (refl s) (of_regs_eq rfl rfl)
  clear_value s1
  have h2 : PoolKept s s2 := h1.trans (of_regs_eq rfl rfl)
  clear_value s2
  exact .ite (refl s) (h2.trans (pauseFlush p _))

theorem xoffCheck (p c : Nat) (s : State) : PoolKept s (xoffCheck p c s) := by
  unfold Machine.xoffCheck
  extract_lets whole c held xoff xon st s1
  have hon : PoolKept s s1 := (wrf _ _ _ _ _).trans (addCnt _ _ 1)
  clear_value s1
  exact .ite (refl s) (.ite (refl s) (.ite
    (.ite ((wrf _ _ _ _ _).trans (pauseGenerate _ _ _ _)) (refl s))
    (.ite (hon.trans ((raise (by decide) _).trans (pauseGenerate _ _ _ _))) (refl s))))

theorem writeDesc (d : Nat) (c : Copy) (f : PFrame) (s : State) : PoolKept s (writeDesc d c f s) := by
  unfold Machine.writeDesc
  exact (((wr _ _ _).trans (wr _ _ _)).trans (wr _ _ _)).trans (wr _ _ _)

theorem chargeLevels (q : Nat) (part : Part) (n src tc : Nat) (sign : Int) (s : State) :
    PoolKept s (chargeLevels q part n src tc sign s) := by
  unfold Machine.chargeLevels
  extract_lets p s1 s2
  have h1 : PoolKept s s1 := bump _ _ _
  clear_value s1
  have h2 : PoolKept s s2 := .ite (h1.trans (bump _ _ _)) h1
  clear_value s2
  exact .ite (h2.trans (wrf _ _ _ _ _)) h2

theorem queueLevels (q n : Nat) (sign : Int) (s : State) : PoolKept s (queueLevels q n sign s) :=
  (bump _ _ _).trans (bump _ _ _)

end PoolKept

/-- A count that goes down by no more than it holds. -/
theorem rd_bump_neg {s : State} {a n : Nat} (h : n ≤ rd s a) : rd (bump a (-(n : Int)) s) a = rd s a - n := by
  have hlt := rd_lt s a
  rw [bump, rd_wr_same]
  omega

theorem rd_bump_one (a : Nat) (s : State) : rd (bump a 1 s) a = (rd s a + 1) % 2 ^ 32 := by
  rw [bump, rd_wr_same]
  omega

/-! ### Cells of a frame (R85) -/

/-- The least number of 128-byte cells that holds `b` bytes. -/
theorem cellsOf_least (b : Nat) : b ≤ 128 * cellsOf b ∧ 128 * cellsOf b < b + 128 := by
  unfold cellsOf ceilDiv
  omega

/-- A new frame stands in the pool under its number, and its cells are gone from the free ones. -/
theorem newFrame_pool {f : PFrame} {s : State} (h : f.cells ≤ rd s R.CPL_FREE_CELLS) :
    (newFrame f s).2.pool.frames.get? (newFrame f s).1 = some { f with headCell := Config.freeNat s.drawn % 0x20000 } ∧
    rd (newFrame f s).2 R.CPL_FREE_CELLS = rd s R.CPL_FREE_CELLS - f.cells := by
  unfold newFrame
  extract_lets cell s1 g fid pool s2 s3 s4
  have hrest : PoolKept s3 (xoffCheck g.src g.tc s4) := (PoolKept.bump _ _ _).trans (.xoffCheck _ _ _)
  have hfree : rd s2 R.CPL_FREE_CELLS = rd s R.CPL_FREE_CELLS := rd_of_regs_eq _ _ _ rfl
  refine ⟨?_, ?_⟩
  · rw [hrest.pool]
    exact SMap.get?_put_same _ _ _
  · rw [hrest.freeCells, ← hfree]
    exact rd_bump_neg (hfree ▸ h)

/-- Settles O18: the ceiling of R85, and a new frame's two updates of the pool. -/
theorem cellsOfAFrame : Obligations.CellsOfAFrame := by
  refine ⟨cellsOf_least, rfl, fun s f _ hcells => ?_⟩
  obtain ⟨hframe, hfree⟩ := newFrame_pool hcells
  exact ⟨hfree, _, hframe⟩

/-! ### Admission of a copy (R86 to R91) -/

theorem isReserveQ_iff (s : State) (q : Nat) : isReserveQ s q = true ↔
    (152 ≤ q ∧ q ≤ 159) ∨ (448 ≤ q ∧ q ≤ 511) ∨ rdb s (R.CPL_Q_CFG q) 30 = true := by
  simp [isReserveQ, or_assoc]

section Decision

variable {s : State} {p tc src dp n q : Nat} {part : Part}

/-- A copy is admitted only while a descriptor is free, and to RESERVE only in a reserve queue. -/
theorem admitDecide_ok (h : admitDecide s p tc src dp n q = .ok part) :
    rd s R.CPL_FREE_DESC ≠ 0 ∧ (part = .reserve → isReserveQ s q = true) := by
  unfold admitDecide at h
  extract_lets gw late limit at h
  split_ifs at h with hdown hgate hdesc hguar hreserve
  all_goals cases h
  · exact ⟨hdesc, nofun⟩
  · exact ⟨hdesc, fun _ => hreserve.1⟩
  · exact ⟨hdesc, nofun⟩
  · exact ⟨hdesc, nofun⟩

end Decision

/-- What an admission leaves: the copy under the lowest free descriptor, in its queue and charged as decided, and one free
descriptor less. -/
theorem admitCopy_ok {s t : State} {fid p tc q d : Nat} {a : CopyAttr} (h : admitCopy fid p tc q a s = (.ok d, t)) :
    ∃ src n c, admitDecide s p tc src a.dp n q = .ok c.part ∧ c.q = q ∧ d = firstFree s.pool.copies 0 ∧
      t.pool.copies = s.pool.copies.put d c ∧ rd t R.CPL_FREE_DESC + 1 = rd s R.CPL_FREE_DESC := by
  unfold admitCopy at h
  split at h
  · cases h
  · next f _ =>
    extract_lets n e pool at h
    split at h
    · cases h
    · next part hdecide =>
      extract_lets c s1 s2 s3 s4 at h
      obtain ⟨rfl, rfl⟩ : e = d ∧ wmUpdate (writeDesc e c f s4) = t := by simpa using h
      have hcharged : PoolKept s1 s2 := .chargeLevels _ _ _ _ _ _ _
      have hrest : PoolKept s3 (wmUpdate (writeDesc e c f s4)) :=
        ((PoolKept.ite (.raise (by decide) s3) (.refl s3)).trans (.writeDesc _ _ _ _)).trans (.wmUpdate _)
      have hdesc : rd s2 R.CPL_FREE_DESC = rd s R.CPL_FREE_DESC := hcharged.freeDesc.trans (rd_of_regs_eq _ _ _ rfl)
      refine ⟨_, _, c, hdecide, rfl, rfl, ?_, ?_⟩
      · rw [hrest.pool]
        exact congrArg Pool.copies hcharged.pool
      · have hone : 1 ≤ rd s2 R.CPL_FREE_DESC := by
          rw [hdesc]
          exact Nat.one_le_iff_ne_zero.mpr (admitDecide_ok hdecide).1
        have htaken : rd s3 R.CPL_FREE_DESC = rd s2 R.CPL_FREE_DESC - 1 := rd_bump_neg hone
        rw [hrest.freeDesc, htaken, Nat.sub_add_cancel hone, hdesc]

/-- Settles O19: RESERVE is decided in a reserve queue alone, and the copy stands as decided. -/
theorem reserveChargesReserveQueues : Obligations.ReserveChargesReserveQueues := by
  refine ⟨isReserveQ_iff, fun s p tc src dp n q h => (admitDecide_ok h).2 rfl, fun s t fid p tc q d a hq h => ?_⟩
  obtain ⟨src, n, c, hdecide, hcq, -, hcopies, -⟩ := admitCopy_ok h
  refine ⟨c, ?_, hcq, fun hpart => ?_⟩
  · rw [hcopies, SMap.get?_put_same]
  · simp [(admitDecide_ok hdecide).2 hpart] at hq

/-! ### Release of a copy (R92, R93) -/

/-- Freeing a frame's cells leaves the copies and the count of descriptors alone. -/
theorem freeFrame_keeps (fid : Nat) (s : State) :
    (freeFrame fid s).pool.copies = s.pool.copies ∧ rd (freeFrame fid s) R.CPL_FREE_DESC = rd s R.CPL_FREE_DESC := by
  unfold freeFrame
  split
  · exact ⟨rfl, rfl⟩
  · next f _ =>
    extract_lets pool s1 s2 s3
    split
    · have hrest : PoolKept s2 (wmUpdate (xoffCheck f.src f.tc s3)) :=
        ((PoolKept.bump _ _ _).trans (.xoffCheck _ _ _)).trans (.wmUpdate _)
      refine ⟨?_, ?_⟩
      · rw [hrest.pool]
        rfl
      · rw [hrest.freeDesc]
        exact (rd_wr_other _ _ _ _ (by decide)).trans (rd_of_regs_eq _ _ _ rfl)
    · exact ⟨rfl, rfl⟩

/-- What a release leaves: the copy is gone, and one free descriptor more. -/
theorem releaseCopy_of_some {s : State} {d : Nat} {c : Copy} (h : s.pool.copies.get? d = some c) :
    (releaseCopy d s).pool.copies = s.pool.copies.del d ∧
    rd (releaseCopy d s) R.CPL_FREE_DESC = (rd s R.CPL_FREE_DESC + 1) % 2 ^ 32 := by
  unfold releaseCopy
  split
  · next hnone => simp [h] at hnone
  · next c' hc' =>
    obtain rfl : c' = c := Option.some.inj (hc'.symm.trans h)
    extract_lets f src tc pool s1 s2 s3 s4 cip s5 pool5 s6
    have hcharged : PoolKept s1 s2 := .chargeLevels _ _ _ _ _ _ _
    have hdesc : rd s2 R.CPL_FREE_DESC = rd s R.CPL_FREE_DESC := hcharged.freeDesc.trans (rd_of_regs_eq _ _ _ rfl)
    have hleft : PoolKept s3 s5 :=
      (PoolKept.ite ((PoolKept.bump _ _ _).trans (.queueLevels _ _ _ _)) (.refl s3)).trans (.of_regs_eq rfl rfl)
    have hframe : s6.pool.copies = s5.pool.copies ∧ rd s6 R.CPL_FREE_DESC = rd s5 R.CPL_FREE_DESC := by
      unfold s6
      clear_value f
      cases f with
      | none => exact ⟨rfl, rfl⟩
      | some f => exact ⟨rfl, rd_of_regs_eq _ _ _ rfl⟩
    obtain ⟨hcopies, hcount⟩ := freeFrame_keeps c'.frame s6
    have hlast : PoolKept (freeFrame c'.frame s6) (wmUpdate (freeFrame c'.frame s6)) := .wmUpdate _
    refine ⟨?_, ?_⟩
    · rw [hlast.pool, hcopies, hframe.1, hleft.pool]
      exact congrArg Pool.copies hcharged.pool
    · rw [hlast.freeDesc, hcount, hframe.2, hleft.freeDesc, ← hdesc]
      exact rd_bump_one _ s2

/-! ### The lowest free descriptor (log entry 9) -/

theorem le_firstFree (m : SMap Copy) (i : Nat) : i ≤ firstFree m i := by
  induction m generalizing i with
  | nil => exact le_refl i
  | cons x t ih =>
    obtain ⟨k, v⟩ := x
    unfold firstFree
    split
    · exact Nat.le_of_succ_le (ih (i + 1))
    · split
      · exact ih i
      · exact le_refl i

/-- In a sorted store with nothing below `i`, the search from `i` ends at the first number that is not in use. -/
theorem firstFree_lowest {m : SMap Copy} {i : Nat} (hsorted : m.sorted = true) (hlow : ∀ j, j < i → m.get? j = none) :
    m.get? (firstFree m i) = none ∧ ∀ j, i ≤ j → j < firstFree m i → (m.get? j).isSome = true := by
  induction m generalizing i with
  | nil => exact ⟨rfl, fun j hi hj => absurd hj (Nat.not_lt.mpr hi)⟩
  | cons x t ih =>
    obtain ⟨k, v⟩ := x
    obtain ⟨habove, ht⟩ := (SMap.sorted_cons _ t).mp hsorted
    have hik : i ≤ k := by
      by_contra hlt
      simpa [SMap.get?_cons] using hlow k (Nat.not_le.mp hlt)
    by_cases hk : k = i
    · subst hk
      obtain ⟨hfree, hused⟩ := ih ht fun j hj => SMap.get?_eq_none_of_above habove (Nat.le_of_lt_succ hj)
      have hbeyond := le_firstFree t (k + 1)
      rw [firstFree, if_pos rfl]
      refine ⟨?_, fun j hj hlt => ?_⟩
      · rw [SMap.get?_cons, if_neg (by omega)]
        exact hfree
      · rw [SMap.get?_cons]
        split
        · rfl
        · next hne => exact hused j (by omega) hlt
    · rw [firstFree, if_neg hk, if_neg (by omega)]
      exact ⟨SMap.get?_eq_none_of_lt_head hsorted (by omega), fun j hj hlt => absurd hlt (Nat.not_lt.mpr hj)⟩

/-- Settles O20: an admission puts one copy under the first free number, a release removes one, and the count follows both. -/
theorem lowestFreeDescriptor : Obligations.LowestFreeDescriptor := by
  refine ⟨fun m hsorted => ?_, fun s t fid p tc q d a h => ?_, fun s d c h => ?_⟩
  · obtain ⟨hfree, hused⟩ := firstFree_lowest hsorted (i := 0) (fun j hj => absurd hj (Nat.not_lt_zero j))
    exact ⟨hfree, fun j => hused j (Nat.zero_le j)⟩
  · obtain ⟨_, _, c, -, -, hd, hcopies, hcount⟩ := admitCopy_ok h
    rw [hcopies]
    refine ⟨hd, ?_, fun j hj => SMap.get?_put_other _ _ _ _ hj, hcount⟩
    rw [SMap.get?_put_same]
    rfl
  · obtain ⟨hcopies, hcount⟩ := releaseCopy_of_some h
    rw [hcopies]
    exact ⟨SMap.get?_del_same _ _, fun j hj => SMap.get?_del_other _ _ _ hj, hcount⟩

end Sys2Proof.Machine
end

section
/-! PROOFS of the completion statements of egress and of the Ethernet ports (R97 to R133, R219 to R239): what a command's guards
look up is what the statement's hypotheses name, and the last guard leaves the effect. -/

namespace Sys2Proof.Machine

/-! ### Egress, pause, gates and deep queues -/

/-- Settles O50: a selected copy, a running list or timer that the hypotheses name is the one the command finds. -/
theorem egressCommandsComplete : Obligations.EgressCommandsComplete := by
  refine ⟨?gateEntry, ?refill, ?spill, ?pauseRepeat, ?pauseExpire, ?pauseReceived, ?txComplete, ?txStart, ?select⟩
  case gateEntry =>
    intro s p ecc g hwf ha hlist
    exact exec_of_run rfl (by rw [hlist]) hwf ha
  case refill => exact fun s d dramError hwf ha => exec_of_run rfl rfl hwf ha
  case spill =>
    intro s d ecc k c f hwf ha hhead hcopy hframe hmay
    exact exec_of_run rfl (by simp only [hhead, hcopy, hframe, if_neg hmay]) hwf ha
  case pauseRepeat | pauseExpire =>
    intro s p c t hwf ha htimer hdue
    exact exec_of_run rfl (by rw [htimer]; exact if_pos hdue) hwf ha
  case pauseReceived => exact fun s p opcode quanta enable fcsOk hwf ha => exec_of_run rfl rfl hwf ha
  case txComplete =>
    intro s p fcsStoredOk x y f hwf ha hservice hstarted hcopy hframe htail
    exact exec_of_run rfl (by simp only [hservice, if_neg hstarted, hcopy, hframe, if_pos htail]) hwf ha
  case txStart =>
    intro s p collision x y f hwf ha hservice hstarted hcopy hframe
    exact exec_of_run rfl (by simp only [hservice, if_neg hstarted, hcopy, hframe]) hwf ha
  case select =>
    intro s p ecc sched hwf ha hmay hup
    exact exec_of_run rfl ((if_neg hmay).trans (if_neg hup)) hwf ha

/-! ### Ethernet ports -/

/-- Settles O52: each effect stands under its command's one guard; a finished step finds the rate it steps to. -/
theorem ethernetCommandsComplete : Obligations.EthernetCommandsComplete := by
  refine ⟨?phyFault, ?sqi, ?handshake, ?sleepRequest, ?stepFail, ?stepComplete, ?stepWindow, ?lpi, ?beacon, ?beaconLoss, ?anFail,
    ?hold, ?down, ?up⟩
  case phyFault | beaconLoss | hold => exact fun s p hwf ha => exec_of_run rfl rfl hwf ha
  case sqi => exact fun s p sqi hwf ha hlinked => exec_of_run rfl (if_neg hlinked) hwf ha
  case handshake | stepFail | beacon | down => exact fun s p hwf ha hmay => exec_of_run rfl (if_pos hmay) hwf ha
  case sleepRequest => exact fun s p hwf ha hon => exec_of_run rfl (if_neg hon) hwf ha
  case stepComplete =>
    intro s p durationNs r hwf ha hto hstepping
    exact exec_of_run rfl (by rw [hto]; exact if_neg hstepping) hwf ha
  case stepWindow =>
    exact fun s p txBytes rxBytes partnerDown partnerUp headWaitUs hwf ha hup => exec_of_run rfl (if_neg hup) hwf ha
  case lpi => exact fun s p rx hwf ha => exec_of_run rfl rfl hwf ha
  case anFail => exact fun s p partner hwf ha htraining => exec_of_run rfl (if_pos htraining) hwf ha
  case up =>
    exact fun s p rate leader eeeAgreed stepAgreed partner hwf ha hmay => exec_of_run rfl (if_neg hmay) hwf ha

end Sys2Proof.Machine
end

section
/-! PROOFS of the statements of egress scheduling and gates (R110 to R129): numbers laid out as bytes, the instants of a schedule,
selection and shaping, the arbitration key, pause frames, and the completion of the CAN channels' commands. -/

namespace Sys2Proof.Machine

/-! ### Numbers laid out as bytes -/

@[simp] theorem length_leBytes (v n : Nat) : (leBytes v n).length = n := by
  induction n generalizing v with
  | zero => rfl
  | succ n ih => simp [leBytes, ih]

@[simp] theorem length_beBytes (v n : Nat) : (beBytes v n).length = n := by simp [beBytes]

theorem byteAt_append_cons (a b : List Byte) (x : Byte) : byteAt (a ++ x :: b) a.length = x.toNat := by simp [byteAt]

/-- A number modulo 256ⁿ⁺¹ is its low byte and the rest modulo 256ⁿ. -/
theorem mod_pow_succ_eq_low_byte (v n : Nat) : v % 256 ^ (n + 1) = v % 256 + 256 * (v / 256 % 256 ^ n) := by
  rw [Nat.pow_succ', Nat.mod_mul]

/-- Little-endian bytes read back where they lie. -/
theorem leAt_leBytes (a b : List Byte) (v n : Nat) : leAt (a ++ (leBytes v n ++ b)) a.length n = v % 256 ^ n := by
  induction n generalizing a v with
  | zero => simp [leAt, Nat.mod_one]
  | succ n ih =>
    have hrest : leAt (a ++ (leBytes v (n + 1) ++ b)) (a.length + 1) n = v / 256 % 256 ^ n := by
      simpa [leBytes] using ih (a ++ [BitVec.ofNat 8 v]) (v / 256)
    have hlow : byteAt (a ++ (leBytes v (n + 1) ++ b)) a.length = v % 256 := by
      simp [leBytes, byteAt_append_cons]
    rw [leAt, hlow, hrest, mod_pow_succ_eq_low_byte]

theorem beBytes_succ (v n : Nat) : beBytes v (n + 1) = beBytes (v / 256) n ++ [BitVec.ofNat 8 v] := by
  simp [beBytes, leBytes]

theorem beAt_succ (l : List Byte) (o n : Nat) : beAt l o (n + 1) = beAt l o n * 256 + byteAt l (o + n) := by
  simp [beAt, List.range_succ]

/-- Big-endian bytes read back where they lie. -/
theorem beAt_beBytes (a b : List Byte) (v n : Nat) : beAt (a ++ (beBytes v n ++ b)) a.length n = v % 256 ^ n := by
  induction n generalizing b v with
  | zero => simp [beAt, Nat.mod_one]
  | succ n ih =>
    have hhigh : beAt (a ++ (beBytes v (n + 1) ++ b)) a.length n = v / 256 % 256 ^ n := by
      simpa [beBytes_succ] using ih (BitVec.ofNat 8 v :: b) (v / 256)
    have hlow : byteAt (a ++ (beBytes v (n + 1) ++ b)) (a.length + n) = v % 256 := by
      simpa [beBytes_succ] using byteAt_append_cons (a ++ beBytes (v / 256) n) b (BitVec.ofNat 8 v)
    rw [beAt_succ, hhigh, hlow, mod_pow_succ_eq_low_byte]
    ring

/-- A little-endian number of n bytes that lies after `a` reads back at the offset where `a` ends. -/
theorem leAt_of_layout {l : List Byte} (a b : List Byte) {o n v : Nat} (hl : l = a ++ (leBytes v n ++ b)) (ho : a.length = o) :
    leAt l o n = v % 256 ^ n := by
  rw [hl, ← ho, leAt_leBytes]

/-- A big-endian number of n bytes that lies after `a` reads back at the offset where `a` ends. -/
theorem beAt_of_layout {l : List Byte} (a b : List Byte) {o n v : Nat} (hl : l = a ++ (beBytes v n ++ b)) (ho : a.length = o)
    (hv : v < 256 ^ n) : beAt l o n = v := by
  rw [hl, ← ho, beAt_beBytes, Nat.mod_eq_of_lt hv]

/-! ### Scheduled instants (R116, R240, R279) -/

theorem nextInstant_before_base {base period g : Nat} (hp : 0 < period) (hg : g < base) (strict : Bool) :
    nextInstant base period g strict =
      g + (base - g) % period + (if strict && (base - g) % period == 0 then period else 0) := by
  have hdiv := Nat.div_add_mod' (base - g) period
  rw [nextInstant, if_neg hp.ne', if_pos hg]
  omega

theorem nextInstant_from_base {base period g : Nat} (hp : 0 < period) (hg : base ≤ g) (strict : Bool) :
    nextInstant base period g strict =
      if (g - base) % period = 0 ∧ strict = false then g else g + (period - (g - base) % period) := by
  have hdiv := Nat.div_add_mod' (g - base) period
  have hmod := Nat.mod_lt (g - base) hp
  rw [nextInstant, if_neg hp.ne', if_neg (by omega)]
  simp only [Nat.add_mul, one_mul]
  split <;> omega

/-- The instant found is the first at or after g, or the first after g. -/
theorem nextInstant_bounds {period : Nat} (hp : 0 < period) (base g : Nat) (strict : Bool) :
    g ≤ nextInstant base period g strict ∧ nextInstant base period g strict ≤ g + period ∧
    (strict = true → g < nextInstant base period g strict) ∧
    (strict = false → nextInstant base period g strict < g + period) := by
  rcases Nat.lt_or_ge g base with hg | hg
  · have hmod := Nat.mod_lt (base - g) hp
    rw [nextInstant_before_base hp hg]
    cases strict
    · simp; omega
    · by_cases hgrid : (base - g) % period = 0
      · simp [hgrid, hp]
      · simp [hgrid]; omega
  · have hmod := Nat.mod_lt (g - base) hp
    rw [nextInstant_from_base hp hg]
    cases strict
    · by_cases hgrid : (g - base) % period = 0
      · simp [hgrid, hp]
      · simp [hgrid]; omega
    · simp; omega

/-- The instant found lies on the schedule's grid. -/
theorem nextInstant_on_grid {period : Nat} (hp : 0 < period) (base g : Nat) (strict : Bool) :
    ∃ k : Int, (nextInstant base period g strict : Int) = base + k * period := by
  rcases Nat.lt_or_ge g base with hg | hg
  · have hdiv := Nat.div_add_mod' (base - g) period
    rw [nextInstant_before_base hp hg]
    split
    · refine ⟨1 - ((base - g) / period : Nat), ?_⟩
      rw [sub_mul, ← Nat.cast_mul]
      omega
    · refine ⟨-((base - g) / period : Nat), ?_⟩
      rw [neg_mul, ← Nat.cast_mul]
      omega
  · have hdiv := Nat.div_add_mod' (g - base) period
    have hmod := Nat.mod_lt (g - base) hp
    rw [nextInstant_from_base hp hg]
    split
    · refine ⟨((g - base) / period : Nat), ?_⟩
      rw [← Nat.cast_mul]
      omega
    · refine ⟨((g - base) / period : Nat) + 1, ?_⟩
      rw [add_mul, ← Nat.cast_mul]
      omega

/-- The start of a gate list's cycle is an instant of the schedule of its base and cycle (log entry 245). -/
theorem cycleStart_eq_nextInstant {s : State} {l : Nat} (h : rd s (R.GATE_LIST_CYCLE l) ≠ 0) (g : Nat) :
    cycleStart s l g = nextInstant (cnt s (R.GATE_LIST_BASE l)) (rd s (R.GATE_LIST_CYCLE l)) g false := by
  have hp := Nat.pos_of_ne_zero h
  rw [cycleStart, if_neg h]
  generalize rd s (R.GATE_LIST_CYCLE l) = period at *
  generalize cnt s (R.GATE_LIST_BASE l) = base
  rcases Nat.lt_or_ge g base with hg | hg
  · have hahead : ((base : Int) - g).toNat = base - g := by omega
    simp [nextInstant_before_base hp hg, hahead, Nat.not_lt.mpr hg.le]
  · have hahead : ((base : Int) - g).toNat = 0 := by omega
    have hmod := Nat.mod_lt (g - base) hp
    simp only [nextInstant_from_base hp hg, hahead, Nat.zero_mod, Nat.add_zero]
    by_cases hgrid : (g - base) % period = 0
    · simp [hgrid]
    · have hlt : base < g := by
        rcases Nat.lt_or_ge base g with hlt | hge
        · exact hlt
        · simp [Nat.sub_eq_zero_of_le hge] at hgrid
      rw [if_pos hlt, if_neg (fun h => hgrid h.1), Nat.mod_eq_of_lt (by omega)]

/-- Settles O29: the bounds and the grid of an instant, of which the start of a cycle is one. -/
theorem scheduledInstants : Obligations.ScheduledInstants := by
  refine ⟨fun base period g strict hp => ?_, fun s l g hcyc => ?_⟩
  · obtain ⟨hge, hle, hstrict, hplain⟩ := nextInstant_bounds hp base g strict
    exact ⟨hge, hle, hstrict, hplain, nextInstant_on_grid hp base g strict⟩
  · have hp := Nat.pos_of_ne_zero hcyc
    obtain ⟨hge, -, -, hplain⟩ := nextInstant_bounds hp (cnt s (R.GATE_LIST_BASE l)) g false
    rw [cycleStart_eq_nextInstant hcyc]
    exact ⟨hge, hplain rfl, nextInstant_on_grid hp _ g false⟩

/-! ### Selection (R110, R113, R114) -/

/-- A class is eligible and fits. -/
def servable (s : State) (p c : Nat) : Bool := headReady s p c && headFits s p c

theorem servable_iff {s : State} {p c : Nat} : servable s p c = true ↔ headReady s p c = true ∧ headFits s p c = true := by
  simp [servable]

/-- The first strict class that is servable goes before the weighted ones (R113). -/
theorem pickClass_eq_or (s : State) (p : Nat) : pickClass s p =
    ((strictClasses s p).find? (servable s p)).or (minTag s p ((weightedClasses s p).filter (servable s p))) := by
  unfold pickClass servable
  dsimp only
  split
  · next h => rw [h, Option.some_or]
  · next h => rw [h, Option.none_or]

theorem minTag_eq_none {s : State} {p : Nat} {l : List Nat} (h : minTag s p l = none) : l = [] := by
  cases l with
  | nil => rfl
  | cons c t =>
    unfold minTag at h
    split at h
    · simp at h
    · split at h <;> simp at h

theorem mem_of_minTag {s : State} {p c : Nat} {l : List Nat} (h : minTag s p l = some c) : c ∈ l := by
  induction l generalizing c with
  | nil => simp [minTag] at h
  | cons a t ih =>
    unfold minTag at h
    split at h
    · simp_all
    · next d hd =>
      split at h
      · simp_all
      · obtain rfl : d = c := by simpa using h
        exact List.mem_cons_of_mem _ (ih hd)

theorem servable_of_pickClass {s : State} {p d : Nat} (h : pickClass s p = some d) : servable s p d = true := by
  rw [pickClass_eq_or, Option.or_eq_some_iff] at h
  rcases h with hstrict | ⟨-, hweighted⟩
  · exact List.find?_some hstrict
  · exact (List.mem_filter.mp (mem_of_minTag hweighted)).2

theorem strictClasses_descend (s : State) (p : Nat) : (strictClasses s p).Pairwise (· > ·) :=
  List.Pairwise.sublist (List.take_sublist _ _) (by decide)

/-- In a descending list the first element found is the highest that can be. -/
theorem find?_descending {l : List Nat} (hl : l.Pairwise (· > ·)) {f : Nat → Bool} {c : Nat} (hc : c ∈ l)
    (hf : f c = true) : ∃ d, l.find? f = some d ∧ d ∈ l ∧ c ≤ d := by
  obtain ⟨d, hd⟩ := Option.isSome_iff_exists.mp (List.find?_isSome.mpr ⟨c, hc, hf⟩)
  obtain ⟨-, before, after, rfl, hbefore⟩ := List.find?_eq_some_iff_append.mp hd
  refine ⟨d, hd, by simp, ?_⟩
  rcases List.mem_append.mp hc with hc | hc
  · simpa [hf] using hbefore c hc
  · rcases List.mem_cons.mp hc with rfl | hc
    · exact Nat.le_refl _
    · exact (List.rel_of_pairwise_cons (List.pairwise_append.mp hl).2.1 hc).le

theorem pickClass_of_strict {s : State} {p c : Nat} (hc : c ∈ strictClasses s p) (h : servable s p c = true) :
    ∃ d, pickClass s p = some d ∧ d ∈ strictClasses s p ∧ c ≤ d := by
  obtain ⟨d, hfind, hd, hle⟩ := find?_descending (strictClasses_descend s p) hc h
  exact ⟨d, by rw [pickClass_eq_or, hfind, Option.some_or], hd, hle⟩

/-- Up to four strict classes, each class is strict or weighted. -/
theorem mem_strict_or_weighted {s : State} {p c : Nat} (hn : strictCount s p ≤ 4) (hc : c < 8) :
    c ∈ strictClasses s p ∨ c ∈ weightedClasses s p := by
  have hall : c ∈ [7, 6, 5, 4] ++ [3, 2, 1, 0] := by simp; omega
  rw [← List.take_append_drop (strictCount s p) ([7, 6, 5, 4] ++ [3, 2, 1, 0]),
    List.take_append_of_le_length (by simpa)] at hall
  exact List.mem_append.mp hall

theorem not_servable_of_pickClass_eq_none {s : State} {p c : Nat} (hn : strictCount s p ≤ 4) (h : pickClass s p = none)
    (hc : c < 8) : servable s p c ≠ true := by
  rw [pickClass_eq_or, Option.or_eq_none_iff] at h
  obtain ⟨hstrict, hweighted⟩ := h
  rcases mem_strict_or_weighted hn hc with hc | hc
  · exact List.find?_eq_none.mp hstrict c hc
  · exact List.filter_eq_nil_iff.mp (minTag_eq_none hweighted) c hc

/-! ### Finish tags (R114) -/

theorem headTag_lt (s : State) (p c : Nat) : headTag s p c < 2 ^ 64 := by
  unfold headTag
  split
  · decide
  · exact Nat.mod_lt _ (by decide)

/-- Tags within half the range of one another compare as numbers. -/
theorem tagLe_iff {a b v : Nat} (ha : v ≤ a ∧ a < v + 2 ^ 63) (hb : v ≤ b ∧ b < v + 2 ^ 63) (ha64 : a < 2 ^ 64)
    (hb64 : b < 2 ^ 64) : tagLe a b = true ↔ a ≤ b := by
  unfold tagLe
  rw [decide_eq_true_iff]
  omega

/-- The class chosen has the smallest tag, and is the highest with it. -/
theorem minTag_least {s : State} {p c v : Nat} {l : List Nat} (hl : l.Pairwise (· > ·)) (h : minTag s p l = some c)
    (hv : ∀ d ∈ l, v ≤ headTag s p d ∧ headTag s p d < v + 2 ^ 63) :
    ∀ d ∈ l, headTag s p c ≤ headTag s p d ∧ (headTag s p d = headTag s p c → d ≤ c) := by
  induction l generalizing c with
  | nil => simp
  | cons a t ih =>
    obtain ⟨habove, ht⟩ := List.pairwise_cons.mp hl
    unfold minTag at h
    split at h
    · next hnone =>
      obtain rfl := minTag_eq_none hnone
      simp_all
    · next m hm =>
      have hleast := ih ht hm fun d hd => hv d (List.mem_cons_of_mem _ hd)
      have hmt := mem_of_minTag hm
      have hle : tagLe (headTag s p a) (headTag s p m) = true ↔ headTag s p a ≤ headTag s p m :=
        tagLe_iff (hv a List.mem_cons_self) (hv m (List.mem_cons_of_mem _ hmt)) (headTag_lt s p a) (headTag_lt s p m)
      rw [List.forall_mem_cons]
      split at h
      · next hfirst =>
        obtain rfl : a = c := by simpa using h
        rw [hle] at hfirst
        exact ⟨⟨Nat.le_refl _, fun _ => Nat.le_refl _⟩, fun d hd =>
          ⟨hfirst.trans (hleast d hd).1, fun _ => (habove d hd).le⟩⟩
      · next hlater =>
        obtain rfl : m = c := by simpa using h
        rw [hle, Nat.not_le] at hlater
        exact ⟨⟨hlater.le, fun heq => absurd heq hlater.ne'⟩, hleast⟩

/-- A copy served from a weighted queue moves the queue's tags and the port's virtual time. -/
theorem wfqDone_of_weighted {s : State} {q : Nat} (h : (weightedClasses s (q / 8)).contains (q % 8) = true) (w : Nat) :
    let start := (s.sched.tags.getD q (0, 0)).1
    let finish := (start + wfqCost s q w) % 2 ^ 64
    wfqDone q w s = wrq { s with sched := { s.sched with
      tags := s.sched.tags.put q (if qEmpty s q then start else finish, finish) } } (R.SCH_VTIME (q / 8)) finish :=
  if_neg (by rw [h]; decide)

theorem wfqDone_of_strict {s : State} {q : Nat} (h : (weightedClasses s (q / 8)).contains (q % 8) = false) (w : Nat) :
    wfqDone q w s = s :=
  if_pos (by rw [h]; decide)

/-! ### Shapers (R115) -/

theorem shaperLevel_of_some {s : State} {q : Nat} {x : Int × Nat} (h : s.sched.shaper.get? q = some x) :
    shaperLevel s q =
      min ((rd s (R.SCH_Q_BURST q) * 1000000 : Nat) : Int) (x.1 + (rd s (R.SCH_Q_RATE q) * (s.devNs - x.2) : Nat)) := by
  simp [shaperLevel, h]

theorem shaperLevel_le_burst (s : State) (q : Nat) : shaperLevel s q ≤ (rd s (R.SCH_Q_BURST q) * 1000000 : Nat) := by
  unfold shaperLevel
  dsimp only
  split
  · exact le_refl _
  · exact min_le_left _ _

/-- Tokens put up to the burst are there at once. -/
theorem shaperLevel_shaperSet {s : State} {q : Nat} {v : Int} (hv : v ≤ (rd s (R.SCH_Q_BURST q) * 1000000 : Nat)) :
    shaperLevel (shaperSet q v s) q = v := by
  have hget : (shaperSet q v s).sched.shaper.get? q = some (v, s.devNs) := by simp [shaperSet]
  have hburst : rd (shaperSet q v s) (R.SCH_Q_BURST q) = rd s (R.SCH_Q_BURST q) := by
    have hne : R.SCH_Q_BURST q ≠ R.SCH_Q_TOKENS q := by unfold R.SCH_Q_BURST R.SCH_Q_TOKENS; omega
    rw [shaperSet, rd_wr_other _ _ _ _ hne]; rfl
  have hnow : (shaperSet q v s).devNs = s.devNs := by simp [shaperSet]
  rw [shaperLevel_of_some hget, hburst, hnow, Nat.sub_self, Nat.mul_zero, Nat.cast_zero, add_zero, min_eq_right hv]

theorem shaper_shaperSet_other {q j : Nat} (hj : j ≠ q) (v : Int) (s : State) :
    (shaperSet q v s).sched.shaper.get? j = s.sched.shaper.get? j := by
  simp [shaperSet, hj]

theorem shaperDebit_of_on {s : State} {q : Nat} (h : shaperOn s q = true) (w : Int) : shaperDebit q w s =
    shaperSet q (min ((rd s (R.SCH_Q_BURST q) * 1000000 : Nat) : Int) (shaperLevel s q - w * 1000000)) s :=
  if_pos h

theorem shaperDebit_of_off {s : State} {q : Nat} (h : shaperOn s q = false) (w : Int) : shaperDebit q w s = s := by
  simp [shaperDebit, h]

/-- A shaped queue pays for what it sends. -/
theorem shaperLevel_shaperDebit {s : State} {q : Nat} {w : Int} (h : shaperOn s q = true) (hw : 0 ≤ w) :
    shaperLevel (shaperDebit q w s) q = shaperLevel s q - w * 1000000 := by
  have hburst := shaperLevel_le_burst s q
  rw [shaperDebit_of_on h, shaperLevel_shaperSet (min_le_left _ _), min_eq_right (by omega)]

theorem shaper_shaperDebit_other {q j : Nat} (hj : j ≠ q) (w : Int) (s : State) :
    (shaperDebit q w s).sched.shaper.get? j = s.sched.shaper.get? j := by
  cases h : shaperOn s q with
  | true => rw [shaperDebit_of_on h, shaper_shaperSet_other hj]
  | false => rw [shaperDebit_of_off h]

/-- The head of a shaped queue is eligible at no fewer than zero tokens (R110). -/
theorem shaperLevel_nonneg_of_headReady {s : State} {p c : Nat} (hready : headReady s p c = true)
    (hon : shaperOn s (qOf p c) = true) : 0 ≤ shaperLevel s (qOf p c) := by
  unfold headReady at hready
  dsimp only at hready
  split at hready
  · simp at hready
  · simp only [Bool.and_eq_true, hon] at hready
    obtain ⟨⟨⟨-, hshaper⟩, -⟩, -⟩ := hready
    simpa using hshaper

/-- Settles O21: selection by `pickClass`, the order of finish tags, and the tags and tokens that a served copy leaves. -/
theorem selectionAndShaping : Obligations.SelectionAndShaping := by
  refine ⟨?served, ?strict, ?none, ?least, ?tags, ?tokens, ?shaped⟩
  case served => exact fun s p d h => servable_iff.mp (servable_of_pickClass h)
  case strict => exact fun s p c hc hready hfits => pickClass_of_strict hc (servable_iff.mpr ⟨hready, hfits⟩)
  case none =>
    exact fun s p hn h c hc hboth => not_servable_of_pickClass_eq_none hn h hc (servable_iff.mpr hboth)
  case least => exact fun s p c v l hl h hv => ⟨mem_of_minTag h, minTag_least hl h hv⟩
  case tags =>
    intro s q w start finish
    refine ⟨fun hweighted => ?_, fun hstrict => wfqDone_of_strict hstrict w⟩
    have hdone := wfqDone_of_weighted hweighted w
    rw [hdone]
    refine ⟨?_, ?_, fun j hj => ?_⟩
    · rw [wrq_sched]; exact SMap.get?_put_same _ _ _
    · rw [cnt_wrq, Nat.mod_mod]; rfl
    · rw [wrq_sched]; exact SMap.get?_put_other _ _ _ _ hj
  case tokens =>
    exact fun s q w => ⟨shaperLevel_le_burst s q, fun x hx => shaperLevel_of_some hx, shaperLevel_shaperDebit,
      fun j hj => shaper_shaperDebit_other hj w s, fun hoff => shaperDebit_of_off hoff w⟩
  case shaped => exact fun s p c => shaperLevel_nonneg_of_headReady

/-! ### The arbitration key (R123) -/

/-- A flag at bit i of a header word. -/
def flagBit (b : Bool) (i : Nat) : Nat := if b then 2 ^ i else 0

theorem flagBit_eq (b : Bool) (i : Nat) : flagBit b i = 2 ^ i * b.toNat := by
  cases b <;> simp [flagBit]

theorem flagBit_le (b : Bool) (i : Nat) : flagBit b i ≤ 2 ^ i := by
  cases b <;> simp [flagBit]

/-- Word 1 of a bus frame's header below its RTR bit (R197). -/
def headerRest (brs esi sec : Bool) (vcid sdt len : Nat) : Nat :=
  flagBit brs 30 + flagBit esi 29 + flagBit sec 28 + vcid * 2 ^ 20 + sdt * 2 ^ 12 + len

section Header

variable {fmt ident vcid sdt af t : Nat} {rtr brs esi sec : Bool} {data : List Byte}

theorem headerRest_lt (hvcid : vcid < 256) (hsdt : sdt < 256) (hlen : data.length < 4096) :
    headerRest brs esi sec vcid sdt data.length < 2 ^ 31 := by
  have hbrs := flagBit_le brs 30
  have hesi := flagBit_le esi 29
  have hsec := flagBit_le sec 28
  unfold headerRest
  omega

theorem hdrWord_zero_busFrame :
    hdrWord (busFrame fmt ident rtr brs esi sec vcid sdt af t data) 0 = (fmt * 2 ^ 29 + ident) % 256 ^ 4 := by
  simp only [busFrame, List.append_assoc]
  exact leAt_of_layout [] _ (List.nil_append _).symm rfl

theorem hdrWord_one_busFrame (hvcid : vcid < 256) (hsdt : sdt < 256) (hlen : data.length < 4096) :
    hdrWord (busFrame fmt ident rtr brs esi sec vcid sdt af t data) 1 =
      2 ^ 31 * rtr.toNat + headerRest brs esi sec vcid sdt data.length := by
  have hrest := headerRest_lt (brs := brs) (esi := esi) (sec := sec) hvcid hsdt hlen
  have hrtr := rtr.toNat_le
  have hword : hdrWord (busFrame fmt ident rtr brs esi sec vcid sdt af t data) 1 =
      (flagBit rtr 31 + flagBit brs 30 + flagBit esi 29 + flagBit sec 28 + vcid * 2 ^ 20 + sdt * 2 ^ 12 + data.length)
        % 256 ^ 4 := by
    exact leAt_of_layout (leBytes (fmt * 2 ^ 29 + ident) 4) (leBytes af 4 ++ leBytes t 4 ++ data)
      (by simp [busFrame, flagBit]) (by simp)
  rw [hword, flagBit_eq rtr]
  unfold headerRest at *
  omega

theorem busFormat_busFrame (hfmt : fmt < 8) (hid : ident < 2 ^ 29) :
    busFormat (busFrame fmt ident rtr brs esi sec vcid sdt af t data) = fmt := by
  rw [busFormat, hdrWord_zero_busFrame]
  omega

theorem busIdent_busFrame (hid : ident < 2 ^ 29) :
    busIdent (busFrame fmt ident rtr brs esi sec vcid sdt af t data) = ident := by
  rw [busIdent, hdrWord_zero_busFrame]
  omega

theorem busRtr_busFrame (hvcid : vcid < 256) (hsdt : sdt < 256) (hlen : data.length < 4096) :
    busRtr (busFrame fmt ident rtr brs esi sec vcid sdt af t data) = rtr := by
  rw [busRtr, hdrWord_one_busFrame hvcid hsdt hlen, Nat.testBit_two_pow_mul_add _ (headerRest_lt hvcid hsdt hlen)]
  cases rtr <;> rfl

/-- The header fields of which the arbitration key is made. -/
theorem header_busFrame (hfmt : fmt < 8) (hid : ident < 2 ^ 29) (hvcid : vcid < 256) (hsdt : sdt < 256)
    (hlen : data.length < 4096) :
    let f := busFrame fmt ident rtr brs esi sec vcid sdt af t data
    busFormat f = fmt ∧ busIdent f = ident ∧ busRtr f = rtr :=
  ⟨busFormat_busFrame hfmt hid, busIdent_busFrame hid, busRtr_busFrame hvcid hsdt hlen⟩

end Header

/-- The key of a frame with an 11-bit identifier: the identifier over what its format puts below. -/
def baseKey (ident low : Nat) : Nat := ident * 2 ^ 21 + low

/-- The key of a frame with a 29-bit identifier: its 11 high bits, SRR and IDE recessive, its 18 low bits and the last bit. -/
def extendedKey (ident last : Nat) : Nat := fld ident 28 18 * 2 ^ 21 + 2 ^ 20 + 2 ^ 19 + fld ident 17 0 * 2 + last

section Keys

variable {f : List Byte}

theorem canKey_classic_base (h : busFormat f = 0) : canKey f = baseKey (busIdent f % 2048) (flagBit (busRtr f) 20) := by
  cases hrtr : busRtr f <;> simp [canKey, h, hrtr, baseKey, flagBit]

theorem canKey_classic_extended (h : busFormat f = 1) : canKey f = extendedKey (busIdent f) (busRtr f).toNat := by
  cases hrtr : busRtr f <;> simp [canKey, h, hrtr, extendedKey]

theorem canKey_fd_base (h : busFormat f = 2) : canKey f = baseKey (busIdent f % 2048) (2 ^ 18) := by
  simp [canKey, h, baseKey]

theorem canKey_fd_extended (h : busFormat f = 3) : canKey f = extendedKey (busIdent f) 0 := by
  simp [canKey, h, extendedKey]

theorem canKey_xl (h : busFormat f = 4) : canKey f = baseKey (busIdent f % 2048) (2 ^ 18 + 2 ^ 17) := by
  simp [canKey, h, baseKey, Nat.add_assoc]

end Keys

/-- The identifier of a base key, and below it what the format puts there. -/
theorem baseKey_fields {ident low : Nat} (hid : ident < 2048) (hlow : low < 2 ^ 21) :
    baseKey ident low < 2 ^ 32 ∧ fld (baseKey ident low) 31 21 = ident ∧
    (∀ i < 21, (baseKey ident low).testBit i = low.testBit i) ∧
    ∀ hi < 21, ∀ lo ≤ hi, fld (baseKey ident low) hi lo = fld low hi lo := by
  have hbits : ∀ i < 21, (baseKey ident low).testBit i = low.testBit i := fun i hi => by
    rw [baseKey, Nat.mul_comm, Nat.testBit_two_pow_mul_add _ hlow, if_pos hi]
  refine ⟨by unfold baseKey; omega, ?_, hbits, fun hi hhi lo hlo => Nat.eq_of_testBit_eq fun i => ?_⟩
  · simp only [fld, baseKey, Nat.shiftRight_eq_div_pow]
    omega
  · simp only [testBit_fld]
    by_cases hi' : i < hi - lo + 1
    · rw [hbits (lo + i) (by omega)]
    · simp [hi']

/-- What lies below the identifier's 11 high bits in an extended key. -/
theorem extendedKey_eq_baseKey (ident last : Nat) :
    extendedKey ident last = baseKey (fld ident 28 18) (2 ^ 20 + 2 ^ 19 + fld ident 17 0 * 2 + last) := by
  unfold extendedKey baseKey
  omega

theorem extendedKey_fields {ident : Nat} (last : Bool) :
    let k := extendedKey ident last.toNat
    k < 2 ^ 32 ∧ fld k 31 21 = fld ident 28 18 ∧ k.testBit 20 = true ∧ k.testBit 19 = true ∧
    k.testBit 18 = ident.testBit 17 ∧ k.testBit 17 = ident.testBit 16 ∧ fld k 16 1 = fld ident 15 0 ∧
    k.testBit 0 = last := by
  intro k
  have hbit := last.toNat_le
  have hlow : fld ident 17 0 < 2 ^ 18 := fld_lt _ _ _
  have hlt : 2 ^ 20 + 2 ^ 19 + fld ident 17 0 * 2 + last.toNat < 2 ^ 21 := by omega
  obtain ⟨hk, hid, hbits, -⟩ := baseKey_fields (fld_lt ident 28 18) hlt
  rw [← extendedKey_eq_baseKey] at hk hid hbits
  refine ⟨hk, hid, ?_, ?_, ?_, ?_, ?_, ?_⟩
  · rw [hbits 20 (by decide), Nat.testBit_eq_decide_div_mod_eq]; simp; omega
  · rw [hbits 19 (by decide), Nat.testBit_eq_decide_div_mod_eq]; simp; omega
  · rw [hbits 18 (by decide)]
    simp only [Nat.testBit_eq_decide_div_mod_eq, fld, Nat.shiftRight_eq_div_pow, decide_eq_decide] at *
    omega
  · rw [hbits 17 (by decide)]
    simp only [Nat.testBit_eq_decide_div_mod_eq, fld, Nat.shiftRight_eq_div_pow, decide_eq_decide] at *
    omega
  · simp only [k, extendedKey, fld, Nat.shiftRight_eq_div_pow] at *
    omega
  · rw [hbits 0 (by decide)]
    cases last
    · simp [Nat.testBit_eq_decide_div_mod_eq]
    · simp [Nat.testBit_eq_decide_div_mod_eq]; omega

/-! ### Service in order of key, then of arrival (R122, R123) -/

theorem servedBefore_trans {a b c : CanEntry} (hab : servedBefore a b) (hbc : servedBefore b c) : servedBefore a c := by
  unfold servedBefore at *
  omega

theorem mem_entryIn (e : CanEntry) (l : List CanEntry) (x : CanEntry) : x ∈ entryIn e l ↔ x = e ∨ x ∈ l := by
  induction l with
  | nil => simp [entryIn]
  | cons y t ih =>
    unfold entryIn
    split
    · simp
    · simp only [List.mem_cons, ih]
      tauto

/-- An entry goes in before the first one that is served after it. -/
theorem pairwise_entryIn (e : CanEntry) {l : List CanEntry} (h : l.Pairwise servedBefore) :
    (entryIn e l).Pairwise servedBefore := by
  induction l with
  | nil => simp [entryIn]
  | cons y t ih =>
    obtain ⟨hy, ht⟩ := List.pairwise_cons.mp h
    unfold entryIn
    split
    · next hfirst =>
      have hey : servedBefore e y := by unfold servedBefore; omega
      refine List.pairwise_cons.mpr ⟨fun x hx => ?_, h⟩
      rcases List.mem_cons.mp hx with rfl | hx
      · exact hey
      · exact servedBefore_trans hey (hy x hx)
    · next hlater =>
      have hye : servedBefore y e := by unfold servedBefore; omega
      refine List.pairwise_cons.mpr ⟨fun x hx => ?_, ih ht⟩
      rcases (mem_entryIn e t x).mp hx with rfl | hx
      · exact hye
      · exact hy x hx

theorem lowerOffer_some (x y : Nat × CanAir) : ∃ z, lowerOffer (some x) (some y) = some z ∧ z.1 = min x.1 y.1 := by
  rcases Nat.lt_or_ge y.1 x.1 with hlt | hge
  · exact ⟨y, if_pos hlt, (Nat.min_eq_right hlt.le).symm⟩
  · exact ⟨x, if_neg (Nat.not_lt.mpr hge), (Nat.min_eq_left hge).symm⟩

/-- Settles O25: each format's key is a base or an extended one, insertion keeps the order of service, and the lower of two
offers is chosen. -/
theorem arbitrationKey : Obligations.ArbitrationKey := by
  refine ⟨?_, fun e l h => ⟨pairwise_entryIn e h, mem_entryIn e l⟩, lowerOffer_some⟩
  intro fmt ident vcid sdt af t rtr brs esi sec data hfmt hid hbase hvcid hsdt hlen k
  obtain ⟨hformat, hident, hrtr⟩ := header_busFrame (af := af) (t := t) (rtr := rtr) (brs := brs) (esi := esi) (sec := sec)
    (by omega : fmt < 8) hid hvcid hsdt hlen
  obtain rfl | rfl | rfl | rfl | rfl : fmt = 0 ∨ fmt = 1 ∨ fmt = 2 ∨ fmt = 3 ∨ fmt = 4 := by omega
  · have hid11 : ident < 2048 := hbase (by decide)
    have hkey : k = baseKey ident (flagBit rtr 20) :=
      (canKey_classic_base hformat).trans (by rw [hident, hrtr, Nat.mod_eq_of_lt hid11])
    have hlow : flagBit rtr 20 < 2 ^ 21 := Nat.lt_of_le_of_lt (flagBit_le rtr 20) (by decide)
    obtain ⟨hlt, hfield, hbits, hflds⟩ := baseKey_fields hid11 hlow
    have hrtrBit : (flagBit rtr 20).testBit 20 = rtr ∧ fld (flagBit rtr 20) 19 0 = 0 := by cases rtr <;> decide
    rw [hkey]
    simp only [hlt, hfield, hbits 20 (by decide), hflds 19 (by decide) 0 (by decide), hrtrBit]
    simp
  · have hkey : k = extendedKey ident rtr.toNat :=
      (canKey_classic_extended hformat).trans (by rw [hident, hrtr])
    obtain ⟨hlt, hfields⟩ := extendedKey_fields (ident := ident) rtr
    rw [hkey]
    exact ⟨hlt, by simp, fun _ => hfields, by simp, by simp, by simp⟩
  · have hid11 : ident < 2048 := hbase (by decide)
    have hkey : k = baseKey ident (2 ^ 18) :=
      (canKey_fd_base hformat).trans (by rw [hident, Nat.mod_eq_of_lt hid11])
    obtain ⟨hlt, hfield, hbits, hflds⟩ := baseKey_fields hid11 (low := 2 ^ 18) (by decide)
    rw [hkey]
    refine ⟨hlt, by simp, by simp, fun _ => ⟨hfield, ?_, ?_, ?_⟩, by simp, by simp⟩
    · exact hflds 20 (by decide) 19 (by decide)
    · exact hbits 18 (by decide)
    · exact hflds 17 (by decide) 0 (by decide)
  · have hkey : k = extendedKey ident false.toNat :=
      (canKey_fd_extended hformat).trans (by rw [hident]; rfl)
    obtain ⟨hlt, hfields⟩ := extendedKey_fields (ident := ident) false
    rw [hkey]
    exact ⟨hlt, by simp, by simp, by simp, fun _ => hfields, by simp⟩
  · have hid11 : ident < 2048 := hbase (by decide)
    have hkey : k = baseKey ident (2 ^ 18 + 2 ^ 17) :=
      (canKey_xl hformat).trans (by rw [hident, Nat.mod_eq_of_lt hid11])
    obtain ⟨hlt, hfield, hbits, hflds⟩ := baseKey_fields hid11 (low := 2 ^ 18 + 2 ^ 17) (by decide)
    rw [hkey]
    refine ⟨hlt, by simp, by simp, by simp, by simp, fun _ => ⟨hfield, ?_, ?_, ?_, ?_⟩⟩
    · exact hflds 20 (by decide) 19 (by decide)
    · exact hbits 18 (by decide)
    · exact hbits 17 (by decide)
    · exact hflds 16 (by decide) 0 (by decide)

/-! ### Pause frames (R129) -/

/-- A MAC control frame: destination 01-80-C2-00-00-01, source, EtherType 0x8808, opcode, a first parameter and the rest. -/
def controlFrame (mac op v : Nat) (rest : List Byte) : List Byte :=
  beBytes 0x0180C2000001 6 ++ (beBytes mac 6 ++ (beBytes 0x8808 2 ++ (beBytes op 2 ++ (beBytes v 2 ++ rest))))

theorem length_controlFrame (mac op v : Nat) (rest : List Byte) : (controlFrame mac op v rest).length = 18 + rest.length := by
  simp [controlFrame]; omega

/-- What follows a frame lies behind its rest. -/
theorem controlFrame_append (mac op v : Nat) (rest t : List Byte) :
    controlFrame mac op v rest ++ t = controlFrame mac op v (rest ++ t) := by
  simp [controlFrame]

theorem controlFrame_fields {mac op v : Nat} (hmac : mac < 256 ^ 6) (hop : op < 256 ^ 2) (hv : v < 256 ^ 2)
    (rest : List Byte) :
    let b := controlFrame mac op v rest
    beAt b 0 6 = 0x0180C2000001 ∧ beAt b 6 6 = mac ∧ beAt b 12 2 = 0x8808 ∧ beAt b 14 2 = op ∧ beAt b 16 2 = v := by
  refine ⟨?dst, ?src, ?type, ?op, ?val⟩
  case dst => exact beAt_of_layout [] _ rfl rfl (by decide)
  case src => exact beAt_of_layout (beBytes 0x0180C2000001 6) _ rfl (by simp) hmac
  case type =>
    exact beAt_of_layout (beBytes 0x0180C2000001 6 ++ beBytes mac 6) _ (List.append_assoc ..).symm (by simp) (by decide)
  case op =>
    exact beAt_of_layout (beBytes 0x0180C2000001 6 ++ beBytes mac 6 ++ beBytes 0x8808 2) (beBytes v 2 ++ rest)
      (by simp [controlFrame]) (by simp) hop
  case val =>
    exact beAt_of_layout (beBytes 0x0180C2000001 6 ++ beBytes mac 6 ++ beBytes 0x8808 2 ++ beBytes op 2) rest
      (by simp [controlFrame]) (by simp) hv

/-- A 16-bit time for each of the classes listed: `quanta` for class c, 0 for the others. -/
def classTimes (c quanta : Nat) (l : List Nat) : List Byte := (l.map fun i => beBytes (if i = c then quanta else 0) 2).flatten

theorem length_classTimes (c quanta : Nat) (l : List Nat) : (classTimes c quanta l).length = 2 * l.length := by
  induction l with
  | nil => rfl
  | cons i l ih => simp_all [classTimes]; omega

/-- Class c's time lies after those of the classes below it. -/
theorem classTimes_range_eq {c : Nat} (hc : c < 8) (quanta : Nat) : classTimes c quanta (List.range 8) =
    classTimes c quanta ((List.range 8).take c) ++ (beBytes quanta 2 ++ classTimes c quanta ((List.range 8).drop (c + 1))) := by
  have hsplit : List.range 8 = (List.range 8).take c ++ c :: (List.range 8).drop (c + 1) := by
    have hlen : c < (List.range 8).length := by simpa using hc
    simpa using (List.take_append_drop c _).symm.trans (congrArg _ (List.drop_eq_getElem_cons hlen))
  conv => lhs; rw [hsplit]
  simp [classTimes]

/-- The address of port p. -/
def portMac (s : State) (p : Nat) : Nat := rd s (R.PORT_ETH_MAC_LO p) + 2 ^ 32 * rdf s (R.PORT_ETH_MAC_HI p) 15 0

theorem portMac_lt (s : State) (p : Nat) : portMac s p < 256 ^ 6 := by
  have hlo := rd_lt s (R.PORT_ETH_MAC_LO p)
  have hhi : rdf s (R.PORT_ETH_MAC_HI p) 15 0 < 2 ^ 16 := fld_lt _ _ _
  unfold portMac
  omega

/-- MODE 1 of the port sends PAUSE. -/
theorem pauseFrame_of_pause {s : State} {p : Nat} (h : rdf s (R.SCH_PORT_CFG p) 27 26 = 1) (c quanta : Nat) :
    pauseFrame s p c quanta = withFcs (controlFrame (portMac s p) 1 quanta (List.replicate 42 0)) := by
  simp [pauseFrame, h, padTo, controlFrame, portMac]

/-- Any other mode of the port sends PFC. -/
theorem pauseFrame_of_pfc {s : State} {p : Nat} (h : rdf s (R.SCH_PORT_CFG p) 27 26 ≠ 1) (c quanta : Nat) :
    pauseFrame s p c quanta = withFcs (controlFrame (portMac s p) 0x0101 (2 ^ c)
      (classTimes c quanta (List.range 8) ++ List.replicate 26 0)) := by
  have hlen := length_classTimes c quanta (List.range 8)
  simp only [pauseFrame, if_neg h]
  rw [← classTimes]
  simp [padTo, controlFrame, portMac, hlen]

/-- Class c's time in a PFC frame. -/
theorem beAt_classTime {c quanta : Nat} (hc : c < 8) (hq : quanta < 256 ^ 2) (mac op v : Nat) (rest : List Byte) :
    beAt (controlFrame mac op v (classTimes c quanta (List.range 8) ++ rest)) (18 + 2 * c) 2 = quanta := by
  have hbelow : (classTimes c quanta ((List.range 8).take c)).length = 2 * c := by
    simp [length_classTimes]; omega
  have hsplit : controlFrame mac op v (classTimes c quanta (List.range 8) ++ rest) =
      controlFrame mac op v (classTimes c quanta ((List.range 8).take c)) ++
        (beBytes quanta 2 ++ (classTimes c quanta ((List.range 8).drop (c + 1)) ++ rest)) := by
    simp [controlFrame, classTimes_range_eq hc]
  exact beAt_of_layout _ _ hsplit (by rw [length_controlFrame, hbelow]) hq

/-- Settles O26: a pause frame is a MAC control frame, whose fields read back where they lie. -/
theorem pauseFrameFields : Obligations.PauseFrameFields := by
  intro s p c quanta hc hq b
  have hmac := portMac_lt s p
  by_cases hmode : rdf s (R.SCH_PORT_CFG p) 27 26 = 1
  · have hframe := pauseFrame_of_pause hmode c quanta
    rw [withFcs, controlFrame_append] at hframe
    obtain ⟨hdst, hsrc, htype, hop, hval⟩ := controlFrame_fields hmac (by decide : 1 < 256 ^ 2) hq _
    simp only [b, hframe]
    exact ⟨by simp [length_controlFrame], hdst, hsrc, htype, fun _ => ⟨hop, hval⟩, fun h => absurd hmode h⟩
  · have hframe := pauseFrame_of_pfc hmode c quanta
    rw [withFcs, controlFrame_append, List.append_assoc] at hframe
    have hbit : 2 ^ c < 256 ^ 2 := Nat.pow_lt_pow_right (n := 16) (by decide) (by omega)
    obtain ⟨hdst, hsrc, htype, hop, hval⟩ := controlFrame_fields hmac (by decide : 0x0101 < 256 ^ 2) hbit _
    simp only [b, hframe]
    exact ⟨by simp [length_controlFrame, length_classTimes], hdst, hsrc, htype, fun h => absurd h hmode,
      fun _ => ⟨hop, hval, beAt_classTime hc hq _ _ _ _⟩⟩

/-! ### Completion of the CAN channels' commands -/

/-- Settles O57: an effect stands under its command's one guard, which the hypotheses decide; a driver cools at every rung. -/
theorem canCommandsComplete : Obligations.CanCommandsComplete := by
  refine ⟨?txSuccess, ?received, ?cooled, ?trcvFault, ?termination, ?integrated, ?exception, ?domTimeout, ?recovered, ?error,
    ?lonely, ?arbitration, ?followup, ?abandon, ?syncDue, ?pqMove⟩
  case txSuccess =>
    intro s n nearPs farPs tdcv a hwf ha hair hlive
    exact exec_of_run rfl (by rw [hair]; exact if_neg hlive) hwf ha
  case received => exact fun s n frame negative since dataPhase hwf ha => exec_of_run rfl rfl hwf ha
  case cooled => exact fun s n hwf => exec_of_alwaysOn rfl rfl rfl hwf
  case trcvFault | integrated | exception | lonely | arbitration => exact fun s n hwf ha => exec_of_run rfl rfl hwf ha
  case termination | domTimeout | recovered => exact fun s n hwf ha hmay => exec_of_run rfl (if_neg hmay) hwf ha
  case error =>
    intro s n kind asTx domInPassiveFlag extra8 tdcv place hwf ha hlive
    have hguard : ¬ (!canLive s n || (asTx && place != .flag && (s.sched.canTx.get? n).isNone)) = true := by
      cases asTx <;> simp_all
    exact exec_of_run rfl (if_neg hguard) hwf ha
  case followup | abandon =>
    intro s n c hwf ha hclap hlate
    exact exec_of_run rfl (by rw [hclap]; exact if_pos hlate) hwf ha
  case syncDue =>
    intro s n t hwf ha hnext hdue
    exact exec_of_run rfl (by rw [hnext]; exact if_neg hdue) hwf ha
  case pqMove => exact fun s n ecc hwf ha => exec_of_run rfl rfl hwf ha

end Sys2Proof.Machine
end

section
/-! PROOFS of the collator's statements (R140 to R157): the signed distance of two sequence numbers, what the two recovery
functions do with a copy by that distance, what a discard does by its reason, and the completion of the collator's commands. -/

namespace Sys2Proof.Machine

/-! ### Distances of 16-bit sequence numbers -/

section Recovery

variable {s : State} {c d n : Nat}

theorem ctxNext_lt (s : State) (c : Nat) : ctxNext s c < 0x10000 := fld_lt _ _ _

/-- The distance of n from the highest number passed, NEXT - 1, read as a signed number k. -/
theorem seqDist_passed_eq_emod {k : Int} (hn : n < 65536) (hk : ((n : Int) - (ctxNext s c - 1) - k) % 65536 = 0) :
    (seqDist n (seqDist (ctxNext s c) 1) : Int) = k % 65536 := by
  have hnext := ctxNext_lt s c
  unfold seqDist
  omega

/-- How far a number behind NEXT lies behind NEXT - 1: its bit of the history. -/
theorem seqDist_behind (hn : n < 65536) (hbehind : 0x8000 ≤ seqDist n (ctxNext s c)) :
    seqDist (ctxNext s c) n - 1 = (ctxNext s c + 65535 - n) % 65536 := by
  have hnext := ctxNext_lt s c
  unfold seqDist at *
  omega

/-! ### Vector recovery: a copy in an ELIMINATE context (R146) -/

/-- In TAKE_ANY a copy sets NEXT. -/
theorem ctxElimCopy_takeAny (htake : rdb s (R.COL_CTX_STATE c) 15 = true) : ctxElimCopy c d n s =
    ctxRelease c d (wrq (wrf (wrf s (R.COL_CTX_STATE c) 31 16 (n + 1)) (R.COL_CTX_STATE c) 15 15 0) (R.COL_CTX_HIST c) 1) :=
  if_pos htake

/-- A number k above the highest one passed is a rogue or moves the history by k. -/
theorem ctxElimCopy_ahead {k : Nat} (htake : rdb s (R.COL_CTX_STATE c) 15 = false)
    (hdist : seqDist n (seqDist (ctxNext s c) 1) = k) (hpos : 0 < k) (hk : k < 0x8000) : ctxElimCopy c d n s =
      if ctxWin s c ≤ k then ctxDiscard c d 2 s
      else ctxRelease c d (wrf (ctxHist c k 1 s) (R.COL_CTX_STATE c) 31 16 (n + 1)) := by
  simp only [ctxElimCopy, htake, hdist, hk, hpos, if_true, Bool.false_eq_true, if_false]

/-- A number b at or behind the highest one passed is a rogue, a duplicate by bit b of the history, or noted there. -/
theorem ctxElimCopy_behind {b : Nat} (htake : rdb s (R.COL_CTX_STATE c) 15 = false)
    (hdist : seqDist n (seqDist (ctxNext s c) 1) = (0x10000 - b) % 0x10000) (hb : b ≤ 0x8000) : ctxElimCopy c d n s =
      if ctxWin s c ≤ b then ctxDiscard c d 2 s
      else if (cnt s (R.COL_CTX_HIST c)).testBit b then ctxDiscard c d 1 s
      else ctxRelease c d (wrq s (R.COL_CTX_HIST c) (cnt s (R.COL_CTX_HIST c) ||| 2 ^ b)) := by
  rcases Nat.eq_zero_or_pos b with rfl | hpos
  · simp [ctxElimCopy, htake, hdist]
  · have hfar : ¬ (0x10000 - b < 0x8000) := by omega
    have hback : 0x10000 - (0x10000 - b) = b := by omega
    rw [Nat.mod_eq_of_lt (by omega)] at hdist
    simp only [ctxElimCopy, htake, hdist, hfar, hback, Bool.false_eq_true, if_false]

/-! ### Ordering: a copy in an ORDER or ELIM_ORDER context (R145) -/

/-- A number behind NEXT is a duplicate by the history, else passes late where LATE_PASS is set, else is late. -/
theorem ctxOrderCopy_behind (hn : n < 65536) (htake : rdb s (R.COL_CTX_STATE c) 15 = false)
    (hbehind : 0x8000 ≤ seqDist n (ctxNext s c)) :
    let hist := cnt s (R.COL_CTX_HIST c)
    let back := (ctxNext s c + 65535 - n) % 65536
    let passed := raise 194 (inc (ctxRelease c d s) (R.COL_CTX_CNT c 4))
    ctxOrderCopy c d n s =
      if back < 64 ∧ hist.testBit back = true then ctxDiscard c d 1 s
      else if rdb s (R.COL_CTX_CFG c) 25 then
        if back < 64 then wrq passed (R.COL_CTX_HIST c) (hist ||| 2 ^ back) else passed
      else ctxDiscard c d 3 s := by
  simp only [ctxOrderCopy, htake, hbehind, seqDist_behind hn hbehind, if_true, Bool.false_eq_true, if_false]

/-- A number within the window whose slot holds a copy is a duplicate. -/
theorem ctxOrderCopy_held {e at_ : Nat} (htake : rdb s (R.COL_CTX_STATE c) 15 = false)
    (hahead : seqDist n (ctxNext s c) < 0x8000) (hwin : seqDist n (ctxNext s c) < ctxWin s c)
    (hslot : (ctx s c).slots.getD (seqDist n (ctxNext s c)) .empty = .copy e at_) :
    ctxOrderCopy c d n s = ctxRegs c (ctxDiscard c d 1 s) := by
  simp only [ctxOrderCopy, htake, Nat.not_le.mpr hahead, Nat.not_le.mpr hwin, hslot, Bool.false_eq_true, if_false]

/-- A number within the window whose slot holds no copy takes the slot. -/
theorem ctxOrderCopy_free (htake : rdb s (R.COL_CTX_STATE c) 15 = false)
    (hahead : seqDist n (ctxNext s c) < 0x8000) (hwin : seqDist n (ctxNext s c) < ctxWin s c)
    (hslot : ∀ e at_, (ctx s c).slots.getD (seqDist n (ctxNext s c)) .empty ≠ .copy e at_) :
    ctxOrderCopy c d n s = ctxDrain c (setCtx c
      { ctx s c with slots := slotPut (ctx s c).slots (seqDist n (ctxNext s c)) (.copy d s.devNs) } s) := by
  cases hx : (ctx s c).slots.getD (seqDist n (ctxNext s c)) .empty with
  | copy e at_ => exact absurd hx (hslot e at_)
  | empty | gap =>
    simp only [ctxOrderCopy, htake, Nat.not_le.mpr hahead, Nat.not_le.mpr hwin, hx, Bool.false_eq_true, if_false]

end Recovery

/-! ### Discards (R147) -/

theorem ctxDiscard_duplicate (c d : Nat) (s : State) : ctxDiscard c d 1 s =
    releaseCopy d (inc (setCtx c { ctx s c with du := (ctx s c).du + 1 } s) (R.COL_CTX_CNT c 1)) := rfl

theorem ctxDiscard_rogue (c d : Nat) (s : State) :
    ctxDiscard c d 2 s = raise 195 (releaseCopy d (inc s (R.COL_CTX_CNT c 2))) := rfl

theorem ctxDiscard_late (c d : Nat) (s : State) :
    ctxDiscard c d 3 s = raise 194 (releaseCopy d (inc s (R.COL_CTX_CNT c 3))) := rfl

/-- Settles O22: the signed distance is a number of steps ahead or behind, by which each function's branch is chosen. -/
theorem sequenceRecovery : Obligations.SequenceRecovery := by
  refine ⟨?eliminate, ?order,
    fun s c d => ⟨ctxDiscard_duplicate c d s, ctxDiscard_rogue c d s, ctxDiscard_late c d s⟩⟩
  case eliminate =>
    intro s c d n k hn
    refine ⟨ctxElimCopy_takeAny, fun htake hlow hhigh hk => ?_⟩
    have hdist := seqDist_passed_eq_emod hn hk
    rcases lt_or_ge 0 k with hpos | hneg
    · have helim := ctxElimCopy_ahead (d := d) (n := n) (k := k.toNat) htake (by omega) (by omega) (by omega)
      refine ⟨fun hfar => ?_, fun _ hnear => ?_, by omega⟩
      · rw [helim, if_pos (by omega)]
      · rw [helim, if_neg (by omega)]
        rfl
    · have helim := ctxElimCopy_behind (d := d) (n := n) (b := (-k).toNat) htake (by omega) (by omega)
      refine ⟨fun hfar => ?_, by omega, fun _ hnear => ?_⟩
      · rw [helim, if_pos (by omega)]
      · rw [helim, if_neg (by omega)]
  case order =>
    intro s c d n hn htake hist back ahead
    refine ⟨fun hbehind => ?_, fun hahead hwin => ?_⟩
    · have horder := ctxOrderCopy_behind (d := d) hn htake hbehind
      refine ⟨fun hdup => ?_, fun hnew hlate => ?_, fun hfar hpass => ?_⟩
      · rw [horder, if_pos hdup]
      · rw [horder, if_neg hnew, hlate, if_neg Bool.false_ne_true]
      · rw [horder, if_neg fun hdup => absurd hdup.1 (Nat.not_lt.mpr hfar), if_pos hpass, if_neg (Nat.not_lt.mpr hfar)]
    · exact ⟨fun _ _ => ctxOrderCopy_held htake hahead hwin, ctxOrderCopy_free htake hahead hwin⟩

/-! ### Completion of the collator's commands -/

/-- Settles O44: a latent reset that is due clears the counts, any other command is its effect. -/
theorem collatorCommandsComplete : Obligations.CollatorCommandsComplete :=
  ⟨fun _ _ hwf ha hdue => exec_of_run rfl (if_pos hdue) hwf ha, fun _ _ hwf ha => exec_of_run rfl rfl hwf ha,
   fun _ _ hwf ha => exec_of_run rfl rfl hwf ha, fun _ _ hwf ha => exec_of_run rfl rfl hwf ha⟩

end Sys2Proof.Machine
end

section
/-! PROOFS of the statements of bridging and the signal engine (R161 to R187): where a signal's bits lie, the number that
they spell, the bits that a route writes and the value that it writes there, the order check of an unpack record, and the
completion of the engines' commands. -/

namespace Sys2Proof.Machine

/-! ### Positions of a signal's bits (R178) -/

/-- The position of the next lower bit in Motorola order. -/
def nextLower (k : Nat) : Nat := if k % 8 ≠ 0 then k - 1 else k + 15

/-- A position's place when every byte is read from bit 7 down: the order in which a Motorola signal runs. -/
def runIndex (k : Nat) : Nat := k / 8 * 8 + (7 - k % 8)

theorem motorola_succ (k n : Nat) : motorola k (n + 1) = nextLower (motorola k n) := by
  induction n generalizing k with
  | zero => rfl
  | succ n ih => exact ih (nextLower k)

theorem runIndex_nextLower (k : Nat) : runIndex (nextLower k) = runIndex k + 1 := by
  unfold runIndex nextLower
  split <;> omega

theorem runIndex_motorola (k n : Nat) : runIndex (motorola k n) = runIndex k + n := by
  induction n with
  | zero => rfl
  | succ n ih => rw [motorola_succ, runIndex_nextLower, ih, Nat.add_assoc]

theorem sigPos_motorola_last {j len : Nat} (h : j + 1 = len) (start : Nat) : sigPos start j true len = start := by
  have hsteps : len - 1 - j = 0 := by omega
  simp [sigPos, hsteps, motorola]

theorem sigPos_motorola_inner {j len : Nat} (h : j + 1 < len) (start : Nat) :
    sigPos start j true len = nextLower (sigPos start (j + 1) true len) := by
  have hsteps : len - 1 - j = len - 1 - (j + 1) + 1 := by omega
  simp only [sigPos, if_true, hsteps, motorola_succ]

/-- A signal's bits lie at different positions. -/
theorem sigPos_injOn (start : Nat) (mot : Bool) (len : Nat) :
    ∀ i < len, ∀ j < len, sigPos start i mot len = sigPos start j mot len → i = j := by
  intro i hi j hj heq
  cases mot with
  | false => exact Nat.add_left_cancel heq
  | true =>
    have hrun := congrArg runIndex heq
    simp only [sigPos, if_true, runIndex_motorola] at hrun
    omega

/-! ### The number that bits spell -/

/-- The number below 2ⁿ whose bits are those that p names. -/
def bitSum (p : Nat → Bool) (n : Nat) : Nat := ((List.range n).filter p).foldl (fun a j => a + 2 ^ j) 0

theorem bitSum_succ (p : Nat → Bool) (n : Nat) : bitSum p (n + 1) = 2 ^ n * (p n).toNat + bitSum p n := by
  cases hp : p n <;> simp [bitSum, List.range_succ, hp, Nat.add_comm]

theorem bitSum_lt (p : Nat → Bool) (n : Nat) : bitSum p n < 2 ^ n := by
  induction n with
  | zero => exact Nat.one_pos
  | succ n ih =>
    rw [bitSum_succ, Nat.pow_succ]
    cases p n <;> simp <;> omega

theorem testBit_bitSum (p : Nat → Bool) {n j : Nat} (hj : j < n) : (bitSum p n).testBit j = p j := by
  induction n with
  | zero => exact absurd hj (Nat.not_lt_zero j)
  | succ n ih =>
    rw [bitSum_succ, Nat.testBit_two_pow_mul_add _ (bitSum_lt p n)]
    rcases Nat.lt_succ_iff_lt_or_eq.mp hj with hlow | rfl
    · rw [if_pos hlow, ih hlow]
    · rw [if_neg (Nat.lt_irrefl j), Nat.sub_self]
      cases p j <;> rfl

/-! ### Reading a signal (R178) -/

section Reading

variable {src : List Byte} {start len : Nat} {mot : Bool}

theorem sigRead_of_past (h : ∃ j < len, 8 * src.length ≤ sigPos start j mot len) : sigRead src start mot len = none := by
  obtain ⟨j, hj, hpast⟩ := h
  refine if_pos (List.any_eq_true.mpr ⟨_, List.mem_map_of_mem (List.mem_range.mpr hj), ?_⟩)
  exact decide_eq_true (Nat.mul_comm 8 src.length ▸ hpast)

theorem sigRead_of_within (h : ∀ j < len, sigPos start j mot len < 8 * src.length) :
    sigRead src start mot len = some (bitSum (fun j => bitOf src (sigPos start j mot len)) len) := by
  refine if_neg fun hany => ?_
  obtain ⟨k, hk, hpast⟩ := List.any_eq_true.mp hany
  obtain ⟨j, hj, rfl⟩ := List.mem_map.mp hk
  have hwithin := h j (List.mem_range.mp hj)
  have hpast := of_decide_eq_true hpast
  omega

end Reading

/-! ### Writing bits (R178) -/

theorem setNth_eq_set {α : Type} (l : List α) (i : Nat) (v : α) : setNth l i v = l.set i v := by
  induction l generalizing i with
  | nil => rfl
  | cons x t ih =>
    cases i with
    | zero => rfl
    | succ i => exact congrArg (x :: ·) (ih i)

theorem length_setBitOf (k : Nat) (v : Bool) (b : List Byte) : (setBitOf k v b).length = b.length := by
  unfold setBitOf
  split
  · rw [setNth_eq_set, List.length_set]
  · rfl

theorem byteAt_set {b : List Byte} {n : Nat} (hn : n < b.length) (m : Nat) (x : Byte) :
    byteAt (b.set n x) m = if m = n then x.toNat else byteAt b m := by
  by_cases h : m = n
  · subst h
    simp [byteAt, hn]
  · simp [byteAt, h, List.getElem?_set_ne (Ne.symm h)]

theorem bitOf_setBitOf_same {k : Nat} {b : List Byte} (hk : k < 8 * b.length) (v : Bool) : bitOf (setBitOf k v b) k = v := by
  have hbyte : k / 8 < b.length := by omega
  have hbit : k % 8 < 8 := Nat.mod_lt _ (by decide)
  rw [bitOf, setBitOf, if_pos hbyte, setNth_eq_set, byteAt_set hbyte, if_pos rfl, BitVec.toNat_ofNat,
    Nat.testBit_mod_two_pow, testBit_putFld]
  cases v <;> simp [hbit]

theorem bitOf_setBitOf_other {i k : Nat} (h : i ≠ k) (v : Bool) (b : List Byte) : bitOf (setBitOf k v b) i = bitOf b i := by
  unfold setBitOf
  split
  case isFalse => rfl
  case isTrue hbyte =>
    rw [bitOf, setNth_eq_set, byteAt_set hbyte]
    split
    case isFalse => rfl
    case isTrue hsame =>
      have hoff : i % 8 < k % 8 ∨ k % 8 < i % 8 := by omega
      have hbit : i % 8 < 8 := Nat.mod_lt _ (by decide)
      rw [BitVec.toNat_ofNat, Nat.testBit_mod_two_pow, testBit_putFld_outside _ _ _ _ _ (Nat.le_refl _) hoff, ← hsame,
        decide_eq_true hbit, Bool.true_and, bitOf]

/-- The low n bits of v, written at the positions that `pos` gives. -/
def writeBits (pos : Nat → Nat) (v n : Nat) (b : List Byte) : List Byte :=
  (List.range n).foldl (fun b j => setBitOf (pos j) (v.testBit j) b) b

theorem sigWrite_eq_writeBits (start : Nat) (mot : Bool) (len v : Nat) (b : List Byte) :
    sigWrite start mot len v b = writeBits (fun j => sigPos start j mot len) v len b := rfl

section Writing

variable {pos : Nat → Nat} {v n : Nat} {b : List Byte}

theorem writeBits_succ : writeBits pos v (n + 1) b = setBitOf (pos n) (v.testBit n) (writeBits pos v n b) := by
  simp [writeBits, List.range_succ]

theorem length_writeBits : (writeBits pos v n b).length = b.length := by
  induction n with
  | zero => rfl
  | succ n ih => rw [writeBits_succ, length_setBitOf, ih]

theorem bitOf_writeBits_other {k : Nat} (h : ∀ j < n, pos j ≠ k) : bitOf (writeBits pos v n b) k = bitOf b k := by
  induction n with
  | zero => rfl
  | succ n ih =>
    rw [writeBits_succ, bitOf_setBitOf_other (h n (Nat.lt_succ_self n)).symm, ih fun j hj => h j (Nat.lt_succ_of_lt hj)]

/-- A bit written within the list reads back: no later one is written at its position. -/
theorem bitOf_writeBits_same (hinj : ∀ i < n, ∀ j < n, pos i = pos j → i = j) {j : Nat} (hj : j < n)
    (hpos : pos j < 8 * b.length) : bitOf (writeBits pos v n b) (pos j) = v.testBit j := by
  induction n with
  | zero => exact absurd hj (Nat.not_lt_zero j)
  | succ n ih =>
    rw [writeBits_succ]
    by_cases hlast : j = n
    · subst hlast
      exact bitOf_setBitOf_same (by rwa [length_writeBits]) _
    · have hne : pos j ≠ pos n := fun heq => hlast (hinj j hj n (Nat.lt_succ_self n) heq)
      rw [bitOf_setBitOf_other hne]
      exact ih (fun i hi k hk => hinj i (Nat.lt_succ_of_lt hi) k (Nat.lt_succ_of_lt hk)) (by omega)

end Writing

/-! ### Applying a route (R178) -/

section Route

variable {s : State} {i raw : Nat} {k : RouteK} {src : List Byte}

/-- The raw value that route i finds in a source; none: absent. -/
def routeSig (s : State) (i : Nat) (src : List Byte) : Option Nat :=
  sigRead src (rdf s (R.SGE_ROUTE_SRC i) 13 0) (rdb s (R.SGE_ROUTE_SRC i) 30) (rdf s (R.SGE_ROUTE_OPS i) 31 26 + 1)

theorem routeApply_of_absent (h : routeSig s i src = none) : routeApply i src s = s := by
  simp only [routeSig, rdf, rdb] at h
  simp only [routeApply, rdf, h]

theorem routeApply_of_present (h : routeSig s i src = some raw) :
    routeApply i src s = routeWrite i (routeValue s i raw) s := by
  simp only [routeSig, rdf, rdb] at h
  simp only [routeApply, rdf, h]

/-- The raw value as a number, by SIGNED. -/
def routeExtend (s : State) (i raw : Nat) : Int :=
  if rdb s (R.SGE_ROUTE_SRC i) 29 then signExt raw (rdf s (R.SGE_ROUTE_OPS i) 31 26 + 1) else raw

/-- A value between the route's limits, which SIGNED reads too, where the route clamps. -/
def routeClamp (s : State) (i : Nat) (k : RouteK) (v : Int) : Int :=
  if rdb s (R.SGE_ROUTE_OPS i) 19 then
    (if rdb s (R.SGE_ROUTE_SRC i) 29 then min (max v (signed64 k.lo)) (signed64 k.hi) else min (max v k.lo) k.hi)
  else v

theorem routeValue_of_subst (hk : s.sge.routeK.get? i = some k)
    (hsub : rdb s (R.SGE_ROUTE_OPS i) 18 = true ∧ raw = k.matched) : routeValue s i raw = k.subst := by
  simp only [routeValue, SMap.getD, hk, Option.getD_some]
  exact if_pos hsub

theorem routeValue_of_not_subst (hk : s.sge.routeK.get? i = some k)
    (hsub : ¬ (rdb s (R.SGE_ROUTE_OPS i) 18 = true ∧ raw = k.matched)) :
    routeValue s i raw = (routeClamp s i k (routeExtend s i raw) % (2 ^ 64 : Nat)).toNat := by
  simp only [routeValue, SMap.getD, hk, Option.getD_some]
  exact if_neg hsub

end Route

/-- Settles O27: positions run on without meeting, so each bit reads and writes alone; the value follows R178's branches. -/
theorem signalRoutes : Obligations.SignalRoutes := by
  refine ⟨?positions, ?reading, ?applying, ?value, ?writing⟩
  case positions =>
    exact fun start j len => ⟨rfl, fun h => sigPos_motorola_last h start, fun h => sigPos_motorola_inner h start⟩
  case reading =>
    intro src start len mot
    exact ⟨sigRead_of_past, fun hwithin => ⟨_, sigRead_of_within hwithin, bitSum_lt _ _, fun j hj => testBit_bitSum _ hj⟩⟩
  case applying =>
    exact fun s i src => ⟨routeApply_of_absent, fun raw => routeApply_of_present⟩
  case value =>
    intro s i raw k hk
    refine ⟨routeValue_of_subst hk, fun hsub hsigned hclamp => ?_, fun hsub hsigned hclamp => ?_,
      fun hsub hsigned hclamp => ?_, fun hsub hsigned hclamp => ?_⟩
    all_goals
      rw [routeValue_of_not_subst hk hsub]
      simp only [routeClamp, routeExtend, hsigned, hclamp, if_true, Bool.false_eq_true, if_false]
    · rfl
    · rfl
    · omega
    · omega
  case writing =>
    intro start len v mot b
    rw [sigWrite_eq_writeBits]
    exact ⟨length_writeBits, fun j hj hpos => bitOf_writeBits_same (sigPos_injOn start mot len) hj hpos,
      fun k hk => bitOf_writeBits_other hk⟩

/-! ### The order check of an unpack record (R174, R175) -/

/-- Unpack record u, started, expects the number after seq next. -/
def unpExpect (u seq : Nat) (s : State) : State :=
  wrf (wrf s (R.SGE_UNP_CFG u) 15 8 (seq + 1)) (R.SGE_UNP_CFG u) 7 7 1

theorem unpExpect_expected (u seq : Nat) (s : State) :
    rdf (unpExpect u seq s) (R.SGE_UNP_CFG u) 15 8 = (seq + 1) % 256 := by
  rw [unpExpect, rdf_wrf_disjoint _ _ _ _ _ _ _ (by decide) (by decide) (by decide) (by decide),
    rdf_wrf_same _ _ _ _ _ (by decide) (by decide)]
  rfl

theorem unpExpect_started (u seq : Nat) (s : State) : rdb (unpExpect u seq s) (R.SGE_UNP_CFG u) 7 = true :=
  rdb_wrf_bit _ _ _ _ (by decide)

/-- Unpack record u has started and expects another number than seq. -/
def unpGap (u seq : Nat) (s : State) : Bool :=
  rdb s (R.SGE_UNP_CFG u) 7 && rdf s (R.SGE_UNP_CFG u) 15 8 != seq

theorem unpSeq_eq (u seq : Nat) (s : State) : unpSeq u seq s =
    if unpGap u seq s then raise 226 (inc (unpExpect u seq s) (R.SGE_UNP_CNT u 2)) else unpExpect u seq s := rfl

theorem unpSeq_of_no_gap {u seq : Nat} {s : State} (h : unpGap u seq s = false) : unpSeq u seq s = unpExpect u seq s := by
  simp [unpSeq_eq, h]

theorem unpSeq_of_gap {u seq : Nat} {s : State} (h : unpGap u seq s = true) :
    unpSeq u seq s = raise 226 (inc (unpExpect u seq s) (R.SGE_UNP_CNT u 2)) := by
  simp [unpSeq_eq, h]

/-- The subtype of a record's kind. -/
def unpSubtype (kind : Nat) : Nat := if kind = 0 then 0x82 else if kind = 1 then 0x05 else 0x6F

/-- A frame of the record's kind is unpacked whether its number was the expected one or not. -/
theorem unpack1722Do_of_subtype {cells mem : Ecc} {s t : State} {j : Job} {o : Nat} (hjob : jobTake 3 cells mem s = (some j, t))
    (hat : avtpAt j.data = some o)
    (hsub : byteAt j.data o = unpSubtype (rdf t (R.SGE_UNP_CFG j.v.bridgeIdx) 30 29)) :
    unpack1722Do cells mem s =
      (let u := j.v.bridgeIdx
       let kind := rdf t (R.SGE_UNP_CFG u) 30 29
       let b := avtpBody kind o j.data
       unpAll u (kind == 2) b.length b
         (unpSeq u (byteAt j.data (if kind = 0 then o + 3 else o + 2)) (inc t (R.SGE_UNP_CNT u 0)))) := by
  have hfits : ¬ (avtpAt j.data = none ∨
      byteAt j.data o ≠ unpSubtype (rdf t (R.SGE_UNP_CFG j.v.bridgeIdx) 30 29)) := by
    simp [hat, hsub]
  simp only [unpack1722Do, hjob]
  rw [hat] at hfits ⊢
  exact if_neg hfits

/-- The body of a frame, kind by kind. -/
theorem avtpBody_eq (kind o : Nat) (b : List Byte) : avtpBody kind o b =
    if kind = 0 then slice (dropFcs b) (o + 12) (beAt b (o + 1) 2 % 0x800)
    else if kind = 1 then slice (dropFcs b) (o + 24) (beAt b (o + 20) 2)
    else slice (dropFcs b) (o + 30) (beAt b (o + 20) 2 - 6) := by
  unfold avtpBody
  split <;> rfl

/-- Settles O28: a gap counts and is reported beside the expectation, and unpacking follows it either way. -/
theorem unpackSequence : Obligations.UnpackSequence := by
  refine ⟨?order, ?unpacked⟩
  case order =>
    intro s u seq t
    refine ⟨unpExpect_expected u seq s, unpExpect_started u seq s, fun hfirst => unpSeq_of_no_gap ?_,
      fun _ hnext => unpSeq_of_no_gap ?_, fun hstarted hother => unpSeq_of_gap ?_⟩
    · simp [unpGap, hfirst]
    · simp [unpGap, hnext]
    · simp [unpGap, hstarted, hother]
  case unpacked =>
    intro s t j cells mem o hacts hjob hat u kind seq b hsub
    have heff := unpack1722Do_of_subtype hjob hat hsub
    have hbody : avtpBody kind o j.data = b := avtpBody_eq kind o j.data
    rw [← hbody]
    exact exec_of_run rfl heff rfl hacts

/-! ### Completion of the engines' commands -/

/-- Settles O54: a session or a due time that the hypotheses name is the one the command finds; other guards are decided. -/
theorem bridgingCommandsComplete : Obligations.BridgingCommandsComplete := by
  refine ⟨?request, ?claim, ?claimTimer, ?bam, ?tpTimer, ?transport, ?rxTimeout, ?group, ?signal, ?gapEnd, ?periodic, ?unpack,
    ?window, ?encap, ?convert⟩
  case request => exact fun s n dest hwf ha => exec_of_run rfl rfl hwf ha
  case claim => exact fun s n address name hwf ha hclaims => exec_of_run rfl (if_neg hclaims) hwf ha
  case claimTimer | rxTimeout | gapEnd => exact fun s n hwf ha => exec_of_run rfl rfl hwf ha
  case bam | tpTimer =>
    intro s sess t hwf ha hsess hdue
    exact exec_of_run rfl (by rw [hsess]; exact if_pos hdue) hwf ha
  case transport | signal | unpack | encap | convert => exact fun s cells mem hwf ha => exec_of_run rfl rfl hwf ha
  case group => exact fun s t ecc hwf ha hruns => exec_of_run rfl (if_neg hruns) hwf ha
  case periodic =>
    intro s l due hwf ha hnext hdue
    exact exec_of_run rfl (by rw [hnext]; exact if_pos hdue) hwf ha
  case window => exact fun s e hwf ha hdue => exec_of_run rfl (if_pos hdue) hwf ha

end Sys2Proof.Machine
end

section
/-! PROOFS of the statements of the CAN channels (R197, R204): the fields of a bus frame's header, which lie side by side in its
words, and the error counters, which lie in one register and saturate. -/

namespace Sys2Proof.Machine

/-! ### The bus frame's header (R197) -/

theorem testBit_eq_of_div_mod {w i : Nat} {b : Bool} (h : w / 2 ^ i % 2 = b.toNat) : w.testBit i = b := by
  rw [Nat.testBit_eq_decide_div_mod_eq, h]
  cases b <;> rfl

/-- The fields of word 1 lie side by side (R197). -/
theorem word_one_fields {rtr brs esi sec : Bool} {vcid sdt len : Nat} (hvcid : vcid < 256) (hsdt : sdt < 256)
    (hlen : len < 4096) :
    let w := 2 ^ 31 * rtr.toNat + headerRest brs esi sec vcid sdt len
    w.testBit 30 = brs ∧ w.testBit 29 = esi ∧ w.testBit 28 = sec ∧ fld w 27 20 = vcid ∧ fld w 19 12 = sdt ∧
    w % 0x1000 = len := by
  intro w
  have hw : w = 2 ^ 31 * rtr.toNat +
      (2 ^ 30 * brs.toNat + 2 ^ 29 * esi.toNat + 2 ^ 28 * sec.toNat + vcid * 2 ^ 20 + sdt * 2 ^ 12 + len) := by
    simp only [w, headerRest, flagBit_eq]
  have hbrs := brs.toNat_le
  have hesi := esi.toNat_le
  have hsec := sec.toNat_le
  simp only [fld, Nat.shiftRight_eq_div_pow]
  refine ⟨testBit_eq_of_div_mod ?_, testBit_eq_of_div_mod ?_, testBit_eq_of_div_mod ?_, ?_, ?_, ?_⟩ <;> omega

section Frame

variable {fmt ident vcid sdt af t : Nat} {rtr brs esi sec : Bool} {data : List Byte}

theorem length_busFrame : (busFrame fmt ident rtr brs esi sec vcid sdt af t data).length = 16 + data.length := by
  simp only [busFrame, List.length_append, length_leBytes]

theorem busData_busFrame : busData (busFrame fmt ident rtr brs esi sec vcid sdt af t data) = data :=
  List.drop_left' (by simp only [List.length_append, length_leBytes])

theorem hdrWord_two_busFrame : hdrWord (busFrame fmt ident rtr brs esi sec vcid sdt af t data) 2 = af % 2 ^ 32 :=
  leAt_of_layout _ _ ((List.append_assoc ..).trans (List.append_assoc ..)) (by simp)

theorem hdrWord_three_busFrame : hdrWord (busFrame fmt ident rtr brs esi sec vcid sdt af t data) 3 = t % 2 ^ 32 :=
  leAt_of_layout _ _ (List.append_assoc ..) (by simp)

end Frame

/-- Settles O14: words 0, 2 and 3 read back whole, word 1 as the sum of its fields, and the data lies behind 16 bytes. -/
theorem busHeaderRoundTrip : Obligations.BusHeaderRoundTrip := by
  intro fmt ident vcid sdt af t rtr brs esi sec data hfmt hident hvcid hsdt hlen b
  obtain ⟨hformat, hid, hrtr⟩ := header_busFrame (af := af) (t := t) (rtr := rtr) (brs := brs) (esi := esi) (sec := sec)
    hfmt hident hvcid hsdt hlen
  have hword : hdrWord b 1 = _ := hdrWord_one_busFrame hvcid hsdt hlen
  obtain ⟨hbrs, hesi, hsec, hv, hs, hl⟩ := word_one_fields (rtr := rtr) (brs := brs) (esi := esi) (sec := sec) hvcid hsdt hlen
  rw [← hword] at hbrs hesi hsec hv hs hl
  exact ⟨length_busFrame, hformat, hid, hrtr, hbrs, hesi, hsec, hv, hs, hl, hdrWord_two_busFrame, hdrWord_three_busFrame,
    busData_busFrame⟩

/-! ### TEC, REC and ACK_RUN in one register (R204, R208) -/

section Counters

variable (n v : Nat) (s : State)

@[simp] theorem canTec_setTec : canTec (setTec n v s) n = min 511 v := by
  rw [canTec, setTec, rdf_wrf_same _ _ _ _ _ (by decide) (by decide)]
  omega

@[simp] theorem canRec_setRec : canRec (setRec n v s) n = min 255 v := by
  rw [canRec, setRec, rdf_wrf_same _ _ _ _ _ (by decide) (by decide)]
  omega

@[simp] theorem canRec_setTec : canRec (setTec n v s) n = canRec s n :=
  rdf_wrf_disjoint _ _ _ _ _ _ _ (by decide) (by decide) (by decide) (by decide)

@[simp] theorem canTec_setRec : canTec (setRec n v s) n = canTec s n :=
  rdf_wrf_disjoint _ _ _ _ _ _ _ (by decide) (by decide) (by decide) (by decide)

@[simp] theorem canTec_setAckRun : canTec (setAckRun n v s) n = canTec s n :=
  rdf_wrf_disjoint _ _ _ _ _ _ _ (by decide) (by decide) (by decide) (by decide)

@[simp] theorem canRec_setAckRun : canRec (setAckRun n v s) n = canRec s n :=
  rdf_wrf_disjoint _ _ _ _ _ _ _ (by decide) (by decide) (by decide) (by decide)

end Counters

/-! ### Error counters (R204) -/

/-- A transmitter's acknowledge error lengthens the run of them. -/
def countAck (n : Nat) (kind : CanErr) (s : State) : State :=
  if kind = .ack then setAckRun n (canAckRun s n + 1) s else s

@[simp] theorem canTec_countAck (n : Nat) (kind : CanErr) (s : State) : canTec (countAck n kind s) n = canTec s n := by
  unfold countAck
  split
  · exact canTec_setAckRun n _ s
  · rfl

@[simp] theorem canRec_countAck (n : Nat) (kind : CanErr) (s : State) : canRec (countAck n kind s) n = canRec s n := by
  unfold countAck
  split
  · exact canRec_setAckRun n _ s
  · rfl

/-- What an error adds to a transmitter's TEC before the runs of dominant bits that follow. -/
def txErrorStep (s : State) (n : Nat) (kind : CanErr) (dom : Bool) (place : CanWhere) : Nat :=
  if (kind = .ack ∧ canPassive s n = true ∧ dom = false) ∨ (kind = .stuff ∧ place = .arbitrationStuff) then 0 else 8

section Errors

variable {n extra : Nat} {kind : CanErr} {dom : Bool} {place : CanWhere} {s : State}

theorem canErrCounters_flag (asTx : Bool) : canErrCounters n kind asTx dom extra .flag s =
    if asTx then setTec n (canTec s n + (if kind = .bit then 8 else 0) + 8 * extra) s
    else setRec n (canRec s n + (if kind = .bit then 8 else 0) + 8 * extra) s := rfl

theorem canErrCounters_receiver (h : place ≠ .flag) :
    canErrCounters n kind false dom extra place s = setRec n (canRec s n + 1 + 8 * extra) s := if_neg h

theorem canErrCounters_transmitter (h : place ≠ .flag) : canErrCounters n kind true dom extra place s =
    setTec n (canTec (countAck n kind s) n + txErrorStep s n kind dom place + 8 * extra) (countAck n kind s) := if_neg h

theorem canTec_transmitter (h : place ≠ .flag) : canTec (canErrCounters n kind true dom extra place s) n =
    min 511 (canTec s n + txErrorStep s n kind dom place + 8 * extra) := by
  simp [canErrCounters_transmitter h]

theorem canRec_transmitter : canRec (canErrCounters n kind true dom extra place s) n = canRec s n := by
  by_cases h : place = .flag
  · simp [h, canErrCounters_flag]
  · simp [canErrCounters_transmitter h]

theorem canTec_receiver : canTec (canErrCounters n kind false dom extra place s) n = canTec s n := by
  by_cases h : place = .flag
  · simp [h, canErrCounters_flag]
  · simp [canErrCounters_receiver h]

end Errors

theorem canPassive_iff (s : State) (n : Nat) : canPassive s n = true ↔ 127 < canTec s n ∨ 127 < canRec s n :=
  decide_eq_true_iff

/-- Settles O23: an error writes one counter, by the side and the place, and the states follow from the counters. -/
theorem canErrorCounters : Obligations.CanErrorCounters := by
  refine ⟨fun s n extra kind dom place => ?_, canPassive_iff, fun s n was hoff => if_pos hoff⟩
  refine ⟨canRec_transmitter, canTec_receiver, ?flag, fun hplace => ?receiver, fun hplace hspared => ?spared,
    fun hplace hcharged => ?charged⟩
  case flag =>
    rintro rfl
    exact ⟨canTec_setTec n _ s, canRec_setRec n _ s⟩
  case receiver => rw [canErrCounters_receiver hplace, canRec_setRec]
  case spared => rw [canTec_transmitter hplace, txErrorStep, if_pos hspared, Nat.add_zero]
  case charged => rw [canTec_transmitter hplace, txErrorStep, if_neg hcharged]

end Sys2Proof.Machine
end

section
/-! PROOFS of the statements of the LIN channels and the safe outputs (R248, R261): the parity bits of a protected identifier,
the carry-around sum of a response, and the findings of a diagnosis from the worst on. -/

namespace Sys2Proof.Machine

/-! ### Protected identifier (R248, log entry 179) -/

/-- The exclusive or of the bits of i at the places of l. -/
def parityOf (i : Nat) (l : List Nat) : Bool := l.foldr (fun k b => i.testBit k ^^ b) false

/-- Counting the bits that are set modulo 2 is their exclusive or. -/
theorem length_filter_testBit_mod_two (i : Nat) (l : List Nat) :
    (l.filter (fun k => i.testBit k)).length % 2 = (parityOf i l).toNat := by
  induction l with
  | nil => rfl
  | cons k l ih =>
    have hstep : parityOf i (k :: l) = (i.testBit k ^^ parityOf i l) := rfl
    rw [hstep]
    cases hk : i.testBit k with
    | false => rw [List.filter_cons_of_neg (by simp [hk]), ih, Bool.false_xor]
    | true =>
      rw [List.filter_cons_of_pos hk, List.length_cons, Nat.add_mod, ih]
      cases parityOf i l <;> rfl

/-- The identifier and its parity bits lie side by side; P1 is inverted. -/
theorem linPid_eq (i : Nat) :
    linPid i = i % 64 + 64 * (parityOf i [0, 1, 2, 4]).toNat + 128 * (!parityOf i [1, 3, 4, 5]).toNat := by
  simp only [linPid, length_filter_testBit_mod_two]
  cases parityOf i [1, 3, 4, 5] <;> rfl

theorem linPid_lt (i : Nat) : linPid i < 256 := by
  have hp0 := (parityOf i [0, 1, 2, 4]).toNat_le
  have hp1 := (!parityOf i [1, 3, 4, 5]).toNat_le
  rw [linPid_eq]
  omega

theorem fld_linPid (i : Nat) : fld (linPid i) 5 0 = i % 64 := by
  rw [linPid_eq, fld, Nat.shiftRight_zero]
  omega

theorem testBit_six_linPid (i : Nat) : (linPid i).testBit 6 = parityOf i [0, 1, 2, 4] := by
  have hp0 := (parityOf i [0, 1, 2, 4]).toNat_le
  apply testBit_eq_of_div_mod
  rw [linPid_eq]
  omega

theorem testBit_seven_linPid (i : Nat) : (linPid i).testBit 7 = !parityOf i [1, 3, 4, 5] := by
  have hp0 := (parityOf i [0, 1, 2, 4]).toNat_le
  have hp1 := (!parityOf i [1, 3, 4, 5]).toNat_le
  apply testBit_eq_of_div_mod
  rw [linPid_eq]
  omega

/-! ### Checksum (R248, log entry 179) -/

/-- Addition of a byte with the carry added back in. -/
def carryAdd (a : Nat) (b : Byte) : Nat := if a + b.toNat < 256 then a + b.toNat else a + b.toNat - 255

theorem carryAdd_lt {a : Nat} (ha : a < 256) (b : Byte) : carryAdd a b < 256 := by
  have hb := b.isLt
  unfold carryAdd
  split <;> omega

theorem carryAdd_modEq (a : Nat) (b : Byte) : carryAdd a b ≡ a + b.toNat [MOD 255] := by
  unfold carryAdd Nat.ModEq
  split <;> omega

/-- A carry-around sum stays in one byte and keeps the sum modulo 255. -/
theorem foldl_carryAdd (data : List Byte) {a : Nat} (ha : a < 256) :
    data.foldl carryAdd a < 256 ∧ data.foldl carryAdd a ≡ a + (data.map BitVec.toNat).sum [MOD 255] := by
  induction data generalizing a with
  | nil => exact ⟨ha, rfl⟩
  | cons b data ih =>
    obtain ⟨hlt, hmod⟩ := ih (carryAdd_lt ha b)
    refine ⟨hlt, hmod.trans ?_⟩
    rw [List.map_cons, List.sum_cons, ← Nat.add_assoc]
    exact (carryAdd_modEq a b).add_right _

/-- What the checksum covers before the data: the protected identifier of an enhanced frame, nothing of another. -/
def linCovered (s : State) (p i : Nat) : Nat :=
  if rdb s (R.PORT_LIN_FRAME p i) 29 && i != 0x3C && i != 0x3D then linPid i else 0

section Checksum

variable {s : State} {p i : Nat}

theorem linCovered_enhanced (he : rdb s (R.PORT_LIN_FRAME p i) 29 = true) (hc : i ≠ 0x3C) (hd : i ≠ 0x3D) :
    linCovered s p i = linPid i := if_pos (by simp [he, hc, hd])

theorem linCovered_classic (h : rdb s (R.PORT_LIN_FRAME p i) 29 = false ∨ i = 0x3C ∨ i = 0x3D) :
    linCovered s p i = 0 := by
  obtain he | rfl | rfl := h
  · exact if_neg (by simp [he])
  · exact if_neg (by simp)
  · exact if_neg (by simp)

theorem linCovered_lt : linCovered s p i < 256 := by
  unfold linCovered
  split
  · exact linPid_lt i
  · decide

theorem linChecksum_eq (data : List Byte) :
    linChecksum s p i data = BitVec.ofNat 8 (255 - data.foldl carryAdd (linCovered s p i)) := rfl

/-- The checksum brings the sum of what it covers to 0 modulo 255, for it is what the carry-around sum lacks of 255. -/
theorem linChecksum_sum (data : List Byte) :
    (linCovered s p i + ((data.map BitVec.toNat).sum + (linChecksum s p i data).toNat)) % 255 = 0 := by
  obtain ⟨hlt, hmod⟩ := foldl_carryAdd data (linCovered_lt (s := s) (p := p) (i := i))
  have hcheck : (linChecksum s p i data).toNat = 255 - data.foldl carryAdd (linCovered s p i) := by
    rw [linChecksum_eq, BitVec.toNat_ofNat]
    omega
  unfold Nat.ModEq at hmod
  omega

end Checksum

/-! ### Diagnosis of a safe output (R261, log entry 37) -/

/-- The findings in their order, each tested where no worse one holds. -/
theorem soDiagCode_eq (s : State) (k ma mv testMv ms : Nat) (temp : Int) (limit mismatch : Bool) :
    soDiagCode s k ma mv testMv temp limit mismatch ms =
      if 165 < temp then 4
      else if soIsOn s k = true ∧ limit = true then 2
      else if soIsOn s k = false ∧ 3000 < mv then 3
      else if (soIsOn s k = true ∧ 10 ≤ ms) ∨ (soIsOn s k = false ∧ 3000 < testMv) then 1
      else if mismatch then 5 else 0 := by
  simp only [soDiagCode, Bool.and_eq_true, Bool.or_eq_true, Bool.not_eq_true', decide_eq_true_eq]

/-- Settles O24: the parity bits side by side with the identifier, the carry-around sum modulo 255, and the findings of a
diagnosis in their order. -/
theorem linChecksAndOutputDiagnosis : Obligations.LinChecksAndOutputDiagnosis := by
  refine ⟨fun i hi => ?pid, fun s p i data => ⟨fun he hc hd => ?enhanced, fun h => ?classic⟩,
    fun s k ma mv testMv ms temp limit mismatch => ?diagnosis⟩
  case pid =>
    refine ⟨(fld_linPid i).trans (Nat.mod_eq_of_lt hi), linPid_lt i, ?_, ?_⟩
    · simp only [testBit_six_linPid, parityOf, List.foldr, Bool.xor_false, Bool.xor_assoc]
    · simp only [testBit_seven_linPid, parityOf, List.foldr, Bool.xor_false, Bool.xor_assoc]
  case enhanced => simpa only [linCovered_enhanced he hc hd] using linChecksum_sum (s := s) (p := p) (i := i) data
  case classic =>
    simpa only [linCovered_classic h, Nat.zero_add] using linChecksum_sum (s := s) (p := p) (i := i) data
  case diagnosis =>
    intro diag on openLoad
    have hdiag : diag = _ := soDiagCode_eq s k ma mv testMv ms temp limit mismatch
    refine ⟨fun hhot => ?_, fun hcool hon hlimit => ?_, fun hcool hoff hbat => ?_,
      fun hcool hgnd hbat => ⟨fun hopen => ?_, fun hopen => ?_⟩⟩
    · rw [hdiag, if_pos hhot]
    · rw [hdiag, if_neg hcool.not_gt, if_pos ⟨hon, hlimit⟩]
    · have hgnd : ¬ (soIsOn s k = true ∧ limit = true) := fun h => Bool.false_ne_true (hoff.symm.trans h.1)
      rw [hdiag, if_neg hcool.not_gt, if_neg hgnd, if_pos ⟨hoff, hbat⟩]
    · rw [hdiag, if_neg hcool.not_gt, if_neg hgnd, if_neg hbat, if_pos hopen]
    · rw [hdiag, if_neg hcool.not_gt, if_neg hgnd, if_neg hbat, if_neg hopen]

end Sys2Proof.Machine
end

section
/-! PROOFS of the statements of the vault (R286 to R303): DELETE's two outcomes, what a deleted entry leaves, the order in which
the requests of a device tick are served, and the completion of the vault's and the tamper commands. -/

namespace Sys2Proof.Machine

/-! ### DELETE (R291) -/

section Delete

variable {s : State} {reqr i : Nat}

/-- The vault refuses DELETE unless it is sealed, firmware asks and the entry is valid. -/
theorem vltDelete_denied (h : lifecycle s ≠ 1 ∨ reqr = 2 ∨ ktValid s i = false) :
    vltDelete reqr i s = vltResult 3 reqr i 2 s :=
  if_pos h

theorem vltDelete_done (hsealed : lifecycle s = 1) (hfirmware : reqr ≠ 2) (hvalid : ktValid s i = true) :
    vltDelete reqr i s = vltResult 3 reqr i 0 (ktCounts (ktDrop i (ktStaleBelow i s))) :=
  if_neg (by simp [hsealed, hfirmware, hvalid])

end Delete

/-! ### Removal of an entry -/

theorem ktAddr_inj {i w w' : Nat} : ktAddr i w = ktAddr i w' ↔ w = w' := by
  unfold ktAddr
  omega

/-- The registers of a state without entry i are those after its four attribute words were cleared. -/
theorem rd_ktDrop (i : Nat) (s : State) (a : Nat) :
    rd (ktDrop i s) a = rd (wr (wr (wr (wr s (ktAddr i 0) 0) (ktAddr i 1) 0) (ktAddr i 2) 0) (ktAddr i 3) 0) a := rfl

theorem rd_ktDrop_ktAddr {w : Nat} (i : Nat) (s : State) (hw : w < 4) : rd (ktDrop i s) (ktAddr i w) = 0 := by
  simp only [rd_ktDrop, rd_wr, ktAddr_inj]
  split_ifs <;> omega

theorem ktDrop_keys (i : Nat) (s : State) : (ktDrop i s).vault.keys = s.vault.keys.del i := rfl

/-! ### The requests of a device tick (R291, R303, log entry 193) -/

/-- The oldest waiting request of requester k. -/
def oldestOf (s : State) (k : Nat) : Option VaultReq := s.vault.reqs.find? (fun q => q.reqr == k)

theorem oldestOf_eq_none {s : State} {k : Nat} : oldestOf s k = none ↔ ∀ q ∈ s.vault.reqs, q.reqr ≠ k := by
  simp [oldestOf]

theorem oldestOf_eq_some {s : State} {k : Nat} {r : VaultReq} :
    oldestOf s k = some r ↔
      r.reqr = k ∧ ∃ before after, s.vault.reqs = before ++ r :: after ∧ ∀ q ∈ before, q.reqr ≠ k := by
  simp [oldestOf, List.find?_eq_some_iff_append]

/-- The request served first is the oldest of the first of the three requesters that has one waiting. -/
theorem vaultFirst_eq_or (s : State) : vaultFirst s = (oldestOf s 0).or ((oldestOf s 1).or (oldestOf s 2)) := by
  have hfind : vaultFirst s = ([0] ++ ([1] ++ [2])).findSome? (oldestOf s) := rfl
  simp only [hfind, List.findSome?_append, List.findSome?_singleton]

theorem vaultFirst_eq_some {s : State} {r : VaultReq} (h : vaultFirst s = some r) :
    ∃ k ≤ 2, oldestOf s k = some r ∧ ∀ j < k, oldestOf s j = none := by
  rw [vaultFirst_eq_or] at h
  simp only [Option.or_eq_some_iff] at h
  rcases h with hpair | ⟨hnoPair, hcluster | ⟨hnoCluster, hhost⟩⟩
  · exact ⟨0, by decide, hpair, fun j hj => absurd hj j.not_lt_zero⟩
  · exact ⟨1, by decide, hcluster, by simpa using hnoPair⟩
  · refine ⟨2, le_rfl, hhost, fun j hj => ?_⟩
    obtain rfl | rfl : j = 0 ∨ j = 1 := by omega
    · exact hnoPair
    · exact hnoCluster

/-- Those that arrived before the request served first are of lower requesters, those after it of no higher one. -/
theorem vaultFirst_order {s : State} {r : VaultReq} (h : vaultFirst s = some r) :
    ∃ before after, s.vault.reqs = before ++ r :: after ∧ r.reqr ≤ 2 ∧ (∀ q ∈ before, r.reqr < q.reqr) ∧
      ∀ q ∈ after, r.reqr ≤ q.reqr := by
  obtain ⟨k, hk, hfound, hnone⟩ := vaultFirst_eq_some h
  obtain ⟨rfl, before, after, hsplit, hbefore⟩ := oldestOf_eq_some.mp hfound
  have hle : ∀ q ∈ s.vault.reqs, r.reqr ≤ q.reqr := fun q hq =>
    Nat.le_of_not_lt fun hlt => oldestOf_eq_none.mp (hnone _ hlt) q hq rfl
  rw [hsplit] at hle
  refine ⟨before, after, hsplit, hk, fun q hq => ?_, fun q hq => hle q (by simp [hq])⟩
  exact lt_of_le_of_ne (hle q (by simp [hq])) (hbefore q hq).symm

theorem vaultDrain_of_resLow {s : State} (n : Nat) (h : s.gaf.resLow = true) : vaultDrain n s = s := by
  cases n with
  | zero => rfl
  | succ n => exact if_pos h

theorem vaultDrain_succ {s : State} {r : VaultReq} (n : Nat) (hroot : s.gaf.resLow = false) (hfirst : vaultFirst s = some r) :
    vaultDrain (n + 1) s = vaultDrain n (vaultServe r { s with vault := { s.vault with reqs := s.vault.reqs.erase r } }) := by
  simp [vaultDrain, hroot, hfirst]

/-- Settles O30: DELETE by its one guard, what the removal clears, and the request found first among those that wait. -/
theorem vaultDeleteAndRequestOrder : Obligations.VaultDeleteAndRequestOrder := by
  refine ⟨fun s i reqr => ⟨vltDelete_done, fun t => ⟨fun w hw => rd_ktDrop_ktAddr i t hw, ?gone, fun k hk => ?kept⟩,
    fun h => vltDelete_denied (.inr h)⟩, fun s req i ecc hwf ha => exec_of_run rfl rfl hwf ha, fun s r hfirst => ?order,
    fun s n => ⟨vaultDrain_of_resLow n, fun r hroot hfirst => vaultDrain_succ n hroot hfirst⟩⟩
  case gone => rw [ktDrop_keys, SMap.get?_del_same]
  case kept => rw [ktDrop_keys, SMap.get?_del_other _ _ _ hk]
  case order =>
    obtain ⟨before, after, hsplit, hknown, hbefore, hafter⟩ := vaultFirst_order hfirst
    exact ⟨before, after, hsplit, hknown, fun q hq _ => hbefore q hq, fun q hq _ => hafter q hq⟩

/-! ### Completion of the vault's commands -/

/-- Settles O48: a request waits for the vault; the tamper sources and the TAP are heard at every rung. -/
theorem vaultCommandsComplete : Obligations.VaultCommandsComplete := by
  refine ⟨?openRequest, ?tamper, ?rotateKem, ?vaultImport, ?delete, ?invalidate, ?generate, ?derive⟩
  case openRequest => exact fun s others value tap hwf => exec_of_alwaysOn rfl rfl rfl hwf
  case tamper => exact fun s sources hwf => exec_of_alwaysOn rfl rfl rfl hwf
  case rotateKem => exact fun s req hwf ha => exec_of_run rfl rfl hwf ha
  case vaultImport => exact fun s req blob ecc hwf ha => exec_of_run rfl rfl hwf ha
  case delete | invalidate | generate | derive => exact fun s req i ecc hwf ha => exec_of_run rfl rfl hwf ha

end Sys2Proof.Machine
end

section
/-! PROOFS of the statements of the cipher engine and the seals (R308 to R327): the parts of a protected MACsec frame and what the
SecTAG's fields read, the freshness value found from its low bits, and the completion of the engine's commands. -/

namespace Sys2Proof.Machine

/-! ### The SecTAG of a protected frame (R317) -/

theorem byteAt_eq_beAt_one (l : List Byte) (o : Nat) : byteAt l o = beAt l o 1 := by
  simp [beAt]

theorem beAt_lt (l : List Byte) (o n : Nat) : beAt l o n < 256 ^ n := by
  induction n with
  | zero => simp [beAt]
  | succ n ih =>
    have hbyte : byteAt l (o + n) < 256 := (l.getD (o + n) 0).isLt
    rw [beAt_succ, Nat.pow_succ]
    omega

/-- A frame with a SecTAG: addresses, EtherType 0x88E5, TCI with AN, short length, packet number and the rest. -/
def secFrame (addr : List Byte) (tci sl pn : Nat) (rest : List Byte) : List Byte :=
  addr ++ (beBytes 0x88E5 2 ++ (beBytes tci 1 ++ (beBytes sl 1 ++ (beBytes pn 4 ++ rest))))

section Tag

variable {addr : List Byte} {tci sl pn : Nat} (rest : List Byte)

theorem secFrame_fields (haddr : addr.length = 12) (htci : tci < 256) (hsl : sl < 256) (hpn : pn < 2 ^ 32) :
    let p := secFrame addr tci sl pn rest
    hasSecTag p = true ∧ byteAt p 14 = tci ∧ secSl p = sl ∧ beAt p 16 4 = pn := by
  intro p
  refine ⟨?type, ?tci, ?sl, ?pn⟩
  case type => exact beq_iff_eq.mpr (beAt_of_layout addr _ rfl haddr (by decide))
  case tci =>
    rw [byteAt_eq_beAt_one]
    exact beAt_of_layout (addr ++ beBytes 0x88E5 2) (beBytes sl 1 ++ (beBytes pn 4 ++ rest)) (by simp [p, secFrame])
      (by simp [haddr]) htci
  case sl =>
    rw [secSl, byteAt_eq_beAt_one]
    exact beAt_of_layout (addr ++ beBytes 0x88E5 2 ++ beBytes tci 1) (beBytes pn 4 ++ rest) (by simp [p, secFrame])
      (by simp [haddr]) hsl
  case pn =>
    exact beAt_of_layout (addr ++ beBytes 0x88E5 2 ++ beBytes tci 1 ++ beBytes sl 1) rest (by simp [p, secFrame])
      (by simp [haddr]) hpn

/-- The SCI follows the packet number. -/
theorem beAt_sci_secFrame (haddr : addr.length = 12) {sci : Nat} :
    beAt (secFrame addr tci sl pn (beBytes sci 8 ++ rest)) 20 8 = sci % 2 ^ 64 := by
  have hsplit : secFrame addr tci sl pn (beBytes sci 8 ++ rest) = secFrame addr tci sl pn [] ++ (beBytes sci 8 ++ rest) := by
    simp [secFrame]
  have hlen : (secFrame addr tci sl pn []).length = 20 := by simp [secFrame, haddr]
  rw [hsplit, ← hlen, beAt_beBytes]
  rfl

end Tag

/-- The TCI and AN byte of a sent frame: SC by INCLUDE_SCI, E and C by confidentiality. -/
def secTci (an : Nat) (conf incSci : Bool) : Nat := (if incSci then 32 else 0) + (if conf then 12 else 0) + an % 4

/-- The association number lies below the flags, of which each has its bit: sixteen bytes in all. -/
theorem secTci_bits (an : Nat) (conf incSci : Bool) :
    let t := secTci an conf incSci
    t < 256 ∧ t.testBit 7 = false ∧ t.testBit 6 = false ∧ t.testBit 5 = incSci ∧ t.testBit 4 = false ∧
    t.testBit 3 = conf ∧ t.testBit 2 = conf ∧ fld t 1 0 = an % 4 := by
  have han : an % 4 < 4 := Nat.mod_lt _ (by decide)
  unfold secTci
  generalize an % 4 = r at han
  revert r conf incSci
  decide

/-! ### The parts of a protected frame: header, user data, ICV, FCS (R317) -/

/-- The short length of a text: what it has below 48 bytes, else 0. -/
def secShort (text : List Byte) : Nat := if text.length < 48 then text.length else 0

theorem secShort_lt (text : List Byte) : secShort text < 48 := by
  unfold secShort
  split_ifs <;> omega

theorem secShort_le (text : List Byte) : secShort text ≤ text.length := by
  unfold secShort
  split_ifs <;> omega

/-- A frame of header, text, ICV and FCS, whose SecTAG tells where the header ends and the short length of the text. -/
structure SecParts (p head text : List Byte) (icv : Nat) : Prop where
  layout : ∃ fcs : List Byte, fcs.length = 4 ∧ p = head ++ (text ++ (beBytes icv 16 ++ fcs))
  off : secOff p = head.length
  short : secSl p = secShort text

section Parts

variable {p head text : List Byte} {icv : Nat} (h : SecParts p head text icv)

include h

theorem SecParts.length_eq : p.length = head.length + text.length + 20 := by
  obtain ⟨fcs, hfcs, hp⟩ := h.layout
  simp [hp, hfcs]
  omega

/-- The ICV follows the text, whether the short length says so or the frame's end does. -/
theorem SecParts.secEnd_eq : secEnd p = head.length + text.length := by
  have hlen := h.length_eq
  rw [secEnd, h.short, h.off, secShort]
  split_ifs <;> omega

theorem SecParts.take_secOff : p.take (secOff p) = head := by
  obtain ⟨fcs, -, hp⟩ := h.layout
  rw [h.off, hp, List.take_left]

theorem SecParts.take_secEnd : p.take (secEnd p) = head ++ text := by
  obtain ⟨fcs, -, hp⟩ := h.layout
  rw [h.secEnd_eq, hp, ← List.append_assoc, ← List.length_append, List.take_left]

theorem SecParts.secUser_eq : secUser p = text := by
  rw [secUser, h.take_secEnd, h.off, List.drop_left]

theorem SecParts.beAt_secEnd : beAt p (secEnd p) 16 = icv % 2 ^ 128 := by
  obtain ⟨fcs, -, hp⟩ := h.layout
  rw [h.secEnd_eq, hp, ← List.append_assoc, ← List.length_append, beAt_beBytes]
  rfl

end Parts

/-! ### Text and ICV with and without confidentiality -/

theorem length_gcmXor (key : Nat) (iv l : List Byte) : (gcmXor key iv l).length = l.length := by
  simp [gcmXor]

/-- The key stream taken twice cancels. -/
theorem gcmXor_gcmXor (key : Nat) (iv l : List Byte) : gcmXor key iv (gcmXor key iv l) = l := by
  refine List.ext_getElem (by simp only [length_gcmXor]) fun i hi hl => ?_
  simp [gcmXor, hl]

/-- User data as it is sent, and as it is had back: under confidentiality, exclusive-or with the key stream. -/
def secText (key : Nat) (iv : List Byte) (conf : Bool) (l : List Byte) : List Byte := if conf then gcmXor key iv l else l

theorem length_secText (key : Nat) (iv : List Byte) (conf : Bool) (l : List Byte) :
    (secText key iv conf l).length = l.length := by
  cases conf
  · rfl
  · exact length_gcmXor key iv l

theorem secText_secText (key : Nat) (iv : List Byte) (conf : Bool) (l : List Byte) :
    secText key iv conf (secText key iv conf l) = l := by
  cases conf
  · rfl
  · exact gcmXor_gcmXor key iv l

/-- The tag over a header and the text sent behind it. -/
def secIcv (key : Nat) (iv : List Byte) (conf : Bool) (head text : List Byte) : Nat :=
  if conf then Config.gcmTag key iv head text else Config.gcmTag key iv (head ++ text) []

/-- What a receiver takes from a frame: addresses and user data. -/
theorem secPlain_eq (key : Nat) (iv p : List Byte) :
    secPlain key iv p = withFcs (p.take 12 ++ secText key iv (secConf p) (secUser p)) := rfl

theorem SecParts.secIcvOk_eq {p head text iv : List Byte} {icv key : Nat} (h : SecParts p head text icv)
    (hicv : icv = secIcv key iv (secConf p) head text) : secIcvOk key iv p = true := by
  rw [secIcvOk, h.take_secOff, h.take_secEnd, h.secUser_eq, h.beAt_secEnd, hicv]
  exact beq_self_eq_true _

/-! ### What MACSEC_OUT makes of a frame (R317, R320) -/

/-- User data of a frame: what follows the addresses, without the FCS. -/
def userData (b : List Byte) : List Byte := (dropFcs b).drop 12

section Protect

variable (key sci an pn : Nat) (iv b : List Byte) (conf incSci : Bool)

/-- Header of the protected frame: addresses and SecTAG. -/
def secHead : List Byte := b.take 12 ++ secTag sci an pn (userData b).length conf incSci

/-- Text of the protected frame: its user data as it is sent. -/
def sentText : List Byte := secText key iv conf (userData b)

/-- ICV of the protected frame. -/
def sentIcv : Nat := secIcv key iv conf (secHead sci an pn b conf incSci) (sentText key iv b conf)

theorem secShort_sentText : secShort (sentText key iv b conf) = secShort (userData b) := by
  rw [secShort, sentText, length_secText, secShort]

theorem secProtect_eq : secProtect key iv sci an pn conf incSci b =
    withFcs (secHead sci an pn b conf incSci ++ sentText key iv b conf ++
      beBytes (sentIcv key sci an pn iv b conf incSci) 16) := by
  cases conf <;> rfl

/-- The protected frame's header, with whatever follows it, is a frame with a SecTAG. -/
theorem secHead_append (rest : List Byte) : secHead sci an pn b conf incSci ++ rest =
    secFrame (b.take 12) (secTci an conf incSci) (secShort (userData b)) (pn % 2 ^ 32)
      ((if incSci then beBytes sci 8 else []) ++ rest) := by
  simp [secHead, secTag, secFrame, secTci, secShort]

variable {b} (hb : 16 ≤ b.length)

include hb

theorem length_addresses : (b.take 12).length = 12 := List.length_take_of_le (by omega)

theorem addresses_append_userData : b.take 12 ++ userData b = dropFcs b := by
  have htake : b.take 12 = (dropFcs b).take 12 := by
    rw [dropFcs, List.take_take, Nat.min_eq_left (by omega)]
  rw [htake, userData, List.take_append_drop]

theorem length_secHead : (secHead sci an pn b conf incSci).length = if incSci then 28 else 20 := by
  cases incSci <;> simp [secHead, secTag, length_addresses hb]

/-- What a header's SecTAG reads, whatever follows it. -/
theorem secHead_fields (rest : List Byte) :
    let p := secHead sci an pn b conf incSci ++ rest
    hasSecTag p = true ∧ byteAt p 14 = secTci an conf incSci ∧ secSl p = secShort (userData b) ∧
    beAt p 16 4 = pn % 2 ^ 32 ∧ (incSci = true → beAt p 20 8 = sci % 2 ^ 64) ∧ p.take 12 = b.take 12 := by
  intro p
  have hp : p = _ := secHead_append sci an pn b conf incSci rest
  have haddr := length_addresses hb
  obtain ⟨htci, -⟩ := secTci_bits an conf incSci
  obtain ⟨htag, htciAt, hsl, hpn⟩ := secFrame_fields ((if incSci then beBytes sci 8 else []) ++ rest) haddr htci
    ((secShort_lt (userData b)).trans (by decide)) (Nat.mod_lt pn (by decide))
  rw [← hp] at htag htciAt hsl hpn
  refine ⟨htag, htciAt, hsl, hpn, fun hsci => ?sci, ?addr⟩
  case sci => rw [hp, if_pos hsci, beAt_sci_secFrame rest haddr]
  case addr => rw [hp, secFrame, List.take_left' haddr]

/-- The protected frame is header, text and ICV with an FCS behind, and its SecTAG says so. -/
theorem secProtect_parts : SecParts (secProtect key iv sci an pn conf incSci b) (secHead sci an pn b conf incSci)
    (sentText key iv b conf) (sentIcv key sci an pn iv b conf incSci) := by
  obtain ⟨fcs, hfcs, hp⟩ : ∃ fcs : List Byte, fcs.length = 4 ∧ secProtect key iv sci an pn conf incSci b =
      secHead sci an pn b conf incSci ++ (sentText key iv b conf ++
        (beBytes (sentIcv key sci an pn iv b conf incSci) 16 ++ fcs)) :=
    ⟨_, length_leBytes _ 4, by rw [secProtect_eq, withFcs, List.append_assoc, List.append_assoc]⟩
  obtain ⟨-, htci, hsl, -⟩ := secHead_fields sci an pn conf incSci hb _
  obtain ⟨-, -, -, hsc, -⟩ := secTci_bits an conf incSci
  rw [← hp] at htci hsl
  refine ⟨⟨fcs, hfcs, hp⟩, ?off, ?short⟩
  case off => rw [secOff, htci, hsc, length_secHead sci an pn conf incSci hb]
  case short => rw [hsl, secShort_sentText]

end Protect

/-! ### A frame that was protected validates, verifies and reads back (R317, R319) -/

/-- A SecTAG validates where none of its bits forbids it and the frame holds header, user data, ICV and FCS. -/
theorem SecParts.secTagOk_eq {p head text : List Byte} {icv an : Nat} {conf incSci : Bool} (h : SecParts p head text icv)
    (htci : byteAt p 14 = secTci an conf incSci) : secTagOk p = true := by
  obtain ⟨-, hv, hes, -, hscb, he, hc, -⟩ := secTci_bits an conf incSci
  have hshort : secSl p < 48 := h.short ▸ secShort_lt text
  have hfit : secOff p + secSl p + 20 ≤ p.length := by
    have hle := secShort_le text
    rw [h.off, h.short, h.length_eq]
    omega
  simp [secTagOk, htci, hv, hes, hscb, he, hc, hshort, hfit]

/-- A tag's number goes on with the high bits of the lowest acceptable one, or one above them where that one is in the upper
half of its low range and the tag's in the lower. -/
theorem secPn_xpn (b : List Byte) (low : Nat) :
    secPn b true low % 2 ^ 32 = beAt b 16 4 % 2 ^ 32 ∧ low < secPn b true low + 2 ^ 31 ∧ secPn b true low < low + 2 ^ 32 := by
  have hpn : beAt b 16 4 < 256 ^ 4 := beAt_lt ..
  simp only [secPn, Bool.not_true, Bool.false_eq_true, if_false]
  split_ifs <;> omega

/-- Settles O31: the protected frame's parts and its TCI byte give what a receiver reads, and the key stream cancels. -/
theorem macsecRoundTrip : Obligations.MacsecRoundTrip := by
  refine ⟨fun key sci an pn iv b conf incSci hb => ?_, fun b low => ⟨rfl, secPn_xpn b low⟩⟩
  intro p
  have hparts : SecParts p _ _ _ := secProtect_parts key sci an pn iv conf incSci hb
  obtain ⟨fcs, -, hp⟩ := hparts.layout
  obtain ⟨htag, htci, -, hpn, hsci, haddr⟩ := secHead_fields sci an pn conf incSci hb _
  rw [← hp] at htag htci hpn hsci haddr
  obtain ⟨-, -, -, hsc, -, he, hc, han⟩ := secTci_bits an conf incSci
  have hconf : secConf p = conf := by rw [secConf, htci, he, hc, Bool.and_self]
  refine ⟨htag, hparts.secTagOk_eq htci, hconf, by rw [htci, hsc], by rw [htci, han], hpn, hsci, haddr, ?icv, ?plain⟩
  case icv => exact hparts.secIcvOk_eq (by rw [hconf]; rfl)
  case plain =>
    rw [secPlain_eq, haddr, hparts.secUser_eq, hconf, sentText, secText_secText, addresses_append_userData hb]

/-! ### Freshness reconstruction (R324) -/

/-- The value whose high bits are the last one's and whose f low bits were received, one period on where that is not new. -/
theorem fvCand_eq {last f rx : Nat} (hrx : rx < 2 ^ f) : fvCand last f rx =
    if last / 2 ^ f * 2 ^ f + rx ≤ last then last / 2 ^ f * 2 ^ f + rx + 2 ^ f else last / 2 ^ f * 2 ^ f + rx := by
  obtain rfl | hf := Nat.eq_zero_or_pos f
  · obtain rfl : rx = 0 := by omega
    simp [fvCand]
  · exact if_neg hf.ne'

/-- Settles O32: a later value's high bits are not below the last one's, and lie above them where the received low bits
under the last one's high bits give no later value. -/
theorem freshnessReconstruction : Obligations.FreshnessReconstruction := by
  intro last f rx hrx
  have hlast := Nat.div_add_mod' last (2 ^ f)
  have hlow := Nat.mod_lt last (Nat.two_pow_pos f)
  rw [fvCand_eq hrx]
  refine ⟨?new, ?low, fun y hnew hy => ?least⟩
  case new => split_ifs <;> omega
  case low => split_ifs <;> simp [Nat.mod_eq_of_lt hrx]
  case least =>
    have hsplit : y / 2 ^ f * 2 ^ f + rx = y := hy ▸ Nat.div_add_mod' y (2 ^ f)
    split_ifs with hold
    · have hhigh : last / 2 ^ f + 1 ≤ y / 2 ^ f := Nat.lt_of_mul_lt_mul_right (a := 2 ^ f) (by omega)
      have hmul := Nat.mul_le_mul_right (2 ^ f) hhigh
      rw [Nat.succ_mul] at hmul
      omega
    · have hmul := Nat.mul_le_mul_right (2 ^ f) (Nat.div_le_div_right (c := 2 ^ f) hnew.le)
      omega

/-! ### Completion of the cipher engine's commands -/

/-- Settles O47: a domain, a job or an announce's parts that the hypotheses name are the ones the command finds. -/
theorem cipherCommandsComplete : Obligations.CipherCommandsComplete := by
  refine ⟨?partTimeout, ?announceRx, ?requestRx, ?announceTx, ?saInstall, ?complete, ?place⟩
  case partTimeout =>
    intro s n d x hwf ha hparts hold
    exact exec_of_run rfl (by rw [hparts]; exact if_pos hold) hwf ha
  case announceRx =>
    intro s n frame d hwf ha hdom hannounce
    exact exec_of_run rfl (by rw [hdom]; exact if_neg hannounce) hwf ha
  case requestRx =>
    intro s n frame d hwf ha hdom
    exact exec_of_run rfl (by rw [hdom]) hwf ha
  case announceTx => exact fun s d slot hwf ha => exec_of_run rfl rfl hwf ha
  case saInstall =>
    exact fun s p sc slot an key inUse current sci ssci salt hwf ha hmka => exec_of_run rfl (if_neg hmka) hwf ha
  case complete =>
    intro s lane coresAgree ecc slot onward j hwf ha hjob
    exact exec_of_run rfl (by rw [hjob]) hwf ha
  case place => exact fun s inverseOk ecc hwf ha => exec_of_run rfl rfl hwf ha

end Sys2Proof.Machine
end

section
/-! PROOFS of the statements about a whole step (R354, R463, R469): what is settled shows port 18's conditions, whatever the
command, and leaves every other register bit alone. -/

namespace Sys2Proof.Machine

/-! ### What `settle` leaves: port 18's three fields, and nothing else -/

theorem hpShow_agrees (s : State) : (hpShow s).hpAgrees := by
  unfold State.hpAgrees
  rw [hpWant_hpShow]
  unfold hpShow
  extract_lets u
  have hu : u = (hpWant s).toNat := by unfold u; cases hpWant s <;> rfl
  clear_value u
  subst hu
  refine ⟨?up, ?link, ?rate⟩
  case up =>
    rw [rdb_wrf_other _ _ _ _ _ _ _ (by decide), rdb_wrf_other _ _ _ _ _ _ _ (by decide), rdb_wrf_bit _ _ _ _ (by decide)]
    cases hpWant s <;> rfl
  case link =>
    rw [rdf_wrf_other _ _ _ _ _ _ _ _ (by decide), rdf_wrf_same _ _ _ _ _ (by decide) (by decide)]
    cases hpWant s <;> rfl
  case rate =>
    rw [rdf_wrf_same _ _ _ _ _ (by decide) (by decide)]
    cases hpWant s <;> rfl

/-- What is settled meets port 18's half of the invariant, whatever came before. -/
theorem settle_agrees (s t : State) : (settle s t).hpAgrees := hpShow_agrees _

/-- A bit of port 18's registers outside the three fields. -/
theorem rdb_hpShow_status {i : Nat} (h : i ≠ 1) (s : State) : rdb (hpShow s) R.HDMA_STATUS i = rdb s R.HDMA_STATUS i := by
  unfold hpShow
  rw [rdb_wrf_other _ _ _ _ _ _ _ (by decide), rdb_wrf_other _ _ _ _ _ _ _ (by decide),
    rdb_wrf_outside _ _ _ _ _ _ (by decide) (by decide) (by omega)]

theorem rdb_hpShow_link {i : Nat} (h : i < 28) (s : State) :
    rdb (hpShow s) R.PORT18_HP_STATE i = rdb s R.PORT18_HP_STATE i := by
  unfold hpShow
  rw [rdb_wrf_other _ _ _ _ _ _ _ (by decide), rdb_wrf_outside _ _ _ _ _ _ (by decide) (by decide) (.inl h),
    rdb_wrf_other _ _ _ _ _ _ _ (by decide)]

theorem rdb_hpShow_rate {i : Nat} (h : i < 8 ∨ 11 < i) (s : State) :
    rdb (hpShow s) (R.SCH_PORT_STATE 18) i = rdb s (R.SCH_PORT_STATE 18) i := by
  unfold hpShow
  rw [rdb_wrf_outside _ _ _ _ _ _ (by decide) (by decide) h, rdb_wrf_other _ _ _ _ _ _ _ (by decide),
    rdb_wrf_other _ _ _ _ _ _ _ (by decide)]

/-- Settles O8: `settle` puts the queue back and writes three fields. -/
theorem settleTouchesPort18Alone : Obligations.SettleTouchesPort18Alone := by
  intro s t
  obtain ⟨m, hm⟩ := settle_regs s t
  refine ⟨?_, fun a hd hp hs => rd_settle ⟨hd, hp, hs⟩ s t, fun i hi => rdb_hpShow_status hi _,
    fun i hi => rdb_hpShow_link hi _, fun i hi => rdb_hpShow_rate hi _⟩
  rw [hm]

/-! ### Every command completes, and every step keeps the invariant -/

/-- What `exec` answers is settled. -/
theorem settled_of_exec {c : Instr} {s t : State} (h : exec c s = .next t) : ∃ u, t = settle s u := by
  obtain ⟨u, hrun⟩ := exec_eq_run c s
  rcases run_next s c u t (hrun ▸ h) with rfl | ⟨_, rfl⟩
  · exact ⟨u, rfl⟩
  · exact ⟨s, rfl⟩

/-- Settles O4: every arm is a `run`, which answers the effect of a command that acts, settled, and else the state, settled. -/
theorem everyCommandCompletes : Obligations.EveryCommandCompletes := by
  intro s c hwf
  obtain ⟨u, hrun⟩ := exec_eq_run c s
  rw [hrun]
  refine ⟨?_, run_idle s c u hwf⟩
  cases ha : acts s c with
  | true => exact ⟨_, run_wf s c u hwf ha, settle_pending s u, settle_agrees s u⟩
  | false => exact ⟨_, run_idle s c u hwf ha, settle_pending s s, settle_agrees s s⟩

theorem queueWf_rest {s : State} {c : Instr} {rest : List Instr} (hpending : s.pending = c :: rest) (h : s.queueWf = true) :
    ({ s with pending := rest } : State).queueWf = true := by
  rw [State.queueWf, hpending, List.all_cons, Bool.and_eq_true] at h
  exact h.2

/-- What is settled keeps the invariant of a state whose queue it takes over. -/
theorem settle_inv {s : State} (h : s.queueWf = true) (t : State) : (settle s t).Inv := by
  refine ⟨?_, settle_agrees s t⟩
  rw [State.queueWf, settle_pending]
  exact h

/-- Settles O5: a tick and a command both end settled, on the queue as it is or on its rest. -/
theorem everyStepKeepsTheInvariant : Obligations.EveryStepKeepsTheInvariant := by
  intro s t hinv hstep
  obtain ⟨hqueue, -⟩ := hinv
  cases hpending : s.pending with
  | nil =>
    obtain ⟨u, hu⟩ := idleTick_settled s
    have htick : step s = .next (idleTick s) := by simp only [step, hpending]
    obtain rfl : idleTick s = t := by simpa [htick] using hstep
    exact hu ▸ settle_inv hqueue u
  | cons c rest =>
    rw [frontCommandRuns s c rest hpending] at hstep
    obtain ⟨u, rfl⟩ := settled_of_exec hstep
    exact settle_inv (queueWf_rest hpending hqueue) u

end Sys2Proof.Machine
end

section
/-! PROOFS of the statements of the host interface (R466, R473): what a raise may write and that it leaves every event FIFO
alone, the order and the layout of a tick's items, the bound of the FIFOs, and what a completion leaves. -/

namespace Sys2Proof.Machine

/-! ### Registers that a raise writes, and the event FIFOs, which it leaves alone -/

/-- Every register of event status that a source has a bit in. -/
def evtStatusRegs : List Nat :=
  [R.CPL_EVT_STATUS, R.LKU_EVT_STATUS, R.SCH_EVT_STATUS, R.COL_EVT_STATUS, R.SGE_EVT_STATUS, R.TIM_EVT_STATUS, R.CIP_EVT_STATUS,
    R.VLT_EVT_STATUS, R.GAF_NM_EVT_STATUS, R.GAF_EVT_STATUS, R.RXU_EVT_STATUS, R.REC_EVT_STATUS, R.UPD_EVT_STATUS,
    R.UPD_SHEET_EVT_STATUS, R.HDMA_EVT_STATUS]

theorem mem_evtStatusRegs_of_evtReg (src : Nat) : ∀ x ∈ evtReg src, x.1 ∈ evtStatusRegs := by
  unfold evtReg
  repeat' refine forall_mem_ite ?_ ?_
  all_goals rintro _ ⟨⟩ <;> (dsimp only; decide)

/-- A raise may write the register at `a`: the gaffer's and what the router pends for the host, the recorder's, the host
interface's, and event status. -/
abbrev MayRaise (a : Nat) : Prop :=
  a < 0x201040 ∨ (0xA000000 ≤ a ∧ a < 0xB000000) ∨ 0xD000000 ≤ a ∨ a ∈ evtStatusRegs

/-- `t` has the event FIFOs of `s`, and every register that no raise may write. -/
structure RaiseKept (s t : State) : Prop where
  fifos : t.router.fifos = s.router.fifos
  regs : ∀ a, ¬ MayRaise a → rd t a = rd s a

namespace RaiseKept

variable {s t u : State}

theorem refl (s : State) : RaiseKept s s := ⟨rfl, fun _ _ => rfl⟩

theorem trans (h : RaiseKept s t) (k : RaiseKept t u) : RaiseKept s u :=
  ⟨k.fifos.trans h.fifos, fun a ha => (k.regs a ha).trans (h.regs a ha)⟩

theorem of_regs_eq (hfifos : t.router.fifos = s.router.fifos) (hregs : t.regs = s.regs) : RaiseKept s t :=
  ⟨hfifos, fun _ _ => rd_of_regs_eq _ _ _ hregs⟩

theorem ite {p : Prop} [Decidable p] (h : RaiseKept s t) (k : RaiseKept s u) : RaiseKept s (if p then t else u) := by
  split
  · exact h
  · exact k

theorem forEach {α : Type} {f : α → State → State} (l : List α) (hf : ∀ x ∈ l, ∀ s, RaiseKept s (f x s))
    (s : State) : RaiseKept s (forEach l f s) := by
  induction l generalizing s with
  | nil => exact refl s
  | cons x l ih =>
    exact (hf x List.mem_cons_self s).trans (ih (fun y hy => hf y (List.mem_cons_of_mem _ hy)) (f x s))

theorem wr (s : State) (a v : Nat) (ha : MayRaise a := by decide) : RaiseKept s (wr s a v) :=
  ⟨congrArg Router.fifos (wr_router s a v), fun _ hb => rd_wr_other _ _ _ _ fun e => hb (e ▸ ha)⟩

theorem wrf (s : State) (a hi lo v : Nat) (ha : MayRaise a := by decide) : RaiseKept s (wrf s a hi lo v) := wr s a _ ha

theorem wrq (s : State) (a v : Nat) (ha : MayRaise a := by decide) (ha4 : MayRaise (a + 4) := by decide) :
    RaiseKept s (wrq s a v) :=
  (wr s a _ ha).trans (wr _ (a + 4) _ ha4)

theorem inc (s : State) (a : Nat) (ha : MayRaise a := by decide) (ha4 : MayRaise (a + 4) := by decide) :
    RaiseKept s (inc s a) :=
  wrq s a _ ha ha4

theorem router (s : State) (x : Router) (hx : x.fifos = s.router.fifos := by rfl) : RaiseKept s { s with router := x } :=
  of_regs_eq hx rfl

theorem recd (s : State) (x : Recorder) : RaiseKept s { s with recd := x } := of_regs_eq rfl rfl

theorem gaf (s : State) (x : Gaffer) : RaiseKept s { s with gaf := x } := of_regs_eq rfl rfl

theorem emit (o : Out) (s : State) : RaiseKept s (emit o s) := of_regs_eq (by rw [emit_router]) (emit_regs o s)

theorem setBits (a m : Nat) (s : State) (ha : MayRaise a) : RaiseKept s (setBits a m s) :=
  (wr s a _ ha).trans (router _ _)

theorem msix (v : Nat) (s : State) : RaiseKept s (msix v s) := by
  unfold Machine.msix
  exact .ite (router s _) ((inc s _).trans (emit _ _))

theorem eventSignal (v : Nat) (s : State) : RaiseKept s (eventSignal v s) := by
  unfold Machine.eventSignal
  extract_lets hold
  have hsent (x : VecState) :
      RaiseKept s (Machine.msix v { s with router := { s.router with vecs := s.router.vecs.put v x } }) :=
    (router s _).trans (msix v _)
  split
  · exact .ite (router s _) (hsent _)
  · exact hsent _

theorem recBuffer (c n : Nat) (s : State) : RaiseKept s (recBuffer c n s).2 := by
  unfold Machine.recBuffer
  extract_lets s1 w
  have h1 : RaiseKept s s1 := recd s _
  clear_value s1
  split
  · exact h1
  · split
    · exact h1
    · exact h1.trans (recd _ _)

theorem noteLoss (r reason bytes : Nat) (s : State) : RaiseKept s (noteLoss r reason bytes s) := recd s _

/-- Ring 1 is the ring of log and trigger records. -/
theorem recAppend (x : Rec) (kept : List Rec) (s : State) : RaiseKept s (recAppend 1 x kept s) := by
  unfold Machine.recAppend
  exact ((recd s _).trans (wrf _ _ _ _ _)).trans (wr _ _ _)

theorem recKeep (kept : List Rec) (s : State) : RaiseKept s (recKeep 1 kept s) := by
  unfold Machine.recKeep
  exact (recd s _).trans (wr _ _ _)

theorem recPush (x : Rec) (s : State) : RaiseKept s (recPush 1 x s).2 := by
  unfold Machine.recPush
  extract_lets gap q s1 old room keep kept s2
  have h1 : RaiseKept s s1 := recBuffer _ _ s
  clear_value s1
  have h2 : RaiseKept s s2 := h1.trans (recKeep _ _)
  clear_value s2
  split
  · split
    · exact h1.trans (recAppend _ _ _)
    · exact h1
  · split
    · exact h1.trans (noteLoss _ _ _ _)
    · split
      · exact h2.trans (noteLoss _ _ _ _)
      · exact h2.trans (recAppend _ _ _)

theorem logStore (x : Rec) (s : State) : RaiseKept s (logStore x s) := by
  unfold Machine.logStore
  have hcnt : MayRaise (if (recStore 1 x s).1 then R.REC_CNT 2 else R.REC_CNT 3) ∧
      MayRaise ((if (recStore 1 x s).1 then R.REC_CNT 2 else R.REC_CNT 3) + 4) := by
    split <;> decide
  exact (recPush _ s).trans (inc _ _ hcnt.1 hcnt.2)

theorem triggerStore (kind src : Nat) (s : State) : RaiseKept s (triggerStore kind src s) := by
  unfold Machine.triggerStore
  exact .ite (recPush _ s) ((recPush _ s).trans (inc _ _))

theorem openWindow (kind src : Nat) (s : State) : RaiseKept s (openWindow kind src s) := by
  unfold Machine.openWindow
  split
  · extract_lets pre post c s1 s2 s3 s4
    have h2 : RaiseKept s s2 := (recd s _).trans (wrq _ _ _)
    clear_value s2
    have h3 : RaiseKept s s3 := h2.trans (wr _ _ _)
    clear_value s3
    have hring : ∀ r ∈ [0, 1, 2, 3], MayRaise (R.REC_RING_STATE r) := by decide
    have h4 : RaiseKept s s4 := h3.trans (forEach _ (fun r hr _ => wrf _ _ _ _ _ (hring r hr)) _)
    clear_value s4
    exact (h4.trans (wrf _ _ _ _ _)).trans (inc _ _)
  · exact (recd s _).trans (inc _ _)

theorem leaveHold (s : State) : RaiseKept s (leaveHold s) := by
  unfold Machine.leaveHold
  extract_lets s1 s2
  have h1 : RaiseKept s s1 := (wrf s _ _ _ _).trans (wrf _ _ _ _ _)
  clear_value s1
  have h2 : RaiseKept s s2 := .ite (h1.trans (wrf _ _ _ _ _)) h1
  clear_value s2
  exact h2.trans (gaf _ _)

theorem route {src : Nat} (hsrc : src < 512) (s : State) : RaiseKept s (route src s) := by
  unfold Machine.route
  extract_lets hr fw host mask s1 s2 s3
  have hpend : MayRaise (R.EVT_HOST_PEND (src / 32)) := .inl (by simp only [R.EVT_HOST_PEND]; omega)
  have h1 : RaiseKept s s1 := .ite ((setBits _ _ s hpend).trans (eventSignal _ _)) (refl s)
  clear_value s1
  have h2 : RaiseKept s s2 := h1.trans (forEach _ (fun _ _ _ => emit _ _) _)
  clear_value s2
  have h3 : RaiseKept s s3 := .ite (h2.trans (emit _ _)) h2
  clear_value s3
  exact .ite h3 (h3.trans (router _ _))

theorem raiseN (n : Nat) {src : Nat} (hsrc : src < 512) (s : State) : RaiseKept s (raiseN n src s) := by
  induction n generalizing src s with
  | zero => exact refl s
  | succ n ih =>
    unfold Machine.raiseN
    extract_lets was s1 s2 t s3 w s4
    have h1 : RaiseKept s s1 := by
      unfold s1
      split
      · next b i he => exact setBits _ _ _ (.inr (.inr (.inr (mem_evtStatusRegs_of_evtReg src _ he))))
      · exact refl s
    clear_value s1 was
    have h2 : RaiseKept s s2 := h1.trans (route hsrc s1)
    clear_value s2
    have ht : RaiseKept s t := h2.trans ((leaveHold s2).trans (ih (by decide) _))
    clear_value t
    have h3 : RaiseKept s s3 := .ite (.ite (ht.trans (ih (by decide) _)) ht) h2
    clear_value s3
    have h4 : RaiseKept s s4 := .ite (h3.trans (logStore _ _)) h3
    clear_value s4
    exact .ite h1 (.ite h3 (.ite (h4.trans (((triggerStore _ _ _).trans (openWindow _ _ _)).trans (ih (by decide) _))) h4))

theorem raise {src : Nat} (hsrc : src < 512) (s : State) : RaiseKept s (raise src s) := raiseN 6 hsrc s

end RaiseKept

/-! ### The items of a tick (R473) -/

/-- Items in order of tick and, within one, of source. -/
def TickLe (a b : TickItem) : Prop := a.tick < b.tick ∨ (a.tick = b.tick ∧ a.src ≤ b.src)

theorem perm_tickInsert (x : TickItem) (l : List TickItem) : (tickInsert x l).Perm (x :: l) := by
  induction l with
  | nil => exact .refl _
  | cons y t ih =>
    unfold tickInsert
    split
    · exact .refl _
    · exact (ih.cons y).trans (.swap x y t)

theorem pairwise_tickInsert (x : TickItem) {l : List TickItem} (h : l.Pairwise TickLe) : (tickInsert x l).Pairwise TickLe := by
  induction l with
  | nil => exact List.pairwise_singleton _ x
  | cons y t ih =>
    obtain ⟨hy, ht⟩ := List.pairwise_cons.mp h
    unfold tickInsert
    split
    · next hlt =>
      refine List.pairwise_cons.mpr ⟨fun z hz => ?_, h⟩
      obtain rfl | hz := List.mem_cons.mp hz
      · unfold TickLe; omega
      · have hyz := hy z hz
        unfold TickLe at hyz ⊢; omega
    · next hge =>
      refine List.pairwise_cons.mpr ⟨fun z hz => ?_, ih ht⟩
      obtain rfl | hz := List.mem_cons.mp ((perm_tickInsert x t).mem_iff.mp hz)
      · unfold TickLe; omega
      · exact hy z hz

theorem perm_tickSort (l : List TickItem) : (tickSort l).Perm l := by
  induction l with
  | nil => exact .refl _
  | cons x t ih => exact (perm_tickInsert x _).trans (ih.cons x)

theorem pairwise_tickSort (l : List TickItem) : (tickSort l).Pairwise TickLe := by
  induction l with
  | nil => exact .nil
  | cons x t ih => exact pairwise_tickInsert x ih

theorem evtItem_layout {x : TickItem} (h : x.src < 512) :
    evtItem x < 2 ^ 31 ∧ fld (evtItem x) 30 9 = x.tick % 2 ^ 22 ∧ fld (evtItem x) 8 0 = x.src := by
  simp only [fld, evtItem, Nat.shiftRight_eq_div_pow]
  omega

/-! ### Event FIFOs (R473) -/

theorem SMap.getD_put {α : Type} (m : SMap α) (k j : Nat) (v d : α) :
    (m.put k v).getD j d = if j = k then v else m.getD j d := by
  unfold SMap.getD
  split
  · next h => rw [h, SMap.get?_put_same, Option.getD_some]
  · next h => rw [SMap.get?_put_other _ _ _ _ h]

theorem SMap.getD_set {α : Type} [DecidableEq α] (m : SMap α) (k j : Nat) (v d : α) :
    (m.set k v d).getD j d = if j = k then v else m.getD j d := by
  unfold SMap.getD
  split
  · next h =>
    rw [h, SMap.get?_set_same]
    split
    · next hv => exact hv.symm
    · rfl
  · next h => rw [SMap.get?_set_other _ _ _ _ _ h]

theorem fifoPush_of_full {s : State} {t : Nat} (h : 256 ≤ (s.router.fifos.getD t []).length) (x : TickItem) :
    fifoPush t x s = (true,
      inc (wrf s (R.EVT_FIFO_LEVEL t) 31 16 (min 0xFFFF (rdf s (R.EVT_FIFO_LEVEL t) 31 16 + 1))) (R.HDMA_CNT 4)) :=
  if_pos h

theorem fifoPush_of_room {s : State} {t : Nat} (h : (s.router.fifos.getD t []).length < 256) (x : TickItem) :
    fifoPush t x s = (false, fifoLevel t
      { s with router := { s.router with fifos := s.router.fifos.put t (s.router.fifos.getD t [] ++ [evtItem x]) } }) :=
  if_neg (Nat.not_le.mpr h)

theorem fifoLevel_router (t : Nat) (s : State) : (fifoLevel t s).router = s.router := wrf_router _ _ _ _ _

/-- Every event FIFO holds at most 256 items. -/
def FifosFit (s : State) : Prop := ∀ t, (s.router.fifos.getD t []).length ≤ 256

theorem FifosFit.of_eq {s t : State} (h : FifosFit s) (heq : t.router.fifos = s.router.fifos) : FifosFit t := by
  unfold FifosFit
  rwa [heq]

theorem FifosFit.fifoPush {s : State} (h : FifosFit s) (t : Nat) (x : TickItem) : FifosFit (fifoPush t x s).2 := by
  rcases Nat.lt_or_ge (s.router.fifos.getD t []).length 256 with hroom | hfull
  · rw [fifoPush_of_room hroom]
    intro j
    rw [fifoLevel_router, SMap.getD_put]
    split
    · simpa using hroom
    · exact h j
  · rw [fifoPush_of_full hfull]
    exact h.of_eq (by simp)

theorem FifosFit.fifoPop {s : State} (h : FifosFit s) (t : Nat) : FifosFit (fifoPop t s).2 := by
  unfold Machine.fifoPop
  split
  · exact h
  · next x l heq =>
    intro j
    rw [fifoLevel_router, SMap.getD_set]
    split
    · have ht := h t
      rw [heq] at ht
      exact Nat.le_of_succ_le ht
    · exact h j

theorem FifosFit.fifoServe {s : State} (h : FifosFit s) (t n : Nat) : FifosFit (fifoServe t n s) := by
  induction n generalizing s with
  | zero => exact h
  | succ n ih =>
    unfold Machine.fifoServe
    split
    · exact h
    · extract_lets r
      have hr : FifosFit r.2 := h.fifoPop t
      split
      · exact ih (hr.of_eq rfl)
      · exact h

/-- What each run of the body keeps, the loop keeps. -/
theorem forEach_keeps {α : Type} {P : State → Prop} {f : α → State → State} (hf : ∀ x s, P s → P (f x s))
    (l : List α) {s : State} (h : P s) : P (forEach l f s) := by
  induction l generalizing s with
  | nil => exact h
  | cons x l ih => exact ih (hf x s h)

theorem FifosFit.tickPush {s : State} (h : FifosFit s) : FifosFit (tickPush s) := by
  unfold Machine.tickPush
  extract_lets ended items _ s1 s2
  have h1 : FifosFit s1 := h.of_eq rfl
  have h2 : FifosFit s2 := by
    refine forEach_keeps (fun x s hs => forEach_keeps (fun t s hs => ?_) _ hs) _ h1
    have hpush : FifosFit (Machine.fifoPush t x s).2 := hs.fifoPush t x
    dsimp only
    split
    · exact hpush.of_eq (RaiseKept.raise (by decide) _).fifos
    · exact hpush
  exact forEach_keeps (fun t s hs => hs.fifoServe t _) _ h2

/-- Settles O33: insertion sorts the items, a full FIFO counts the drop, and every push and pop of a tick keeps the bound. -/
theorem eventFifos : Obligations.EventFifos := by
  refine ⟨fun l => ⟨pairwise_tickSort l, perm_tickSort l⟩, fun x => evtItem_layout,
    fun s t x ht => ⟨fun hfull => ?_, fun hroom => ?_⟩, fun s h => FifosFit.tickPush h⟩
  · rw [fifoPush_of_full hfull]
    refine ⟨rfl, by simp, ?_⟩
    have hlevel : R.EVT_FIFO_LEVEL t < R.HDMA_CNT 4 := by simp only [R.EVT_FIFO_LEVEL, R.HDMA_CNT]; omega
    rw [cnt_inc, cnt_wrf_other (by omega) (by omega)]
  · rw [fifoPush_of_room hroom]
    refine ⟨rfl, ?_, fun j hj => ?_⟩
    · rw [fifoLevel_router, SMap.getD_put, if_pos rfl]
    · rw [fifoLevel_router]
      exact SMap.get?_put_other _ _ _ _ hj

/-! ### Completions (R466) -/

/-- Word 0 of a completion (R466). -/
def completionWord (phase tc src status kind : Nat) (coarse : Bool) : Nat :=
  phase * 2 ^ 31 + (if coarse then 2 ^ 30 else 0) + tc * 2 ^ 27 + src * 2 ^ 21 + status * 256 + kind

theorem completionWord_layout {phase tc src status kind : Nat} (hphase : phase < 2) (htc : tc < 8) (hsrc : src < 64)
    (hstatus : status < 256) (hkind : kind < 256) (coarse : Bool) :
    let w := completionWord phase tc src status kind coarse
    fld w 7 0 = kind ∧ fld w 15 8 = status ∧ fld w 20 16 = 0 ∧ fld w 26 21 = src ∧ fld w 29 27 = tc ∧
      fld w 30 30 = coarse.toNat ∧ fld w 31 31 = phase := by
  simp only [fld, completionWord, Nat.shiftRight_eq_div_pow]
  cases coarse <;> simp only [Bool.toNat_true, Bool.toNat_false, if_true, Bool.false_eq_true, if_false] <;> omega

/-- A bit is the field of that one bit. -/
theorem testBit_eq_fld (n i : Nat) : n.testBit i = decide (fld n i i = 1) := by
  simp [fld, Nat.testBit, Nat.one_and_eq_mod_two]

theorem msix_masked {s : State} {v : Nat} (h : s.router.msixMask.testBit v = true) :
    msix v s = { s with router := { s.router with msixPend := s.router.msixPend ||| 2 ^ v } } := if_pos h

theorem msix_unmasked {s : State} {v : Nat} (h : s.router.msixMask.testBit v = false) :
    msix v s = emit (.msix v) (inc s (R.HDMA_CNT 1)) := by
  simp [msix, h]

/-- At most the message of its vector follows what was sent before. -/
theorem msix_out (v : Nat) (s : State) : ∃ l : List Out, l.length ≤ 1 ∧ (msix v s).out = l ++ s.out := by
  cases h : s.router.msixMask.testBit v with
  | true => exact ⟨[], by decide, by rw [msix_masked h]; rfl⟩
  | false => exact ⟨[.msix v], le_refl 1, by rw [msix_unmasked h, emit_out, inc_out]; rfl⟩

/-- A message writes the counter of messages alone. -/
theorem rd_msix_other {a : Nat} (h : a < R.HDMA_CNT 1) (v : Nat) (s : State) : rd (msix v s) a = rd s a := by
  cases hm : s.router.msixMask.testBit v with
  | true => rw [msix_masked hm]; rfl
  | false => rw [msix_unmasked hm, rd_emit, rd_inc_other _ _ _ (by omega) (by omega)]

theorem ringSignal_out (k : Nat) (s : State) : ∃ l : List Out, l.length ≤ 1 ∧ (ringSignal k s).out = l ++ s.out :=
  msix_out _ _

theorem rd_ringSignal_other {a : Nat} (h : a < R.HDMA_CNT 1) (k : Nat) (s : State) : rd (ringSignal k s) a = rd s a :=
  (rd_msix_other h _ _).trans (rd_of_regs_eq _ _ _ rfl)

/-- What a completion leaves: its record, at most one message after it, and CONS one further (R466). -/
theorem complete_leaves {k : Nat} (hk : k < 64) (status kind tc src len time : Nat) (coarse : Bool) (s : State) :
    rdf (complete k status kind tc src len time coarse s) (R.HDMA_RING_IDX k) 31 16 =
      (rdf s (R.HDMA_RING_IDX k) 31 16 + 1) % 65536 ∧
    ∃ l : List Out, l.length ≤ 1 ∧ (complete k status kind tc src len time coarse s).out =
      l ++ (.completion k (cnt s (R.HDMA_RING_CMPL k) + 16 * (rdf s (R.HDMA_RING_IDX k) 31 16 % ringSize s k))
        (completionWord (rdf s (R.HDMA_RING_STATE k) 16 16) tc src status kind coarse) len time :: s.out) := by
  unfold complete
  extract_lets cons size phase w0 addr s1 s2 s3 s4 u _ s5
  have hout : s5.out = .completion k addr w0 len time :: s.out := by
    have h4 : s4.out = s3.out := by
      unfold s4
      split
      · exact wrf_out ..
      · rfl
    rw [show s5.out = s4.out from rfl, h4]
    unfold s3 s2 s1
    rw [wrf_out, inc_out, emit_out]
  have hidx : rdf s5 (R.HDMA_RING_IDX k) 31 16 = (cons + 1) % 65536 := by
    have h4 : rdf s4 (R.HDMA_RING_IDX k) 31 16 = rdf s3 (R.HDMA_RING_IDX k) 31 16 := by
      unfold s4
      split
      · exact rdf_wrf_other _ _ _ _ _ _ _ _ (by simp only [R.HDMA_RING_IDX, R.HDMA_RING_STATE]; omega)
      · rfl
    rw [show rdf s5 _ 31 16 = rdf s4 (R.HDMA_RING_IDX k) 31 16 from rfl, h4]
    exact rdf_wrf_same _ _ _ _ _ (by decide) (by decide)
  clear_value s5
  have hlow : R.HDMA_RING_IDX k < R.HDMA_CNT 1 := by simp only [R.HDMA_RING_IDX, R.HDMA_CNT]; omega
  split
  · obtain ⟨l, hl, hsent⟩ := ringSignal_out k s5
    refine ⟨?_, l, hl, hsent.trans (by rw [hout]; rfl)⟩
    rw [rdf, rd_ringSignal_other hlow]
    exact hidx
  · exact ⟨hidx, [], by decide, hout⟩

/-- Settles O34: the completion's word laid out field by field, what it leaves, and the two answers of a vector. -/
theorem completionRecord : Obligations.CompletionRecord := by
  refine ⟨fun s k status kind tc src len time coarse hk hstatus hkind htc hsrc => ?_,
    fun s v => ⟨fun hmask => ?_, fun hmask => ?_⟩⟩
  · obtain ⟨hidx, l, hl, hout⟩ := complete_leaves hk status kind tc src len time coarse s
    have hphase : rdf s (R.HDMA_RING_STATE k) 16 16 < 2 := fld_lt _ 16 16
    obtain ⟨hkind, hstatus, hzero, hsrc, htc, hcoarse, hphase⟩ := completionWord_layout hphase htc hsrc hstatus hkind coarse
    refine ⟨hidx, _, l, hl, hout, hkind, hstatus, hzero, hsrc, htc, ?_, ?_⟩
    · rw [testBit_eq_fld, hcoarse]
      cases coarse <;> rfl
    · rw [testBit_eq_fld, hphase, rdb, testBit_eq_fld, rdf]
  · rw [msix_masked hmask]
    exact ⟨by simp, rfl, rfl⟩
  · rw [msix_unmasked hmask]
    exact ⟨by simp, by simp⟩

end Sys2Proof.Machine
end

section
/-! PROOFS of the statements of the recorder and the reaction unit (R373 to R395): where the fields of a record lie, what
recording leaves in a ring, the sampling of traces, the level of FAULT_N, and the completion of their commands. -/

namespace Sys2Proof.Machine

/-! ### Layout of a record (R386) -/

/-- The slate's fields in order, each with its width in bytes (R386). -/
def slateFields (r : Rec) : List (Nat × Nat) :=
  [(r.kind, 1), (r.flags, 1), (r.len, 2), (r.source, 2), (r.seq, 2), (r.devNs, 8), (r.globalNs / 1000000000, 6),
    (r.globalNs % 1000000000, 4), (r.timeState, 1), (0, 1), (r.aux, 4)]

theorem bytes_eq_slateFields (r : Rec) :
    r.bytes = (slateFields r).flatMap (fun f => leBytes f.1 f.2) ++ padTo r.body (r.len - 32) := by
  simp [slateFields, Rec.bytes, leBytes]

/-- A field among little-endian fields reads back at the sum of the widths before it. -/
theorem leAt_flatMap_leBytes (l : List (Nat × Nat)) (rest : List Byte) {i : Nat} (hi : i < l.length) :
    leAt (l.flatMap (fun f => leBytes f.1 f.2) ++ rest) ((l.take i).map Prod.snd).sum l[i].2 = l[i].1 % 256 ^ l[i].2 := by
  refine leAt_of_layout ((l.take i).flatMap (fun f => leBytes f.1 f.2))
    ((l.drop (i + 1)).flatMap (fun f => leBytes f.1 f.2) ++ rest) ?_ (by simp [List.length_flatMap])
  have hsplit : l = l.take i ++ l[i] :: l.drop (i + 1) := by
    rw [← List.drop_eq_getElem_cons hi, List.take_append_drop]
  simpa only [List.flatMap_append, List.flatMap_cons, List.append_assoc] using
    congrArg (fun m => m.flatMap (fun f => leBytes f.1 f.2) ++ rest) hsplit

theorem leAt_slateField (r : Rec) (i : Fin (slateFields r).length) :
    leAt r.bytes (((slateFields r).take i).map Prod.snd).sum (slateFields r)[i].2 =
      (slateFields r)[i].1 % 256 ^ (slateFields r)[i].2 := by
  rw [bytes_eq_slateFields]
  exact leAt_flatMap_leBytes _ _ i.isLt

/-- The body stands behind the 32 bytes of the slate. -/
theorem drop_bytes (r : Rec) : r.bytes.drop 32 = padTo r.body (r.len - 32) := by
  rw [bytes_eq_slateFields]
  exact List.drop_left' (by simp [slateFields])

theorem body_fits_len (r : Rec) : 32 + r.body.length ≤ r.len := by
  unfold Rec.len ceilDiv
  omega

theorem length_bytes (r : Rec) : r.bytes.length = r.len := by
  have hfit := body_fits_len r
  simp [bytes_eq_slateFields, slateFields, padTo]
  omega

/-- Settles O35: the slate's fields are numbers of fixed widths one after another, and the body follows them. -/
theorem recordLayout : Obligations.RecordLayout := by
  intro r
  have field := fun i : Fin 11 => leAt_slateField r i
  have hnanos : leAt r.bytes 22 4 = r.globalNs % 1000000000 % 256 ^ 4 := field 7
  refine ⟨length_bytes r, by unfold Rec.len; omega, body_fits_len r, field 0,
    field 1, field 2, field 3,
    field 4, field 5, field 6, hnanos.trans (by omega),
    field 8, field 9, field 10, ?_⟩
  rw [slice, drop_bytes, padTo, List.take_left']
  rfl

/-! ### Bytes of a ring (R387) -/

theorem recsBytes_eq_sum (l : List Rec) : recsBytes l = (l.map Rec.len).sum := List.sum_eq_foldl.symm

/-- Bytes that a record takes of the reserve for gap records. -/
def gapLen (x : Rec) : Nat := if x.kind = 5 then x.len else 0

/-- Bytes that a record takes of what the reserve leaves. -/
def plainLen (x : Rec) : Nat := if x.kind = 5 then 0 else x.len

theorem gapBytes_eq_sum (l : List Rec) : gapBytes l = (l.map gapLen).sum := by
  rw [gapBytes, recsBytes_eq_sum]
  induction l with
  | nil => rfl
  | cons x t ih => by_cases hx : x.kind = 5 <;> simpa [gapLen, hx] using ih

theorem plainBytes_eq_sum (l : List Rec) : plainBytes l = (l.map plainLen).sum := by
  rw [plainBytes, recsBytes_eq_sum]
  induction l with
  | nil => rfl
  | cons x t ih => by_cases hx : x.kind = 5 <;> simpa [plainLen, hx] using ih

theorem gapBytes_add_plainBytes (l : List Rec) : gapBytes l + plainBytes l = recsBytes l := by
  have hsplit (x : Rec) : gapLen x + plainLen x = x.len := by
    unfold gapLen plainLen
    split <;> omega
  rw [gapBytes_eq_sum, plainBytes_eq_sum, recsBytes_eq_sum, ← List.sum_map_add]
  simp only [hsplit]

/-- A ring whose records are some of another's holds no more bytes of either kind. -/
theorem gapBytes_le_of_sublist {l m : List Rec} (h : l.Sublist m) : gapBytes l ≤ gapBytes m := by
  simpa only [gapBytes_eq_sum] using (h.map gapLen).sum_le_sum fun _ _ => Nat.zero_le _

theorem plainBytes_le_of_sublist {l m : List Rec} (h : l.Sublist m) : plainBytes l ≤ plainBytes m := by
  simpa only [plainBytes_eq_sum] using (h.map plainLen).sum_le_sum fun _ _ => Nat.zero_le _

/-- The reserve and the rest make up the ring (R387). -/
theorem recRoom_add (s : State) (r : Nat) : recRoom s r true + recRoom s r false = recRingBytes s r := by
  simp only [recRoom, if_true, Bool.false_eq_true, if_false]
  omega

theorem dropOldest_sublist (keep : Rec → Bool) (excess : Nat) (l : List Rec) : (dropOldest keep excess l).Sublist l := by
  induction l generalizing excess with
  | nil => exact .slnil
  | cons x t ih =>
    unfold dropOldest
    split
    · exact .refl _
    · split
      · exact (ih _).cons_cons x
      · exact (ih _).cons x

/-! ### A record put into its ring (R386) -/

/-- The record `y` stands after `x`: of the same device tick with a higher source number, and not gone to the host while `x`
waits to go (R386, R391). -/
def StandsAfter (x y : Rec) : Prop :=
  y.devNs / 1000 = x.devNs / 1000 ∧ x.source < y.source ∧ (x.fresh = true → y.fresh = true)

/-- The next sequence number for a record that another was put before. -/
def renumber (y : Rec) : Rec := { y with seq := (y.seq + 1) % 0x10000 }

/-- Where a record goes: behind all but the last records that stand after it, and those are renumbered. -/
theorem recInsert_split (x : Rec) (seq : Nat) (l : List Rec) : ∃ pre post n, l = pre ++ post ∧
    recInsert x seq l = pre ++ { x with seq := n } :: post.map renumber ∧ (∀ y ∈ post, StandsAfter x y) ∧
    (∀ z ∈ pre.getLast?, ¬ StandsAfter x z) ∧ (post = [] → n = seq) := by
  unfold recInsert
  extract_lets later tail
  have hlater (y : Rec) : later y = true ↔ StandsAfter x y := by
    simp [later, StandsAfter, and_assoc, imp_iff_not_or]
  have htail : tail = l.rtakeWhile later := rfl
  clear_value tail later
  have hl : l = l.rdropWhile later ++ tail := by rw [htail, List.rdropWhile_append_rtakeWhile]
  have hpre : l.take (l.length - tail.length) = l.rdropWhile later := by
    conv_lhs => rw [hl]
    simp
  refine ⟨l.rdropWhile later, tail, _, hl, by rw [hpre]; rfl, fun y hy => ?_, fun z hz => ?_, ?_⟩
  · rw [htail] at hy
    exact (hlater y).mp (List.mem_rtakeWhile_imp hy)
  · obtain ⟨hne, rfl⟩ := List.mem_getLast?_eq_getLast hz
    exact fun hz => List.rdropWhile_last_not later l hne ((hlater _).mpr hz)
  · rintro rfl
    rfl

/-- What counts records without their sequence numbers counts one more. -/
theorem sum_map_recInsert {w : Rec → Nat} (hw : ∀ y n, w { y with seq := n } = w y) (x : Rec) (seq : Nat) (l : List Rec) :
    ((recInsert x seq l).map w).sum = (l.map w).sum + w x := by
  obtain ⟨pre, post, n, rfl, hins, -, -, -⟩ := recInsert_split x seq l
  have hpost : (post.map renumber).map w = post.map w := by
    rw [List.map_map]
    exact List.map_congr_left fun y _ => hw y _
  rw [hins, List.map_append, List.map_cons, hpost, hw, List.map_append, List.sum_append, List.sum_append, List.sum_cons]
  omega

theorem gapBytes_recInsert (x : Rec) (seq : Nat) (l : List Rec) : gapBytes (recInsert x seq l) = gapBytes l + gapLen x := by
  rw [gapBytes_eq_sum, gapBytes_eq_sum, sum_map_recInsert fun _ _ => rfl]

theorem plainBytes_recInsert (x : Rec) (seq : Nat) (l : List Rec) :
    plainBytes (recInsert x seq l) = plainBytes l + plainLen x := by
  rw [plainBytes_eq_sum, plainBytes_eq_sum, sum_map_recInsert fun _ _ => rfl]

/-- A record that none stands after is the last one, under the ring's next sequence number. -/
theorem getLast?_recInsert {x : Rec} {l : List Rec} (h : ∀ y ∈ l, ¬ StandsAfter x y) (seq : Nat) :
    (recInsert x seq l).getLast? = some { x with seq := seq } := by
  obtain ⟨pre, post, n, rfl, hins, hpost, -, hn⟩ := recInsert_split x seq l
  have hnil : post = [] := List.eq_nil_iff_forall_not_mem.mpr fun y hy => h y (List.mem_append_right _ hy) (hpost y hy)
  rw [hins, hn hnil, hnil]
  simp

/-- The order of a ring: by device tick, and within one by source number (R386). -/
def RecLe (a b : Rec) : Prop := a.devNs / 1000 < b.devNs / 1000 ∨ (a.devNs / 1000 = b.devNs / 1000 ∧ a.source ≤ b.source)

/-- Whatever a record of the latest tick does not stand before, stands before it. -/
theorem recLe_of_not_standsAfter {x y z : Rec} (hyz : y = z ∨ RecLe y z) (hz : ¬ StandsAfter x z)
    (hy : y.devNs / 1000 ≤ x.devNs / 1000) (htick : z.devNs / 1000 ≤ x.devNs / 1000)
    (hfresh : x.fresh = true → z.devNs / 1000 = x.devNs / 1000 → z.fresh = true) : RecLe y x := by
  have hsource : z.devNs / 1000 = x.devNs / 1000 → z.source ≤ x.source := fun heq =>
    Nat.not_lt.mp fun hlt => hz ⟨heq, hlt, fun hx => hfresh hx heq⟩
  unfold RecLe at hyz ⊢
  rcases hyz with rfl | hlt | ⟨heq, hle⟩ <;> omega

/-- A record of the latest tick goes where the order has it, where none of its tick has gone to the host without it. -/
theorem pairwise_recInsert {x : Rec} {l : List Rec} (hl : l.Pairwise RecLe)
    (htick : ∀ y ∈ l, y.devNs / 1000 ≤ x.devNs / 1000)
    (hfresh : x.fresh = true → ∀ y ∈ l, y.devNs / 1000 = x.devNs / 1000 → y.fresh = true) (seq : Nat) :
    (recInsert x seq l).Pairwise RecLe := by
  obtain ⟨pre, post, n, rfl, hins, hpost, hlast, -⟩ := recInsert_split x seq l
  obtain ⟨hpre, hpostOrd, hcross⟩ := List.pairwise_append.mp hl
  have hbefore : ∀ y ∈ pre, RecLe y x := by
    intro y hy
    obtain ⟨init, z, rfl⟩ := (List.eq_nil_or_concat' pre).resolve_left (List.ne_nil_of_mem hy)
    have hyz : y = z ∨ RecLe y z := by
      rcases List.mem_append.mp hy with hy | hy
      · exact .inr ((List.pairwise_append.mp hpre).2.2 y hy z (List.mem_singleton_self z))
      · exact .inl (List.mem_singleton.mp hy)
    have hz : z ∈ (init ++ [z]) ++ post := by simp
    exact recLe_of_not_standsAfter hyz (hlast z (by simp)) (htick y (List.mem_append_left _ hy)) (htick z hz)
      fun hx => hfresh hx z hz
  have hafter : ∀ y ∈ post, RecLe x y := fun y hy => .inr ⟨(hpost y hy).1.symm, (hpost y hy).2.1.le⟩
  rw [hins]
  refine List.pairwise_append.mpr
    ⟨hpre, List.pairwise_cons.mpr ⟨?_, List.pairwise_map.mpr hpostOrd⟩, fun y hy z hz => ?_⟩
  · intro z hz
    obtain ⟨y, hy, rfl⟩ := List.mem_map.mp hz
    exact hafter y hy
  · rcases List.mem_cons.mp hz with rfl | hz
    · exact hbefore y hy
    · obtain ⟨w, hw, rfl⟩ := List.mem_map.mp hz
      exact hcross y hy w hw

/-! ### What recording leaves in a ring (R387) -/

theorem recBuffer_keeps (c n : Nat) (s : State) :
    (recBuffer c n s).2.regs = s.regs ∧ (recBuffer c n s).2.recd.rings = s.recd.rings := by
  unfold recBuffer
  extract_lets s1 w
  split
  · exact ⟨rfl, rfl⟩
  · split <;> exact ⟨rfl, rfl⟩

theorem rdf_of_regs_eq {s t : State} (h : t.regs = s.regs) (a hi lo : Nat) : rdf t a hi lo = rdf s a hi lo := by
  rw [rdf, rd_of_regs_eq s t a h, rdf]

theorem recRingBytes_of_regs_eq {s t : State} (h : t.regs = s.regs) (r : Nat) : recRingBytes t r = recRingBytes s r := by
  rw [recRingBytes, rdf_of_regs_eq h, recRingBytes]

/-- `t` is `s` with the records `l` in ring `r`: the ring is as large as it was, and the other rings are as they were. -/
structure RingHolds (r : Nat) (l : List Rec) (s t : State) : Prop where
  holds : t.recd.rings.getD r [] = l
  others : ∀ j, j ≠ r → t.recd.rings.get? j = s.recd.rings.get? j
  size : recRingBytes t r = recRingBytes s r

theorem RingHolds.of_eq {s t : State} (r : Nat) (hrings : t.recd.rings = s.recd.rings) (hregs : t.regs = s.regs) :
    RingHolds r (s.recd.rings.getD r []) s t :=
  ⟨by rw [hrings], fun _ _ => by rw [hrings], recRingBytes_of_regs_eq hregs r⟩

theorem RingHolds.recAppend {r : Nat} {l : List Rec} {s u : State} (h : RingHolds r l s u) (x : Rec) (kept : List Rec) :
    RingHolds r (recInsert x (rdf u (R.REC_RING_STATE r) 15 0) kept) s (recAppend r x kept u) := by
  obtain ⟨-, hothers, hsize⟩ := h
  unfold Machine.recAppend
  refine ⟨?_, fun j hj => ?_, ?_⟩
  · rw [wr_recd, wrf_recd, SMap.getD_put, if_pos rfl]
  · rw [wr_recd, wrf_recd, SMap.get?_put_other _ _ _ _ hj, hothers j hj]
  · have hcfg : R.REC_RING r ≠ R.REC_RING_HEAD r ∧ R.REC_RING r ≠ R.REC_RING_STATE r := by
      simp only [R.REC_RING, R.REC_RING_HEAD, R.REC_RING_STATE]; omega
    rw [← hsize, recRingBytes, rdf_wr_other _ _ _ _ _ _ hcfg.1, rdf_wrf_other _ _ _ _ _ _ _ _ hcfg.2]
    rfl

theorem RingHolds.recKeep {r : Nat} {l : List Rec} {s u : State} (h : RingHolds r l s u) (kept : List Rec) :
    RingHolds r kept s (recKeep r kept u) := by
  obtain ⟨-, hothers, hsize⟩ := h
  unfold Machine.recKeep
  refine ⟨?_, fun j hj => ?_, ?_⟩
  · rw [wr_recd, SMap.getD_put, if_pos rfl]
  · rw [wr_recd, SMap.get?_put_other _ _ _ _ hj, hothers j hj]
  · have hcfg : R.REC_RING r ≠ R.REC_RING_TAIL r := by simp only [R.REC_RING, R.REC_RING_TAIL]; omega
    rw [← hsize, recRingBytes, rdf_wr_other _ _ _ _ _ _ hcfg]
    rfl

theorem RingHolds.noteLoss {r : Nat} {l : List Rec} {s u : State} (h : RingHolds r l s u) (k reason bytes : Nat) :
    RingHolds r l s (noteLoss k reason bytes u) :=
  ⟨h.holds, h.others, h.size⟩

theorem rdf_state_recKeep (r : Nat) (kept : List Rec) (s : State) :
    rdf (recKeep r kept s) (R.REC_RING_STATE r) 15 0 = rdf s (R.REC_RING_STATE r) 15 0 := by
  unfold recKeep
  rw [rdf_wr_other _ _ _ _ _ _ (by simp only [R.REC_RING_STATE, R.REC_RING_TAIL]; omega)]
  rfl

/-- What recording `x` leaves in its ring: what of it was kept, and `x` put into that where its part of the ring has room. -/
theorem recPush_cases (r : Nat) (x : Rec) (s : State) : ∃ kept, kept.Sublist (s.recd.rings.getD r []) ∧
    (((recPush r x s).1 = false ∧ RingHolds r kept s (recPush r x s).2) ∨
    ((recPush r x s).1 = true ∧ RingHolds r (recInsert x (rdf s (R.REC_RING_STATE r) 15 0) kept) s (recPush r x s).2 ∧
      (x.kind = 5 → gapBytes kept + x.len ≤ recRoom s r true) ∧
      (x.kind ≠ 5 → plainBytes kept + x.len ≤ recRoom s r false))) := by
  unfold recPush
  extract_lets gap q s1 old room keep kept s2
  obtain ⟨hregs, hrings⟩ := recBuffer_keeps (if gap then 0 else r) x.len s
  have hold : old = s.recd.rings.getD r [] := congrArg (SMap.getD · r []) hrings
  have h1 : RingHolds r old s s1 := hold ▸ .of_eq r hrings hregs
  have hseq : rdf s1 (R.REC_RING_STATE r) 15 0 = rdf s (R.REC_RING_STATE r) 15 0 := rdf_of_regs_eq hregs _ _ _
  have hroom (g : Bool) : recRoom s1 r g = recRoom s r g := by rw [recRoom, recRingBytes_of_regs_eq hregs, recRoom]
  clear_value s1
  have hkept : kept.Sublist old := dropOldest_sublist _ _ _
  clear_value kept
  rw [← hold]
  split
  · next hgap =>
    have hkind : x.kind = 5 := beq_iff_eq.mp hgap
    split
    · next hfits =>
      exact ⟨old, .refl _, .inr ⟨rfl, hseq ▸ h1.recAppend x old, fun _ => hroom true ▸ hfits,
        fun hplain => absurd hkind hplain⟩⟩
    · exact ⟨old, .refl _, .inl ⟨rfl, h1⟩⟩
  · next hgap =>
    have hkind : x.kind ≠ 5 := fun h => hgap (beq_iff_eq.mpr h)
    split
    · exact ⟨old, .refl _, .inl ⟨rfl, h1.noteLoss _ _ _⟩⟩
    · split
      · exact ⟨kept, hkept, .inl ⟨rfl, (h1.recKeep kept).noteLoss _ _ _⟩⟩
      · next hfits =>
        refine ⟨kept, hkept, .inr ⟨rfl, ?_, fun h => absurd h hkind, fun _ => hroom false ▸ Nat.not_lt.mp hfits⟩⟩
        rw [← hseq, ← rdf_state_recKeep r kept s1]
        exact (h1.recKeep kept).recAppend x kept

/-- Both parts of a ring within their room: so is the ring within its size. -/
theorem RingHolds.fits {r : Nat} {l : List Rec} {s t : State} (h : RingHolds r l s t) (hgap : gapBytes l ≤ recRoom s r true)
    (hplain : plainBytes l ≤ recRoom s r false) :
    gapBytes (t.recd.rings.getD r []) ≤ recRoom t r true ∧ plainBytes (t.recd.rings.getD r []) ≤ recRoom t r false ∧
    recsBytes (t.recd.rings.getD r []) ≤ recRingBytes t r ∧ recRingBytes t r = recRingBytes s r ∧
    (∀ j, j ≠ r → t.recd.rings.get? j = s.recd.rings.get? j) := by
  obtain ⟨rfl, hothers, hsize⟩ := h
  have hroom (g : Bool) : recRoom t r g = recRoom s r g := by rw [recRoom, hsize, recRoom]
  rw [hroom, hroom, hsize, ← gapBytes_add_plainBytes, ← recRoom_add]
  exact ⟨hgap, hplain, Nat.add_le_add hgap hplain, rfl, hothers⟩

/-- Settles O36: what is kept holds no more than the ring did, and a record that is kept fits beside it, put where the order has
it. -/
theorem recorderRingFits : Obligations.RecorderRingFits := by
  intro s r x _ hgap hplain t
  obtain ⟨kept, hkept, ⟨hlost, hring⟩ | ⟨-, hring, hgapRoom, hplainRoom⟩⟩ := recPush_cases r x s
  all_goals
    have hgapKept := (gapBytes_le_of_sublist hkept).trans hgap
    have hplainKept := (plainBytes_le_of_sublist hkept).trans hplain
  · obtain ⟨hg, hp, hb, hsize, hothers⟩ := hring.fits hgapKept hplainKept
    refine ⟨hg, hp, hb, hsize, hothers, fun hpushed => absurd (hlost.symm.trans hpushed) (by decide), fun hord _ _ => ?_⟩
    rw [hring.holds]
    exact hord.sublist hkept
  · have hfits : gapBytes kept + gapLen x ≤ recRoom s r true ∧ plainBytes kept + plainLen x ≤ recRoom s r false := by
      unfold gapLen plainLen
      split
      · next hkind => exact ⟨hgapRoom hkind, hplainKept⟩
      · next hkind => exact ⟨hgapKept, hplainRoom hkind⟩
    rw [← gapBytes_recInsert, ← plainBytes_recInsert] at hfits
    obtain ⟨hg, hp, hb, hsize, hothers⟩ := hring.fits hfits.1 hfits.2
    refine ⟨hg, hp, hb, hsize, hothers, fun _ hlast => ?_, fun hord htick hfresh => ?_⟩
    · rw [hring.holds]
      refine getLast?_recInsert (fun y hy hafter => ?_) _
      obtain ⟨hsame, hlater, -⟩ := hafter
      exact absurd (hlast y (hkept.subset hy) hsame) (Nat.not_le.mpr hlater)
    · rw [hring.holds]
      exact pairwise_recInsert (hord.sublist hkept) (fun y hy => htick y (hkept.subset hy))
        (fun hx y hy => hfresh hx y (hkept.subset hy)) _

/-! ### Sampling of traces (R390) -/

/-- TRACE_HWM is exceeded and the shift can still rise (R390). -/
def TraceUp (s : State) : Prop :=
  rd s R.REC_TRACE_HWM < rd s (R.CPL_PORT_LOGICAL 44) ∧ rdf s R.REC_STATUS 27 24 < 10

/-- `s` after `n` quiet milliseconds. -/
def quietFor (n : Nat) (s : State) : State := { s with recd := { s.recd with quiet := n } }

theorem traceSampleAdjustDo_up {s : State} (h : TraceUp s) :
    traceSampleAdjustDo s = quietFor 0 (raise 452 (wrf s R.REC_STATUS 27 24 (rdf s R.REC_STATUS 27 24 + 1))) := by
  unfold TraceUp at h
  simp [traceSampleAdjustDo, h, quietFor]

/-- Below the high-water mark a quiet millisecond is counted, and the thousandth lowers the shift. -/
theorem traceSampleAdjustDo_quiet {s : State} (h : ¬ TraceUp s)
    (hlow : rd s (R.CPL_PORT_LOGICAL 44) < rd s R.REC_TRACE_HWM / 4) :
    traceSampleAdjustDo s =
      if s.recd.quiet + 1 = 1000 ∧ 0 < rdf s R.REC_STATUS 27 24 then
        quietFor 0 (wrf s R.REC_STATUS 27 24 (rdf s R.REC_STATUS 27 24 - 1))
      else quietFor (s.recd.quiet + 1) s := by
  unfold TraceUp at h
  simp only [traceSampleAdjustDo, if_neg h, if_pos hlow, quietFor, wrf_recd]

theorem traceSampleAdjustDo_busy {s : State} (h : ¬ TraceUp s)
    (hhigh : ¬ rd s (R.CPL_PORT_LOGICAL 44) < rd s R.REC_TRACE_HWM / 4) : traceSampleAdjustDo s = quietFor 0 s := by
  unfold TraceUp at h
  simp [traceSampleAdjustDo, h, hhigh, quietFor]

/-- A trace is seen, and admitted where its number is a multiple of two to the shift; else it is counted as sampled out. -/
theorem traceSample_leaves (src bytes : Nat) (s : State) :
    (traceSample src bytes s).2.recd.traceSeen.get? src = some (s.recd.traceSeen.getD src 0 + 1) ∧
    ((traceSample src bytes s).1 = true ↔ (s.recd.traceSeen.getD src 0 + 1) % 2 ^ rdf s R.REC_STATUS 27 24 = 0) ∧
    ((traceSample src bytes s).1 = false →
      cnt (traceSample src bytes s).2 (R.REC_CNT 7) = (cnt s (R.REC_CNT 7) + 1) % 2 ^ 64) := by
  unfold traceSample
  extract_lets n _ s1 g _ s2
  have hshift : rdf s1 R.REC_STATUS 27 24 = rdf s R.REC_STATUS 27 24 := rfl
  rw [hshift]
  split
  · next hnth => exact ⟨SMap.get?_put_same _ _ _, iff_of_true rfl hnth, nofun⟩
  · next hnth =>
    refine ⟨?_, iff_of_false Bool.false_ne_true hnth, fun _ => cnt_inc s2 _⟩
    rw [inc_recd]
    exact SMap.get?_put_same _ _ _

/-- Sampling leaves the pool and its counts alone. -/
theorem PoolKept.traceSample (src bytes : Nat) (s : State) : PoolKept s (traceSample src bytes s).2 := by
  unfold Machine.traceSample
  extract_lets n _ s1 g _ s2
  split
  · exact of_regs_eq rfl rfl
  · exact trans (t := s2) (of_regs_eq rfl rfl) (addCnt _ _ 1)

/-- A trace that is sampled out ends there: a trace copy has no stream to report to. -/
theorem copyTo_of_sampled_out {f : PFrame} {s : State} (h : (traceSample f.src (traceBytes f) s).1 = false) (fid : Nat)
    (hd : Hand) : copyTo fid f hd 44 s = (traceSample f.src (traceBytes f) s).2 := by
  have hjudge : copyJudge fid f hd 44 s = (.lost, (traceSample f.src (traceBytes f) s).2) := by
    have hcan : isCanPort 44 = false := by decide
    simp [copyJudge, hcan, h]
  rw [copyTo, hjudge, copyAfter, copyLost]
  split <;> rfl

/-- Settles O37: the three courses of the adjustment, and the two of a trace. -/
theorem traceSampling : Obligations.TraceSampling := by
  refine ⟨fun s ha => ?_, fun s src bytes => traceSample_leaves src bytes s, fun s fid f h hout => ?_⟩
  · intro held hwm k quiet
    have hexec {u : State} (h : traceSampleAdjustDo s = u) : exec .traceSampleAdjust s = .next (settle s u) :=
      exec_of_run rfl h rfl ha
    refine ⟨fun hup => hexec (traceSampleAdjustDo_up hup), fun hup hlow hlast hk => hexec ?_, fun hup hlow hnot => hexec ?_,
      fun hup hhigh => hexec (traceSampleAdjustDo_busy hup hhigh)⟩
    · rw [traceSampleAdjustDo_quiet hup hlow]
      exact if_pos ⟨hlast, hk⟩
    · rw [traceSampleAdjustDo_quiet hup hlow]
      exact if_neg hnot
  · obtain ⟨hpool, hcells, hdesc⟩ := PoolKept.traceSample f.src (traceBytes f) s
    rw [copyTo_of_sampled_out hout]
    exact ⟨rfl, hpool, hdesc, hcells⟩

/-! ### The level of FAULT_N (R380) -/

theorem rxuFaultnWriteDo_taken {s : State} {req : Requester} (hsafe : inSafe s = true) (hdone : rdb s R.RXU_FAULTN 1 = true)
    (hreq : hostOrPair req = true) (v : Word) :
    rxuFaultnWriteDo req v s = wrf (wrf s R.RXU_FAULTN 0 0 (v.toNat % 2)) R.RXU_STATUS 1 1 (v.toNat % 2) := by
  simp [rxuFaultnWriteDo, hsafe, hdone, hreq]

theorem rxuFaultnWriteDo_denied {s : State} {req : Requester}
    (h : inSafe s = false ∨ rdb s R.RXU_FAULTN 1 = false ∨ hostOrPair req = false) (v : Word) :
    rxuFaultnWriteDo req v s = deniedWrite req R.RXU_FAULTN s := by
  rcases h with h | h | h <;> simp [rxuFaultnWriteDo, h]

/-- Settles O38: a served write reaches the reaction unit on the raised state, which takes or denies it. -/
theorem faultNLevelWrite : Obligations.FaultNLevelWrite := by
  intro s req v _ hr hserved h
  have hexec {u : State} (hu : rxuFaultnWriteDo req v h = u) : exec (.rxuFaultnWrite req v) s = .next (settle s u) :=
    exec_of_run rfl ((access_of_served hserved).trans hu) rfl (acts_of_rung_le_two rfl rfl hr)
  exact ⟨fun hsafe hdone hreq => hexec (rxuFaultnWriteDo_taken hsafe hdone hreq v),
    fun hnot => hexec (rxuFaultnWriteDo_denied hnot v)⟩

/-! ### Completion of the reaction unit's and the recorder's commands -/

/-- Settles O46: each effect stands under its command's one guard, and what a guard looks up is what the hypotheses name. -/
theorem reactionAndRecorderCommandsComplete : Obligations.ReactionAndRecorderCommandsComplete := by
  refine ⟨?freeze, ?windowEnd, ?sampling, ?gap, ?frameLate, ?frameDue, ?pulse, ?tableFault, ?lineTest, ?settleEnd, ?escalate,
    ?resetDone, ?deassert, ?assert⟩
  case freeze => exact fun s nandOk corrected lost hwf ha hfreezing => exec_of_run rfl (if_pos hfreezing) hwf ha
  case windowEnd =>
    intro s w ha hwindow hdue
    exact exec_of_run rfl (by rw [hwindow]; exact if_pos hdue) rfl ha
  case sampling => exact fun s ha => exec_of_run rfl rfl rfl ha
  case gap =>
    intro s ring g hwf ha hgap
    exact exec_of_run rfl (by rw [hgap]) hwf ha
  case frameLate =>
    intro s b r hwf ha hframe hlate
    exact exec_of_run rfl (by rw [hframe]; exact if_pos hlate) hwf ha
  case frameDue =>
    intro s b r hwf ha hframe hdue
    exact exec_of_run rfl (by rw [hframe]; exact if_neg hdue) hwf ha
  case pulse =>
    intro s t ha hsince hdue
    exact exec_of_run rfl (by rw [hsince]; exact if_pos hdue) rfl ha
  case tableFault => exact fun s ecc hwf ha => exec_of_run rfl rfl hwf ha
  case lineTest => exact fun s l registered hwf ha hturn => exec_of_run rfl (if_neg hturn) hwf ha
  case settleEnd | assert => exact fun s l hwf ha => exec_of_run rfl rfl hwf ha
  case escalate =>
    intro s l a hwf ha hresetting hdue
    exact exec_of_run rfl (by rw [hresetting]; exact if_neg hdue) hwf ha
  case resetDone | deassert => exact fun s l hwf ha hmay => exec_of_run rfl (if_pos hmay) hwf ha

end Sys2Proof.Machine
end

section
/-! PROOFS of the statements of network management, the power ladder, the call sheet and updates (R332 to R369, R399 to R453):
coupling holds, the deepest permitted rung, the answers to scene requests, the session and its chunks, the answers of UDS, and
the completion of their commands. -/

namespace Sys2Proof.Machine

/-! ### Coupling holds (R342) -/

theorem mem_bitsOf {m n i : Nat} : i ∈ bitsOf m n ↔ i < n ∧ m.testBit i = true := by simp [bitsOf]

/-- A segment of the COUPLE set of segment `p` that is enabled gets its hold anew. -/
def holdFrom (p q : Nat) (s : State) : State :=
  if isSeg q && portEnabled s q then
    setSeg q { seg s q with coupleNs := s.devNs + rdf s (R.GAF_NM_TIMES_8 p) 31 16 * 1000000 } s
  else s

/-- A hold touches its own segment alone, and its time does not depend on the segment's state. -/
theorem seg_holdFrom (p q j : Nat) (s : State) : seg (holdFrom p q s) j =
    if j = q ∧ isSeg q = true ∧ portEnabled s q = true then
      { seg s j with coupleNs := s.devNs + rdf s (R.GAF_NM_TIMES_8 p) 31 16 * 1000000 }
    else seg s j := by
  unfold holdFrom
  by_cases hmay : isSeg q = true ∧ portEnabled s q = true
  · by_cases hj : j = q
    · subst hj
      simp [hmay]
    · simp [hmay, hj]
  · rw [if_neg (by simpa using hmay), if_neg (fun h => hmay h.2)]

/-- What a hold reads of the state beside the segments, no hold writes. -/
theorem holdFrom_reads (p q j : Nat) (s : State) : (holdFrom p q s).devNs = s.devNs ∧
    portEnabled (holdFrom p q s) j = portEnabled s j ∧ ∀ a hi lo, rdf (holdFrom p q s) a hi lo = rdf s a hi lo := by
  unfold holdFrom
  split <;> exact ⟨rfl, rfl, fun _ _ _ => rfl⟩

theorem seg_forEach_holdFrom (p : Nat) (l : List Nat) (j : Nat) (s : State) : seg (forEach l (holdFrom p) s) j =
    if j ∈ l ∧ isSeg j = true ∧ portEnabled s j = true then
      { seg s j with coupleNs := s.devNs + rdf s (R.GAF_NM_TIMES_8 p) 31 16 * 1000000 }
    else seg s j := by
  induction l generalizing s with
  | nil => simp [forEach]
  | cons q l ih =>
    obtain ⟨hdev, hport, hrd⟩ := holdFrom_reads p q j s
    rw [forEach, ih, hdev, hport, hrd, seg_holdFrom]
    rcases eq_or_ne j q with rfl | hj
    · by_cases hmay : isSeg j = true ∧ portEnabled s j = true
      · simp [hmay]
      · simp [hmay]
    · simp [hj]

/-- Settles O39: each hold of the set reaches its own segment, and a segment's hold is the same however often it is given. -/
theorem couplingHolds : Obligations.CouplingHolds := by
  intro s p q
  have hstart : coupleStart p s = forEach (bitsOf (cnt s (R.GAF_NM_SEG_COUPLE p)) 44) (holdFrom p) s := rfl
  rw [hstart, seg_forEach_holdFrom]
  simp only [mem_bitsOf, and_assoc]

/-! ### The deepest permitted rung (R357) -/

theorem foldl_min_le (l : List (Nat × Nat)) (m : Nat) :
    l.foldl (fun m x => min m x.2) m ≤ m ∧ ∀ x ∈ l, l.foldl (fun m x => min m x.2) m ≤ x.2 := by
  induction l generalizing m with
  | nil => exact ⟨le_refl m, nofun⟩
  | cons y l ih =>
    obtain ⟨hm, hl⟩ := ih (min m y.2)
    refine ⟨hm.trans (min_le_left _ _), fun x hx => ?_⟩
    rcases List.mem_cons.mp hx with rfl | hx
    · exact hm.trans (min_le_right _ _)
    · exact hl x hx

theorem foldl_min_attained (l : List (Nat × Nat)) (m : Nat) :
    l.foldl (fun m x => min m x.2) m = m ∨ ∃ x ∈ l, x.2 = l.foldl (fun m x => min m x.2) m := by
  induction l generalizing m with
  | nil => exact .inl rfl
  | cons y l ih =>
    rw [List.foldl_cons]
    rcases ih (min m y.2) with h | ⟨x, hx, h⟩
    · rcases min_choice m y.2 with hmin | hmin
      · exact .inl (h.trans hmin)
      · exact .inr ⟨y, List.mem_cons_self, (h.trans hmin).symm⟩
    · exact .inr ⟨x, List.mem_cons_of_mem _ hx, h⟩

/-- No rung is deeper than a limit in force. -/
theorem deepest_le_of_mem {s : State} {x : Nat × Nat} (h : x ∈ rungLimits s) : deepest s ≤ x.2 := (foldl_min_le _ _).2 x h

/-- Settles O40: a minimum over the limits is below each, and is one of them or the deepest rung. -/
theorem deepestPermittedRung : Obligations.DeepestPermittedRung := by
  intro s
  have limit (i : Nat) {x : Nat} (h : (i, x) ∈ rungLimits s) : deepest s ≤ x := deepest_le_of_mem h
  refine ⟨(foldl_min_le _ _).1, foldl_min_attained _ _, limit 1 ?_, limit 2 ?_, fun h => Nat.le_zero.mp (limit 3 ?_),
    fun h => limit 0 ?_, fun h => limit 4 ?_, fun h => limit 7 ?_, fun h => limit 6 ?_, fun h => limit 5 ?_⟩
  all_goals simp [rungLimits, *]

/-! ### Completion of network management's commands -/

/-- Settles O53: each effect stands under its command's guards, which the hypotheses decide. -/
theorem networkManagementCommandsComplete : Obligations.NetworkManagementCommandsComplete := by
  refine ⟨?judge, ?keepaliveRx, ?keepaliveTx, ?coupleHold, ?stuck, ?asleep, ?wrap, ?silence, ?request, ?need⟩
  case judge => exact fun s i hwf ha => exec_of_run rfl rfl hwf ha
  case keepaliveRx | stuck | asleep | request => exact fun s p hwf ha hmay => exec_of_run rfl (if_pos hmay) hwf ha
  case keepaliveTx | wrap => exact fun s p hwf ha => exec_of_run rfl rfl hwf ha
  case coupleHold => exact fun s p hwf ha hcoupled => exec_of_run rfl (if_neg hcoupled) hwf ha
  case silence =>
    exact fun s p hwf ha hwaits hdue => exec_of_run rfl ((if_neg hwaits).trans (if_pos hdue)) hwf ha
  case need => exact fun s ha hon => exec_of_run rfl (if_neg hon) rfl ha

/-! ### Scene requests (R414) -/

theorem reqRank_le_two (r : Requester) : reqRank r ≤ 2 := by
  unfold reqRank
  split
  · decide
  · split <;> decide

/-- The requests of one rank stand in order of arrival. -/
theorem filter_sceneOrder (l : List SceneReq) (k : Nat) :
    (sceneOrder l).filter (fun r => reqRank r.req == k) = l.filter (fun r => reqRank r.req == k) := by
  have hpick (i : Nat) : (l.filter (fun r => reqRank r.req == i)).filter (fun r => reqRank r.req == k) =
      if i = k then l.filter (fun r => reqRank r.req == k) else [] := by
    split
    · next h => rw [h, List.filter_filter]; simp
    · next h =>
      refine List.filter_eq_nil_iff.mpr fun r hr => ?_
      have hi : reqRank r.req = i := by simpa using (List.mem_filter.mp hr).2
      simpa [hi] using h
  rw [sceneOrder, List.filter_flatMap, List.flatMap_congr fun i _ => hpick i]
  by_cases hk : k ≤ 2
  · interval_cases k <;> simp
  · have hnone : l.filter (fun r => reqRank r.req == k) = [] := List.filter_eq_nil_iff.mpr fun r _ => by
      have hrank := reqRank_le_two r.req
      simp only [beq_iff_eq]
      omega
    simp [hnone]

/-- Putting requests in order neither loses nor adds one: each has as many copies among those of its rank as before. -/
theorem perm_sceneOrder (l : List SceneReq) : (sceneOrder l).Perm l := List.perm_iff_count.mpr fun r => by
  have hown : (reqRank r.req == reqRank r.req) = true := beq_self_eq_true _
  rw [← List.count_filter (p := fun x : SceneReq => reqRank x.req == reqRank r.req) hown, filter_sceneOrder,
    List.count_filter (p := fun x : SceneReq => reqRank x.req == reqRank r.req) hown]

theorem pairwise_sceneOrder (l : List SceneReq) : (sceneOrder l).Pairwise (fun a b => reqRank a.req ≤ reqRank b.req) := by
  have hrank {i : Nat} {r : SceneReq} (h : r ∈ l.filter (fun r => reqRank r.req == i)) : reqRank r.req = i := by
    simpa using (List.mem_filter.mp h).2
  have hrising : [0, 1, 2].Pairwise (· ≤ ·) := by decide
  refine List.pairwise_flatMap.mpr ⟨fun i _ => ?_, hrising.imp fun hij a ha b hb => ?_⟩
  · exact List.pairwise_of_forall_mem_list fun a ha b hb => (hrank ha).trans_le (hrank hb).ge
  · rw [hrank ha, hrank hb]
    exact hij

/-! ### Scene requests: the answer (R414) -/

/-- A scene that is not defined, or to which the present one does not switch (R414). -/
def SceneUndefined (s : State) (t : Nat) : Prop :=
  limp s = true ∨ (rdf s R.UPD_SCENE 31 16).testBit t = false ∨ rdb s (R.UPD_SCENE_ALLOWED (scene s)) t = false

/-- Before the start is done, or while a switch is pending (R414). -/
def SceneEarly (s : State) : Prop := startDone s = false ∨ rdb s R.UPD_SCENE 8 = true

theorem sceneAllowed_eq_false_iff (s : State) (t : Nat) : sceneAllowed t s = false ↔ SceneUndefined s t := by
  simp only [sceneAllowed, SceneUndefined, Bool.and_eq_false_iff, Bool.not_eq_false']
  tauto

section Ask

variable {s : State} {t : Nat}

theorem sceneAsk_undefined (h : SceneUndefined s t) : sceneAsk t s = (2, raise 495 (inc s (R.UPD_SCENE_CNT 1))) := by
  simp [sceneAsk, (sceneAllowed_eq_false_iff s t).mpr h]

variable (hdef : ¬ SceneUndefined s t)
include hdef

theorem sceneAllowed_of_defined : sceneAllowed t s = true := by
  rw [← sceneAllowed_eq_false_iff, Bool.not_eq_false] at hdef
  exact hdef

theorem sceneAsk_early (h : SceneEarly s) : sceneAsk t s = (1, raise 495 (inc s (R.UPD_SCENE_CNT 2))) := by
  rcases h with h | h <;> simp [sceneAsk, sceneAllowed_of_defined hdef, h]

/-- The present scene is asked for in vain; any other is pending for the boundary `n` of the next tick. -/
theorem sceneAsk_in_time (h : ¬ SceneEarly s) {n : Nat} (hn : nextTick s = n) : sceneAsk t s =
    if t = scene s then (0, s)
    else (0, wrf (wrf { s with upd := { s.upd with sceneNs := n } } R.UPD_SCENE 8 8 1) R.UPD_SCENE 7 4 t) := by
  obtain ⟨hstart, hpending⟩ : startDone s = true ∧ rdb s R.UPD_SCENE 8 = false := by simpa [SceneEarly] using h
  subst hn
  simp [sceneAsk, sceneAllowed_of_defined hdef, hstart, hpending]

end Ask

/-- The first request is asked, and every other one is answered BUSY. -/
theorem sceneServe_of_cons {s : State} {r : SceneReq} {rest : List SceneReq} (h : sceneOrder s.upd.sceneReqs = r :: rest) :
    sceneServe s = forEach rest sceneBusy (sceneEnd r (sceneAsk r.target { s with upd := { s.upd with sceneReqs := [] } }).1
      (sceneAsk r.target { s with upd := { s.upd with sceneReqs := [] } }).2) := by
  rw [sceneServe, h]

/-- Settles O41: the order keeps the requests and, within a rank, their order; the first is answered by the row that applies. -/
theorem sceneRequestAnswers : Obligations.SceneRequestAnswers := by
  refine ⟨fun s req t hwf ha => exec_of_run rfl rfl hwf ha,
    fun l => ⟨perm_sceneOrder l, pairwise_sceneOrder l, filter_sceneOrder l⟩, fun s hnone => ?_,
    fun s r rest hfirst => ?_, fun s r => ⟨rfl, fun hmbx code => ?_⟩⟩
  · rw [sceneServe, hnone]
    rfl
  · intro s' undefd early
    have hserve {code : Nat} {u : State} (h : sceneAsk r.target s' = (code, u)) :
        sceneServe s = forEach rest sceneBusy (sceneEnd r code u) := by
      rw [sceneServe_of_cons hfirst, h]
    have hasked (hdef : ¬ undefd) (hearly : ¬ early) := sceneAsk_in_time (s := s') hdef hearly (n := nextTick s) rfl
    refine ⟨fun hun => hserve (sceneAsk_undefined (s := s') hun),
      fun hdef hearly => hserve (sceneAsk_early (s := s') hdef hearly),
      fun hdef hearly hsame => hserve ((hasked hdef hearly).trans (if_pos hsame)),
      fun hdef hearly hother => hserve ((hasked hdef hearly).trans (if_neg hother))⟩
  · simp [sceneEnd, hmbx]

/-! ### Completion of the call sheet's and of updates' commands -/

/-- Settles O58: each effect stands under its command's one guard, and a verification finds the source that asked for it. -/
theorem sheetAndUpdateCommandsComplete : Obligations.SheetAndUpdateCommandsComplete := by
  unfold Obligations.SheetAndUpdateCommandsComplete
  refine ⟨?sceneSwitch, ?sceneRequest, ?sheetLoad, ?attest, ?stStatus, ?stConfirm, ?stActivate, ?stEnd, ?stCommit, ?stData,
    ?stOpen, ?unsupported, ?exit, ?transfer, ?download, ?results, ?confirm, ?activate, ?verify, ?writeDid, ?readDid, ?reset,
    ?control, ?routing, ?actTime, ?actPrepare, ?autoConfirm, ?deadline, ?clockSave, ?bootGood, ?moduleReset, ?timeout,
    ?verifyDone, ?chunk⟩
  case sceneSwitch => exact fun s ha hdue => exec_of_run rfl (if_neg (by simp [hdue])) rfl ha
  case sheetLoad | attest | actTime => exact fun s ha hmay => exec_of_run rfl (if_neg hmay) rfl ha
  case actPrepare | autoConfirm | deadline | clockSave | bootGood | moduleReset =>
    exact fun s ha hmay => exec_of_run rfl (if_pos hmay) rfl ha
  case stStatus | stConfirm | stActivate | stEnd | stCommit | timeout => exact fun s ha => exec_of_run rfl rfl rfl ha
  case stData => exact fun s seq data hwf ha hopen => exec_of_run rfl (if_neg hopen) hwf ha
  case stOpen | exit | confirm | activate | verify | routing => exact fun s x hwf ha => exec_of_run rfl rfl hwf ha
  case sceneRequest | unsupported | results | readDid | reset | control | chunk =>
    exact fun s x y hwf ha => exec_of_run rfl rfl hwf ha
  case transfer | writeDid => exact fun s doip x y hwf ha => exec_of_run rfl rfl hwf ha
  case download => exact fun s doip fmt alfid address size hwf ha => exec_of_run rfl rfl hwf ha
  case verifyDone =>
    intro s src ha hverifying hstart
    exact exec_of_run rfl (by rw [hverifying]; exact if_neg hstart) rfl ha

/-! ### The update session (R437, R438) -/

section Session

variable {s : State} {src : Nat}

theorem sessOpen_of_not_allowed (h : srcAllowed src s = false) : sessOpen src s = (2, s) := by simp [sessOpen, h]

theorem sessHeard_of_owner (h : sessOwner s = src) :
    sessHeard src s = { s with upd := { s.upd with sessNs := s.devNs } } := if_pos h

variable (hallowed : srcAllowed src s = true)
include hallowed

theorem sessOpen_of_owner (h : sessOwner s = src) :
    sessOpen src s = (0, { s with upd := { s.upd with sessNs := s.devNs } }) := by
  rw [← sessHeard_of_owner h]
  simp [sessOpen, hallowed, h]

theorem sessOpen_of_other (howner : sessOwner s ≠ src) (hsess : sess s ≠ 0) :
    sessOpen src s = (1, inc s (R.UPD_CNT 11)) := by
  simp [sessOpen, hallowed, howner, hsess, busyReply]

/-- A session that is free and that no better source asks for is the asker's. -/
theorem sessOpen_of_free (hsrc : 1 ≤ src) (hloader : loaderOnly s = false) (hsess : sess s = 0)
    (hfirst : sessOvertaken src s = false) :
    (sessOpen src s).1 = 0 ∧
    (sessOpen src s).2.regs = (raise 480 (inc (wrf s R.UPD_STATUS 23 20 src) (R.UPD_CNT 0))).regs := by
  have howner : sessOwner s ≠ src := by
    unfold sessOwner
    rw [hsess]
    simp
    omega
  unfold sessOpen
  rw [if_neg (by simp [hallowed]), if_neg howner, if_neg (by simp [hsess, hfirst])]
  extract_lets shown opened
  have hshown : shown = src := if_neg (by simp [hloader])
  have hopened : opened = raise 480 (inc (wrf s R.UPD_STATUS 23 20 src) (R.UPD_CNT 0)) := by rw [← hshown]
  rw [← hopened]
  clear_value opened
  -- taken apart, so that the kernel reads the registers off the record and does not compare whole states
  cases opened
  exact ⟨rfl, rfl⟩

end Session

theorem sess_of_regs_eq {s t : State} (h : t.regs = s.regs) : sess t = sess s := rdf_of_regs_eq h _ _ _

theorem cnt_of_regs_eq {s t : State} (h : t.regs = s.regs) (a : Nat) : cnt t a = cnt s a := by
  rw [cnt, rd_of_regs_eq s t _ h, rd_of_regs_eq s t _ h, cnt]

/-- A session's opening shows its source in UPD_STATUS and is counted, and the event that it raises changes neither. -/
theorem raise_session_shows {src : Nat} (hsrc : src < 16) (s : State) :
    sess (raise 480 (inc (wrf s R.UPD_STATUS 23 20 src) (R.UPD_CNT 0))) = src ∧
    cnt (raise 480 (inc (wrf s R.UPD_STATUS 23 20 src) (R.UPD_CNT 0))) (R.UPD_CNT 0) = (cnt s (R.UPD_CNT 0) + 1) % 2 ^ 64 := by
  have hkept := (RaiseKept.raise (src := 480) (by decide) (inc (wrf s R.UPD_STATUS 23 20 src) (R.UPD_CNT 0))).regs
  refine ⟨?_, ?_⟩
  · rw [sess, rdf, hkept _ (by decide), rd_inc_other _ _ _ (by decide) (by decide), ← rdf,
      rdf_wrf_same _ _ _ _ _ (by decide) (by decide)]
    exact Nat.mod_eq_of_lt hsrc
  · rw [cnt, hkept _ (by decide), hkept _ (by decide), ← cnt, cnt_inc, cnt_wrf_other (by decide) (by decide)]

/-! ### Chunks (R428) -/

section Chunk

variable {s : State} {src i : Nat} {b : List Byte}

theorem chunkStart_of_busy (h : s.upd.prog.isSome = true ∨ s.upd.verifying.isSome = true) :
    chunkStart src i b s = (1, inc s (R.UPD_CNT 11)) := by
  rcases h with h | h <;> simp [chunkStart, h, busyReply]

theorem chunkStart_of_gap (hprog : s.upd.prog = none) (hverifying : s.upd.verifying = none) (hi : i ≠ 0)
    (hnext : resumeIndex s ≠ some i) : chunkStart src i b s = (2, inc s (R.UPD_CNT 2)) := by
  simp [chunkStart, hprog, hverifying, hi, hnext]

/-- A chunk that is taken is the first or the next, whole, and programs for its source. -/
theorem chunkStart_taken (h : (chunkStart src i b s).1 = 0) :
    (∃ last, (chunkStart src i b s).2.upd.prog = some (b, last, src)) ∧ b.length = chunkLen i s ∧
    (i = 0 ∨ resumeIndex s = some i) := by
  unfold chunkStart at h ⊢
  extract_lets at h ⊢
  split_ifs at h ⊢ with hbusy hallowed hnext hlen
  obtain ⟨hlen, -⟩ := not_or.mp hlen
  exact ⟨⟨_, rfl⟩, not_not.mp hlen, or_iff_not_imp_left.mpr fun hi => not_not.mp fun hother => hnext ⟨hi, hother⟩⟩

end Chunk

theorem confirm_of_not_due {s : State} (h : inTrial s = false ∨ s.upd.bootGood = false ∨ trialOver s = true) :
    confirm s = (2, s) := by
  rcases h with h | h | h <;> simp [confirm, h]

/-- Settles O42: the session's and a chunk's cases in turn; an opened session shows its source. -/
theorem sessionAndChunks : Obligations.SessionAndChunks := by
  refine ⟨fun s src => ⟨sessOpen_of_not_allowed, sessOpen_of_owner, sessOpen_of_other,
    fun ha h1 h4 hloader hsess hfirst => ?_⟩,
    fun s src i b => ⟨chunkStart_of_busy, chunkStart_of_gap, chunkStart_taken⟩, fun s => confirm_of_not_due⟩
  obtain ⟨hcode, hregs⟩ := sessOpen_of_free ha h1 hloader hsess hfirst
  obtain ⟨hshown, hcount⟩ := raise_session_shows (src := src) (by omega) s
  have hsrc : sess (sessOpen src s).2 = src := (sess_of_regs_eq hregs).trans hshown
  have hfive : src ≠ 5 := by omega
  refine ⟨hcode, hsrc, ?_, (cnt_of_regs_eq hregs _).trans hcount⟩
  rw [sessOwner, hsrc, if_neg hfive]

/-! ### UDS (R439, R440, R444) -/

section Uds

variable {s : State} {doip : Bool} (hloader : loaderOnly s = false) (htester : doip = false ∨ s.upd.tester.isSome = true)
include hloader htester

/-- Outside LOADER_ONLY a request on CAN is heard, and one of a tester that has announced itself (R439, R444). -/
theorem uds_hears : (loaderOnly s || (doip && s.upd.tester.isNone)) = false := by
  rcases htester with h | h
  · simp [hloader, h]
  · simp [hloader, ← Option.not_isSome, h]

theorem udsRequest_denied (h : srcAllowed (udsSrc doip) s = false) (sid : Nat) (f : Nat → State → State) :
    udsRequest doip sid f s = udsNeg (udsSrc doip) sid 0x22 (updResult 2 s) := by
  simp [udsRequest, uds_hears hloader htester, h]

theorem udsRequest_served (h : srcAllowed (udsSrc doip) s = true) (sid : Nat) (f : Nat → State → State) :
    udsRequest doip sid f s = f (udsSrc doip) (sessHeard (udsSrc doip) s) := by
  simp [udsRequest, uds_hears hloader htester, h]

end Uds

theorem udsIn_of_owner {s : State} {src : Nat} (h : sessOwner s = src) (sid : Nat) (f : State → State) :
    udsIn src sid f s = f s := if_pos h

/-- A service of the session, asked for outside it, is 0x7F. -/
theorem udsIn_of_other {s : State} {src : Nat} (h : sessOwner s ≠ src) (sid : Nat) (f : State → State) :
    udsIn src sid f s = udsNeg src sid 0x7F s := if_neg h

/-- The first of a register's four bytes, big-endian, is its field 31:24: RESULT, of UPD_STATUS. -/
theorem byteAt_beBytes_four (v : Nat) : byteAt (beBytes v 4) 0 = fld v 31 24 := by
  simp only [fld, beBytes, leBytes, byteAt, Nat.shiftRight_eq_div_pow]
  simp [Nat.div_div_eq_div_mul]

theorem didBytes_status (s : State) : didBytes s 0xFD00 = some (beBytes (rd s R.UPD_STATUS) 4) := by simp [didBytes]

/-- A result but DENIED, which is reported besides, is written and nothing else. -/
theorem updResult_of_ne_two {code : Nat} (h : code ≠ 2) (s : State) :
    updResult code s = wrf s R.UPD_STATUS 31 24 code := if_neg h

/-- Settles O43: the mapped codes, a source that is left out, the services in and out of their session, and RESULT's byte. -/
theorem negativeResponses : Obligations.NegativeResponses := by
  refine ⟨fun s src sid pos => ?codes, fun s doip did hr hloader htester hdenied hwf => ?denied,
    fun s doip hr hloader htester hallowed => ?served, fun s code hcode hne => ?status⟩
  case codes => exact ⟨rfl, rfl, rfl, rfl, rfl, rfl, rfl, rfl⟩
  case denied => exact exec_of_run rfl (udsRequest_denied hloader htester hdenied _ _) hwf (acts_of_run s _ hr)
  case served =>
    intro src h
    have hexec {c : Instr} {sid : Nat} {f : Nat → State → State} {u : State}
        (hrun : exec c s = run s c (udsRequest doip sid f s)) (hu : f src h = u) (hwf : c.wf = true) :
        exec c s = .next (settle s u) :=
      exec_of_run hrun ((udsRequest_served hloader htester hallowed sid f).trans hu) hwf (acts_of_run s c hr)
    refine ⟨fun seq len data hwf howner hdl hprog hseq => ?sequence, fun hother => ⟨fun seq data hwf => ?_, fun hwf => ?_,
      fun fmt alfid address size hwf => ?_, fun hwf => ?_⟩, fun did hwf hdid => ?identifier,
      fun r hwf howner hr => ?routine⟩
    case sequence =>
      refine hexec rfl ((udsIn_of_owner howner _ _).trans ?_) hwf
      simp [hdl, hprog, hseq]
    case identifier => exact hexec rfl (by rw [hdid]) hwf
    case routine => exact hexec rfl ((udsIn_of_owner howner _ _).trans (if_pos hr)) hwf
    all_goals exact hexec rfl (udsIn_of_other hother _ _) hwf
  case status =>
    refine ⟨_, didBytes_status _, ?_⟩
    rw [byteAt_beBytes_four, updResult_of_ne_two hne, ← rdf, rdf_wrf_same _ _ _ _ _ (by decide) (by decide)]
    exact Nat.mod_eq_of_lt hcode

end Sys2Proof.Machine
end
